-- ==== Sys2Proof/Word.lean ====
section
/-! DEFINITION. Word types of the module and the keyed table that holds its sparse objects. -/

namespace Sys2Proof

/-- One byte. -/
abbrev Byte := BitVec 8
/-- The bits of an IEEE 754 binary32 value. -/
abbrev F32 := BitVec 32
/-- A 32-bit word. -/
abbrev W32 := BitVec 32
/-- A 64-bit word. -/
abbrev W64 := BitVec 64
/-- A table of objects by number: numbers strictly rising. -/
abbrev Map (α : Type) := List (Nat × α)

/-- `a` rounded up to a multiple of `b` and divided by it. -/
def ceilDiv (a b : Nat) : Nat := (a + b - 1) / b

end Sys2Proof
end

