-- ==== Sys2Proof/Syntax.lean ====
section
/-! DEFINITION. The commands and events of spec/opcode_table.json, one constructor per row, and the operand types they
carry. Numbers of objects, counts and times are Nat; FP32 fields are their 32 bits. -/

namespace Sys2Proof

/-- The header of a command packet (Table 10-15) and the ring it came on. `copied` marks the application, on a partner,
of a COMMAND record of its active (R341); `scatter` is the list that the payload address and length describe with SCATTER set, as
(address, length) pairs (R282). -/
structure Hdr where
  fn : Nat
  ring : Nat
  tag : Nat
  tenant : Nat
  priority : Nat
  signal : Bool
  barrier : Bool
  rsvdZero : Bool
  inlineLength : Nat
  payloadAddr : Nat
  payloadLen : Nat
  scatter : Option (List (Nat × Nat))
  payloadOk : Bool
  copied : Bool
  deriving DecidableEq, Repr

/-- LAYER_MAP entry (Table 04-5). -/
structure LayerEntry where
  layer : Nat
  matrix : Nat
  mxint8 : Bool
  rowTile : Nat
  colTile : Nat
  slice : Nat
  string : Nat
  index : Nat
  rangeStep : Nat
  tile : Nat
  deriving DecidableEq, Repr

/-- A layer segment of the COST section (Table 04-4, R24); `heads` is h, 0 for a whole layer. -/
structure SegCost where
  stage : Nat
  layer : Nat
  heads : Nat
  queryHeads : Nat
  headDim : Nat
  arrays : Nat
  sl : Nat
  rangeStep : Nat
  deriving DecidableEq, Repr

/-- A head entry of the COST section (R419): `outrider` 0 is the output projection, n the outrider n. -/
structure HeadCost where
  slice : Nat
  outrider : Nat
  arrays : Nat
  se : Nat
  rangeStep : Nat
  deriving DecidableEq, Repr

/-- One output level of DETECTOR_HEAD (R199). -/
structure DetLevel where
  stride : F32
  gridW : Nat
  gridH : Nat
  anchors : List (F32 × F32)
  deriving DecidableEq, Repr

/-- DETECTOR_HEAD constants (R199, R200). -/
structure DetHead where
  scoreMin : F32
  iouMax : F32
  classAware : Bool
  levels : List DetLevel
  deriving DecidableEq, Repr

/-- Convolution and pooling descriptor (Table 07-9). -/
structure ConvDesc where
  pooling : Bool
  average : Bool
  countPad : Bool
  bfloat : Bool
  layoutIn32 : Bool
  layoutOut32 : Bool
  flagsRsvd : Nat
  kh : Nat
  kw : Nat
  strideH : Nat
  strideW : Nat
  dilH : Nat
  dilW : Nat
  padT : Nat
  padB : Nat
  padL : Nat
  padR : Nat
  padValue : Nat
  inH : Nat
  inW : Nat
  inC : Nat
  outC : Nat
  deriving DecidableEq, Repr

/-- The operand formats of the score unit (R54). -/
inductive ScoreFormat where
  | e4m3 | e5m2 | bfloat16
  deriving DecidableEq, Repr

/-- Constants of a layer's attention, from the step plan and the VECTOR_PARAMS section (R107, R110, R112): operand format, window,
key-kind mask, the static scales of each KV head, and the score factor c. -/
structure LayerParams where
  layer : Nat
  format : ScoreFormat
  window : Nat
  kindMask : Nat
  sigmaK : List F32
  sigmaV : List F32
  factor : F32
  deriving DecidableEq, Repr

/-- An entry of a bale's section directory (Table 04-3). -/
structure BaleSection where
  kind : Nat
  slice : Nat
  offset : Nat
  length : Nat
  deriving DecidableEq, Repr

/-- A bale (R88): its byte sequence, and what it holds: the header's fields, the section directory, the map, the tiles as 64-bit words
(R90), and the contents of the sections whose layout the spec leaves to Itinerary (log 116). -/
structure Bale where
  magic : Nat
  format : Nat
  generation : Nat
  kind : Nat
  totalLength : Nat
  digest : Nat
  modelId : Nat
  kvCompat : Nat
  itineraryVersion : Nat
  slices : Nat
  perString : Nat
  arraysTotal : Nat
  layers : Nat
  outriders : Nat
  kvHeads : Nat
  headDim : Nat
  vocab : Nat
  width : Nat
  tokeniserHash : Nat
  sections : List BaleSection
  layerMap : List LayerEntry
  tiles : List (List W64)
  scales : List (List Byte)
  segments : List SegCost
  heads : List HeadCost
  maxDepth : Nat
  vectorParams : List LayerParams
  embeds : List (Nat × Nat)
  /-- Position vectors of visual tokens: (crop, patch, vector) (R205). -/
  positions : List (Nat × Nat × List F32)
  detector : Option DetHead
  convs : List ConvDesc
  tDet : Nat
  bytes : List Byte
  deriving DecidableEq, Repr

/-- The template record (Table 06-2). -/
structure TemplateRec where
  bay : Nat
  lateReport : Bool
  countPrompt : Bool
  reportAll : Bool
  outKind : Nat
  maxDepth : Nat
  nAct : Nat
  priority : Nat
  zeroLimit : Nat
  fullLimit : Nat
  stopToken : Nat
  theta : F32
  alpha : F32
  beta : F32
  temperature : F32
  topP : F32
  topK : Nat
  named : Bool
  handle : Nat
  ttftGoal : Nat
  tbtGoal : Nat
  reportBase : Nat
  reportEntries : Nat
  rsvdZero : Bool
  deriving DecidableEq, Repr

/-- DEFINE_BAY parameters (Table 04-9). -/
structure BayParams where
  bay : Nat
  kind : Nat
  sliceMask : Nat
  tol : Nat
  perString : Nat
  swapMode : Nat
  autoSwap : Bool
  owner : Nat
  minDwell : Nat
  deriving DecidableEq, Repr

/-- SUBMIT_REQUEST parameters (Table 06-3). -/
structure SubmitParams where
  context : Nat
  template : Nat
  branch : Bool
  modeRsvd : Bool
  target : Nat
  stream : Nat
  nAct : Nat
  inputCount : Nat
  track : Nat
  when_ : Int
  seed : Nat
  deriving DecidableEq, Repr

/-- SET_CONVOY_POLICY parameters (Table 06-5). -/
structure PolicyParams where
  bay : Nat
  maxRequests : Nat
  maxTokens : Nat
  prefillChunk : Nat
  bounds : List Nat
  deriving DecidableEq, Repr

/-- OPEN_STREAM parameters and conversion record (Tables 07-1 and 07-2). -/
structure StreamParams where
  stream : Nat
  codec : Nat
  srtp : Bool
  vlanMatch : Bool
  timeSource : Nat
  c32 : Bool
  bfloat : Bool
  ports : Nat
  extId : Nat
  vlan : Nat
  udpPort : Nat
  maxWidth : Nat
  maxHeight : Nat
  frameRate : Nat
  ssrc : Nat
  cameraOffset : Nat
  frameBudget : Nat
  maxAuBytes : Nat
  matrix : Nat
  range : Nat
  channels : Nat
  bgr : Nat
  mean : List F32
  invStd : List F32
  deriving DecidableEq, Repr

/-- OPEN_ENCODE parameters and destination (Tables 07-6 and 07-7). -/
structure EncodeParams where
  session : Nat
  main10 : Bool
  cbr : Bool
  overlay : Bool
  srtp : Bool
  stream : Nat
  scale : Nat
  frameDiv : Nat
  idrPeriod : Nat
  bitRate : Nat
  cpbSize : Nat
  qpMin : Nat
  qpMax : Nat
  initialDelay : Nat
  destKind : Nat
  port : Nat
  vlan : Nat
  udpPort : Nat
  payloadType : Nat
  ipVersion : Nat
  ssrc : Nat
  destMac : Nat
  destIp : Nat
  ringEntries : Nat
  ringBase : Nat
  deriving DecidableEq, Repr

/-- A crop record (Table 07-12); `rsvd` holds its RSVD bits. -/
structure CropRec where
  expand : F32
  outH : Nat
  outW : Nat
  mode : Nat
  ratio : Nat
  patch : Nat
  square : Bool
  embed : Nat
  rsvd : Nat
  deriving DecidableEq, Repr

/-- DEFINE_ROUTE parameters (Table 07-11): `crops` are the crop records below CROPS, `others` those from CROPS on. -/
structure RouteParams where
  route : Nat
  stream : Nat
  detectorBay : Nat
  skip : Bool
  objectLimit : Nat
  context : Nat
  template : Nat
  actionStream : Nat
  track : Nat
  y0 : Nat
  k : F32
  sCell : Int
  lead : Nat
  crops : List CropRec
  others : List CropRec
  deriving DecidableEq, Repr

/-- SET_TIMEBASE parameters (Table 08-4). -/
structure TimebaseParams where
  bus : Bool
  ptp : Bool
  preferPtp : Bool
  ptpDomain : Nat
  ptpPorts : Nat
  transport : Nat
  peerDelay : Bool
  ptpVlan : Nat
  holdoverLimit : Nat
  step : Bool
  stepNs : Int
  deriving DecidableEq, Repr

/-- DEFINE_TRACK parameters (Table 08-6). -/
structure TrackParams where
  track : Nat
  auth : Bool
  sourceId : Nat
  window : Nat
  ports : Nat
  horizon : Nat
  span : Nat
  timeout : Nat
  vStop : Nat
  aMax : F32
  residMax : Nat
  deriving DecidableEq, Repr

/-- DEFINE_ACTION_STREAM parameters and outcome ring (Table 08-7, R224). -/
structure ActionParams where
  stream : Nat
  kind : Nat
  encrypt : Bool
  reportAll : Bool
  lineMode : Nat
  ports : Nat
  holdInput : Nat
  vlan : Nat
  destMac : Nat
  lineMask : Nat
  lead : Nat
  pulseWidth : Nat
  lineOffset : Int
  maxWait : Nat
  ringBase : Nat
  ringEntries : Nat
  deriving DecidableEq, Repr

/-- POST_LAUNCH parameters and tokens (Table 08-9). -/
structure PostParams where
  stream : Nat
  target : Nat
  tokenCount : Nat
  track : Nat
  when_ : Int
  lead : Nat
  tokens : List Nat
  deriving DecidableEq, Repr

/-- SCRUB_RANGE parameters (Table 09-15). -/
structure ScrubParams where
  cls : Nat
  unit : Nat
  rate : Nat
  start : Nat
  length : Nat
  deriving DecidableEq, Repr

/-- BEGIN_SHADOW parameters (Table 12-2). -/
structure ShadowParams where
  topK : Nat
  window : Nat
  agreeMin : Nat
  distMax : F32
  deriving DecidableEq, Repr

/-- An entry of a firmware manifest (Table 14-4). -/
structure PartEntry where
  partId : Nat
  cls : Nat
  recordFormat : Nat
  recordCompat : Nat
  version : Nat
  svn : Nat
  length : Nat
  hash : Nat
  deriving DecidableEq, Repr

/-- A firmware manifest (R403): `signedBytes` are the bytes before SIGNATURE; `chainRoot` is the hash of the key at the
end of its certificate chain and `signKey` the signing key. -/
structure Manifest where
  magic : Nat
  format : Nat
  generation : Nat
  version : Nat
  commitSvn : Bool
  chainRoot : Nat
  signKey : Nat
  entries : List PartEntry
  signedBytes : List Byte
  signature : Nat
  deriving DecidableEq, Repr

/-- What STAGE_PART stages: the manifest, or an image with its SHA-384; the payload's length is the packet's. -/
inductive StagedPayload where
  | manifest (m : Manifest)
  | image (hash : Nat)
  deriving DecidableEq, Repr

/-- What each firmware part does in one activation (R406, R407): the time of its window in nanoseconds and how it ended. -/
inductive PartWindow where
  | ok (ns : Nat)
  | noHandoverPoint (ns : Nat)
  | stateRejected (ns : Nat)
  | notReady (ns : Nat)
  | poisoned (ns : Nat)
  deriving DecidableEq, Repr

/-- An encoder frame body and its tag (Table 08-5). -/
structure EncFrame where
  ftype : Nat
  version : Nat
  auth : Bool
  rsvdZero : Bool
  sourceId : Nat
  sequence : Nat
  tSample : Nat
  position : Int
  tag : Nat
  deriving DecidableEq, Repr

/-- A PTP message as Milestone uses it (R216); `offset` is module time minus source time, as measured with the hardware
timestamps. -/
inductive PtpMsg where
  | announce (port domain transport : Nat) (vlan : Nat) (master : Nat) (intervalNs : Nat) (better : Bool)
  | event (port domain transport : Nat) (vlan : Nat) (master : Nat) (peerDelay : Bool) (offset : Int)
  | management (port : Nat)
  deriving DecidableEq, Repr

/-- An RTP packet (R173 to R176): `nal` is the payload's NAL unit type, `ext` the capture-time element when present. -/
structure RtpPacket where
  port : Nat
  vlan : Option Nat
  udpPort : Nat
  ssrc : Nat
  seq : Nat
  timestamp : Nat
  marker : Bool
  nal : Nat
  donFields : Bool
  extId : Nat
  ext : Option Nat
  length : Nat
  body : List Byte
  tag : Nat
  deriving DecidableEq, Repr

/-- An RTCP sender report (R175). -/
structure SenderRep where
  port : Nat
  vlan : Option Nat
  udpPort : Nat
  ssrc : Nat
  seconds : Nat
  fraction : Nat
  rtpTime : Nat
  /-- SRTCP index, 31 bits, of a report that comes as SRTCP (R174). -/
  index : Nat
  body : List Byte
  tag : Nat
  deriving DecidableEq, Repr

/-- Profiles of a coded stream (Table 07-4). -/
inductive VideoProfile where
  | high | constrainedBaseline | main | main10 | other
  deriving DecidableEq, Repr

/-- What the bitstream of an access unit holds, as the pipe's parser finds it (Tables 07-4 and 07-5). LEVEL is ten times the level's
number; `chroma` is chroma_format_idc; `otherTool` is a tool that Table 07-4 lists as not supported, beside field pictures. `usesRefs`
are the pictures it predicts from and `keeps` those that stay references after it, by picture number; `order` is its place in output
order. Samples are the reconstructed luma and chroma planes in raster order; `lost` are the blocks that the pipe could not reconstruct,
as luma rectangles (x, y, width, height), and `writes` what else it writes relative to the base of the target surface, by byte offset
(R184). -/
structure PictureData where
  width : Nat
  height : Nat
  bitDepth : Nat
  profile : VideoProfile
  level : Nat
  chroma : Nat
  fields : Bool
  otherTool : Bool
  idr : Bool
  irap : Bool
  cleanIrap : Bool
  recoveryPoint : Bool
  usesRefs : List Nat
  keeps : List Nat
  reference : Bool
  order : Int
  syntaxErrors : Nat
  paramMissing : Bool
  refMissing : Nat
  lost : List (Nat × Nat × Nat × Nat)
  writes : List (Int × List Byte)
  codedBits : Nat
  vuiMatrix : Nat
  vuiRange : Nat
  luma : List Nat
  cb : List Nat
  cr : List Nat
  deriving DecidableEq, Repr

/-- The detector's raw outputs for one anchor of one grid cell (R199), in level, row, column and anchor order. -/
structure RawCandidate where
  tx : F32
  ty : F32
  tw : F32
  th : F32
  obj : F32
  cls : List F32
  deriving DecidableEq, Repr

/-- One attention work item of a stage at a boundary (R108 to R119): the query position of a request at one layer with
its FP32 query heads and the FP32 K and V of the position before conversion, all of the heads that the stage's segment of the layer
carries (R24). -/
structure AttnWork where
  request : Nat
  layer : Nat
  position : Nat
  queries : List (List F32)
  keys : List (List F32)
  values : List (List F32)
  deriving DecidableEq, Repr

/-- One group-row of a vision bale's attention (R110): the layer, the position and the KV head it belongs to, the operands of the query
heads that share that head, each with its scale, and the key and value operands, as codes of the layer's format. -/
structure VisionRow where
  layer : Nat
  position : Nat
  head : Nat
  queries : List (F32 × List Nat)
  keys : List (List Nat)
  values : List (List Nat)
  deriving DecidableEq, Repr

/-- What the last stage hands the commit for one request: the main model's logits at each carried position, the
outriders' logits, and whether a poison tag follows its positions (R166, R261). -/
structure CommitResult where
  request : Nat
  logits : List (List F32)
  draftLogits : List (List F32)
  poisoned : Bool
  deriving DecidableEq, Repr

/-- What one block of a picture to encode costs: at least, and at each QP from 0 on, in bits (R190). -/
structure BlockBits where
  least : Nat
  atQp : List Nat
  deriving DecidableEq, Repr

/-- The kind of a firing (R48, R62). -/
inductive FiringKind where
  | data | probe | calibration | keepWarm | filler
  deriving DecidableEq, Repr

/-- One input group of a firing: 256 elements and 8 block scales (R38). -/
structure InputGroup where
  elems : List Int
  scales : List Nat
  deriving DecidableEq, Repr

/-- One firing (R41): where, what it serves, and its input group. A data firing's group lies at `place` of the core's activation
store (R38): `group` is there when the vector unit has just written it, none when an earlier firing has brought it.
`token` is the position of the convoy that the group belongs to. -/
structure Firing where
  core : Nat
  string : Nat
  position : Nat
  kind : FiringKind
  bay : Nat
  segment : Nat
  request : Option Nat
  token : Nat
  place : Nat
  group : Option InputGroup
  deriving DecidableEq, Repr

/-- The four codes of one converter in each of the zero, REF0 and REF1 firings (R63). -/
structure CalMeasure where
  zero : List Int
  ref0 : List Int
  ref1 : List Int
  deriving DecidableEq, Repr

/-- A full calibration's result for one column and step (R69): offset error in 1/8 LSB, gain error in 1/2,048, and the
plane error in 0.01 %. -/
structure FullCalResult where
  string : Nat
  position : Nat
  column : Nat
  step : Nat
  offset : Int
  gain : Int
  planeError : Nat
  deriving DecidableEq, Repr

/-- An error a read finds in a codeword: its class address, the number of wrong symbols or bits, the first one's place, and the
syndrome. -/
structure FoundError where
  addr : Nat
  wrong : Nat
  place : Nat
  syndrome : Nat
  deriving DecidableEq, Repr

/-- A ledger entry record (Table 08-8) with its body. -/
structure LedgerEntry where
  state : Nat
  trackBound : Bool
  line : Bool
  posted : Bool
  stream : Nat
  sequence : Nat
  request : Nat
  track : Nat
  tokens : List Nat
  tenant : Nat
  when_ : Int
  tPred16 : Nat
  lead : Nat
  expiry : Nat
  loadedPorts : Nat
  postFn : Nat
  postRing : Nat
  postTag : Nat
  postSession : Nat
  postSignal : Bool
  deriving DecidableEq, Repr

/-- A request slot as it is copied: whole at a resync, and with the first commit of a route's request, which no COMMAND
record names (R341, R358). `branch` is a branch's LIMIT and the positions it shares with its context. -/
structure SlotCopy where
  id : Nat
  tenant : Nat
  route : Option Nat
  context : Nat
  branch : Option (Nat × Nat)
  template : Nat
  tmpl : TemplateRec
  bale : Option Nat
  prefill : List (Nat × Nat)
  nAct : Nat
  target : Nat
  stream : Nat
  track : Nat
  when_ : Int
  unformed : Option (Nat × Rat)
  lead : Nat
  seed : Nat
  sampled : List Nat
  counts : List (Nat × Nat)
  depth : Nat
  zeroRun : Nat
  fullRun : Nat
  aMean : Rat
  sampleStep : Nat
  steps : Nat
  suspended : Bool
  concealed : Bool
  priority : Nat
  deriving DecidableEq, Repr

/-- The changed fields of a request slot that a REQUEST_DELTA carries (Table 12-4); state 4 is ENDED. -/
structure ReqDelta where
  request : Nat
  state : Nat
  steps : Nat
  depth : Nat
  zeroRun : Nat
  fullRun : Nat
  aMean : Rat
  ttftMiss : Bool
  tbtMiss : Bool
  slot : Option SlotCopy
  deriving DecidableEq, Repr

/-- A context of a resync, open or paused; `share` names a context sent before it and the positions whose frames they have
in common. -/
structure CtxCopy where
  id : Nat
  tenant : Nat
  paused : Bool
  limit : Nat
  ttl : Nat
  ttlLeft : Option Nat
  poisoned : Bool
  share : Option (Nat × Nat)
  deriving DecidableEq, Repr

/-- K and V of positions of one layer of a context, or of a branch named 2^32 + its request: geometry and DIGEST of the bale
that wrote them, kinds, and bytes (R341). -/
structure KvCopy where
  name : Nat
  geometry : Nat × Nat × Nat × Nat
  writer : Nat
  layer : Nat
  first : Nat
  kinds : List Nat
  bytes : List Byte
  deriving DecidableEq, Repr

/-- An item of a bulk transfer (R358). `start` lists the tenants present with key and quotas, and the bays defined; `last`
makes the partner SHADOW under its parameters, or ESCORT. -/
inductive BulkItem where
  | start (tenants : List (Nat × Option Nat × Nat × Nat)) (bays : List Nat) (timebase : TimebaseParams)
      (rule nLink nMgmt : Nat)
  | bale (handle tenant tier : Nat) (b : Bale)
  | bay (p : BayParams) (policy : PolicyParams) (seated : Option Nat)
  | template (n tenant : Nat) (r : TemplateRec)
  | track (n tenant : Nat) (p : TrackParams)
  | action (n tenant nextSeq : Nat) (p : ActionParams)
  | stream (n tenant : Nat) (p : StreamParams)
  | session (n tenant : Nat) (p : EncodeParams)
  | context (x : CtxCopy)
  | route (n tenant : Nat) (p : RouteParams)
  | slot (x : SlotCopy)
  | kv (x : KvCopy)
  | entry (e : LedgerEntry)
  | last (shadow : Option ShadowParams)
  deriving DecidableEq, Repr

/-- A record of the escort stream (Table 12-4). -/
inductive CopyRec where
  | pad
  | linkHello (serial slot position genMax genMin format random : Nat)
  | heartbeat (epoch role health newestEnd time : Nat) (leaving : Bool)
  | nack (first count : Nat)
  | command (opcode tag nextId : Nat)
  | cancel (request : Nat) (withRecall : Bool)
  | revoke (tenant : Nat)
  | ledgerRemove (stream sequence outcome : Nat)
  | convoyBegin (bay counter : Nat) (mask : List Nat)
  | kvAppend (x : KvCopy)
  | tokens (request step : Nat) (toks : List Nat)
  | requestDelta (d : ReqDelta)
  | ledgerInsert (e : LedgerEntry)
  | convoyEnd (bay counter records : Nat)
  | shadowInput (bay counter : Nat)
  | bulk (item : BulkItem)
  deriving DecidableEq, Repr

/-- A cell of the escort link (Table 12-3); `fecOk` is the outcome of its RS(544,514) codewords, and `launched` the counts that the
partner reports with its ACK, one for each recall it has taken (R161). -/
structure Cell where
  ctype : Nat
  format : Nat
  source : Nat
  poison : Bool
  attempt : Nat
  key : Nat
  keyGen : Nat
  seq : Nat
  ack : Nat
  fecOk : Bool
  tag : Nat
  recordStart : Nat
  payload : List Byte
  records : List CopyRec
  launched : List Nat
  deriving DecidableEq, Repr

/-- A message on the management path (R348, R349). -/
inductive MgmtMsg where
  | keepAlive
  | heartbeat (serial epoch role time : Nat) (leaving : Bool)
  deriving DecidableEq, Repr

/-- The bytes of a slot record or breakout record as read from an identity memory; none when it cannot be read. -/
abbrev IdRecord := Option (List Byte)

/-- What the boot ROM finds in firmware NOR (R409): none when power was lost during step 8 left a mixed image. -/
structure BootImages where
  manifest : Manifest
  hashes : List Nat
  intact : Bool
  deriving DecidableEq, Repr

/-- What the probes of a seating's arrays find (R98): those whose first probe fails, and those whose second one fails too, each as (core,
string, index). -/
structure ProbeFails where
  first : List (Nat × Nat × Nat)
  second : List (Nat × Nat × Nat)
  deriving DecidableEq, Repr

/-- SET_SAMPLING's OP field and the template record of its payload (R145, Table 06-2). -/
structure SamplingDef where
  op : Nat
  record : TemplateRec
  deriving DecidableEq, Repr

/-- What the LINK_HELLO of the partner says at a pairing: its session random, its generations and its FORMAT (R337, R340). -/
structure PairHello where
  random : Nat
  genMax : Nat
  genMin : Nat
  format : Nat
  deriving DecidableEq, Repr

/-- A pipe whose access unit runs out of budget, with what the pipe has reconstructed by then (R182, R183). -/
structure PipeExpiry where
  pipe : Nat
  picture : PictureData
  deriving DecidableEq, Repr

/-- What a detector's run of a picture yields: the group-rows of its attention and its head's raw outputs (R110, R199). -/
structure DetectorRun where
  rows : List VisionRow
  raw : List RawCandidate
  deriving DecidableEq, Repr

/-- The voltages that Waterbearer measures, in millivolts: the 54 V input and the bulk capacitance (R372, R376). -/
structure SupplyVolts where
  input : Nat
  bulk : Nat
  deriving DecidableEq, Repr

/-- The commands and events, one constructor per row of spec/opcode_table.json, in its order. -/
inductive Instr where
  | hello (h : Hdr) (genMax genMin : Nat)
  | getCaps (h : Hdr)
  | getStatus (h : Hdr) (selector keyA keyB keyC keyD : Nat)
  | setEventMask (h : Hdr) (enable : Nat)
  | loadBale (h : Hdr) (source tier : Nat) (store : Bool) (libraryIndex : Nat) (bale : Bale)
  | loadBaleCopyDone (fn ring tag : Nat)
  | seatBale (h : Hdr) (handle bay mode : Nat)
  | seatWritesDone (bay : Nat) (probes : ProbeFails)
  | unseatBale (h : Hdr) (bay mode : Nat) (discard deleteLibrary : Bool)
  | unseatBaleDiscard (h : Hdr) (handle : Nat) (discard deleteLibrary : Bool)
  | bayEmptied (bay : Nat)
  | defineBay (h : Hdr) (p : BayParams)
  | setPeriod (h : Hdr) (period : Nat)
  | rotateNow (h : Hdr)
  | unfence (h : Hdr) (core : Nat)
  | setExhaustion (h : Hdr) (policy : Nat)
  | openContext (h : Hdr) (limit : Nat)
  | forkContext (h : Hdr) (parent position : Nat)
  | pauseContext (h : Hdr) (context ttl : Nat)
  | pauseMoveDone (context : Nat)
  | pausedFrameMove (context page : Nat)
  | resumeContext (h : Hdr) (context : Nat)
  | resumeMoveDone (context : Nat)
  | closeContext (h : Hdr) (context : Nat)
  | submitRequest (h : Hdr) (p : SubmitParams) (inputs : List (Nat × Nat))
  | cancelRequest (h : Hdr) (request : Nat) (withRecall : Bool)
  | setSamplingDefine (h : Hdr) (template : Nat) (r : SamplingDef)
  | setSamplingDelete (h : Hdr) (template : Nat)
  | setConvoyPolicy (h : Hdr) (p : PolicyParams)
  | openStream (h : Hdr) (p : StreamParams)
  | closeStream (h : Hdr) (stream : Nat)
  | closeEncode (h : Hdr) (session : Nat)
  | openEncode (h : Hdr) (p : EncodeParams)
  | defineRoute (h : Hdr) (p : RouteParams)
  | dropRoute (h : Hdr) (route : Nat)
  | dropRouteDone (route : Nat)
  | setTimebase (h : Hdr) (p : TimebaseParams)
  | defineTrack (h : Hdr) (p : TrackParams)
  | defineTrackDelete (h : Hdr) (track : Nat)
  | defineActionStream (h : Hdr) (p : ActionParams)
  | postLaunch (h : Hdr) (p : PostParams)
  | recallLaunch (h : Hdr) (stream : Nat) (byRequest : Bool) (key count : Nat)
  | scrubRange (h : Hdr) (p : ScrubParams)
  | scrubStop (h : Hdr) (cls unit : Nat)
  | scrubRun (cls unit : Nat) (found : List FoundError)
  | readErrorLog (h : Hdr) (from_ count : Nat)
  | retirePage (h : Hdr) (page : Nat)
  | retirePageBank (h : Hdr) (page : Nat)
  | retireArray (h : Hdr) (core string position : Nat)
  | addTenant (h : Hdr) (tenant hbmQuota wayQuota point : Nat)
  | removeTenant (h : Hdr) (tenant : Nat) (keepLibrary : Bool)
  | slotQuarantineEnd (slot lateWrites : Nat)
  | setJobKeys (h : Hdr) (jobGen : Nat) (payload : List Byte)
  | jobKeyOverlapEnd (tenant : Nat)
  | setConsent (h : Hdr) (payload : List Byte)
  | getAttestation (h : Hdr) (payload : List Byte)
  | spdmRequest (message : List Byte)
  | pairEscortPair (h : Hdr) (joiner : Bool) (partnerSlot partnerSerial epochFloor partnerEpoch : Nat)
      (partnerHello : PairHello) (trained spdmOk partnerAsksActive : Bool)
  | pairEscortUnpair (h : Hdr)
  | setDeadRule (h : Hdr) (rule nLink nMgmt : Nat)
  | beginShadow (h : Hdr) (p : ShadowParams)
  | bulkTransferEnd
  | shadowWindowEnd (agree compared convoys : Nat) (distance : F32)
  | promoteEscortSwap (h : Hdr)
  | plannedSwapHandover
  | promoteEscortAdmit (h : Hdr)
  | stagePart (h : Hdr) (partId : Nat) (p : StagedPayload)
  | stagePartDiscard (h : Hdr) (partId : Nat)
  | activateManifest (h : Hdr) (windows : List (Nat × PartWindow)) (unrestored : List Nat)
  | norWriteDone
  | getFwState (h : Hdr)
  | setPowerLimits (h : Hdr) (cap rampUp rampDown : Nat)
  | prepareRemoval (h : Hdr) (force : Bool)
  | prepareRemovalAbort (h : Hdr)
  | doorbell (fn ring tail : Nat) (packets : List (List Byte)) (failAddr : Option Nat)
  | replyRingHeadWrite (fn ring head : Nat)
  | ringEnableSet (fn ring : Nat)
  | ringEnableClear (fn ring : Nat)
  | evqEnableSet (fn : Nat)
  | evqHeadWrite (fn head : Nat)
  | lineEnableWrite (value : Nat)
  | tollPriorityWrite (toll offset : Nat) (value : W32)
  | tollFenceClear (mask : Nat)
  | flipArm
  | registerWrite (fn offset size : Nat) (value : W64)
  | latchedHalfRead (fn offset : Nat)
  | coalesceTimeout (fn ring : Nat)
  | flr (fn : Nat)
  | vfEnableClear (numVfs : Nat)
  | linkReset
  | functionPowerStateChange (fn : Nat) (d3hot busMaster : Bool)
  | holdAssert
  | holdRelease
  | releaseDelayEnd (input : Option Nat)
  | streamHoldAssert (input : Nat)
  | streamHoldRelease (input : Nat)
  | inputEdge (input : Nat) (rising : Bool) (fraction : Nat)
  | milestonePulse (pllLocked : Bool)
  | timeCodeFrame (bytes : List Byte)
  | busLoss (pllUnlocked : Bool)
  | ptpMessage (m : PtpMsg)
  | ptpAnnounceTimeout
  | ptpSettled
  | holdoverLimit
  | encoderFrame (port : Nat) (f : EncFrame)
  | trackStale (track : Nat)
  | milestoneTick
  | entryExpiry (stream sequence : Nat)
  | lineMatch (stream sequence : Nat)
  | frameRelease (stream sequence : Nat)
  | pulseEnd (stream sequence : Nat)
  | ethernetLinkChange (port : Nat) (up : Bool)
  | rtpPacket (p : RtpPacket)
  | senderReport (r : SenderRep)
  | auLaterTimeout (stream : Nat)
  | auFramePeriodTimeout (stream : Nat)
  | pipeTake (pipe : Nat)
  | decodeComplete (pipe : Nat) (d : PictureData)
  | frameBudgetExpiry (e : PipeExpiry)
  | pipeRestart (pipe width height bitDepth : Nat)
  | streamStalled (stream : Nat)
  | encodePicture (session startQp headerBits : Nat) (blocks : List BlockBits)
  | detectorRunDone (stream picture bay laterFlushed : Nat) (run : DetectorRun)
  | cropBatchDone
  | convoyBoundary (bay : Nat) (work : List AttnWork)
  | convoyCommit (bay : Nat) (results : List CommitResult)
  | flushScatterDone (context : Nat)
  | autoSwap (bay : Nat)
  | arrayFiring (f : Firing)
  | refire (core string position : Nat)
  | bgCalVisit (core string position : Nat) (first retry : List CalMeasure)
  | bgCalOverdue (core : Nat)
  | fullCalPass (core : Nat) (results : List FullCalResult)
  | calStale (core : Nat)
  | restPeriodEnd
  | handoverLoadEnd (firstProbe secondProbe : List (Nat × Nat))
  | tollDecision (toll requests beats cycles : Nat)
  | tollWatchdogFence (toll cycles : Nat)
  | contextExpired (context : Nat)
  | watchdogBite (part processor : Nat) (poisonedRam : Bool)
  | keyStoreScan (oneCopy bothCopies : List Nat) (loaderBad loaderNorOk : Bool)
  | escortCellReceive (c : Cell)
  | heartbeatSend
  | mgmtHeartbeatSend
  | mgmtHeartbeatReceive (m : MgmtMsg)
  | mgmtPathLoss
  | deadDeclaration
  | selfFence
  | linkHalf (port : Nat)
  | escortLinkUp (partnerSerial partnerGenMax partnerGenMin partnerFormat partnerRandom : Nat)
  | presenceMate (slot breakout : IdRecord)
  | startRailsEnable
  | powerOnReset (b : BootImages)
  | recoveryPartnerTimeout
  | presenceBreak
  | slotRecordRetry (slot : IdRecord)
  | breakout (r : IdRecord)
  | cablePlugEvent (port lanes laneMbps : Nat) (present : Bool)
  | supplyDip (millivolts : Nat)
  | dipClear (millivolts : Nat)
  | resetAssert
  | resetRelease
  | overVoltageSet
  | overVoltageClear
  | powerSample (watts tenMilliamps : Nat) (volts : SupplyVolts)
  | thermalSample (inlet outlet junction : Int) (flow : Nat)
  | ladder (rung : Nat)
  | pullNotice
  | latchClose
  | leavingCopyCovered
  | removalReady
  | pldmEffecterSet (effecter value : Nat)
  | escortLinkDown
  | coreMicrocodeHandover (core : Nat)
  | recoveryFromPartner (b : BootImages)
  | watchdogRestartDone (part processor : Nat)
  deriving DecidableEq, Repr

end Sys2Proof
end

