-- ==== Sys2Proof/Decode.lean ====
section
/-! DEFINITION. The command a word of the opcode table spells. The rows of spec/opcode_table.json give no bits, so no word
spells one. -/

namespace Sys2Proof

/-- The command spelt by `nbits` bits `w` of the table: none, for no row gives bits. -/
def decodeTableWord (_nbits _w : Nat) : Option Instr := none

end Sys2Proof
end

