-- ==== Sys2Proof/Config.lean ====
section
/-! DEFINITION. What the spec leaves open: uninterpreted functions with no body (free values), and
the figures an implementation fixes. Nothing in Lean can evaluate one of them. -/

namespace Sys2Proof.Config

/-- Analogue error of one conversion, in codes of the range step, added to the ideal code (R42, R57); `n` is the
free-value counter of the state. Log 8. -/
opaque analogError : Nat → Int
/-- Converter codes beyond the checksum columns' ideal codes, the same freedom (R57). Log 8. -/
opaque checkError : Nat → Int
/-- What a full calibration pass measures of one column at one step, by the free-value counter and the column's number:
offset error in 1/8 LSB, gain error in 1/2,048, plane error in 0.01 % (R69). Log 102. -/
opaque fullCal : Nat → Nat → Int × Int × Nat
/-- The fixed pseudo-random elements of the probe's input group (R70): the spec says only that they are fixed. Log 103. -/
opaque probeElements : Nat → Int
/-- Where in its error bound a function of the vector unit falls at an operand, in ulps from the value rounded to nearest: the
same for the same operand (R53, R55). The functions in order: reciprocal, reciprocal square root, exp, sigmoid, SiLU, tanh, GELU, sin, cos.
Log 9. -/
opaque vectorError : (fn : Nat) → F32 → Int
/-- sin (7) and cos (8) of an argument beyond ±2^20, for which Table 02-9 states no result. Log 9. -/
opaque angle : (fn : Nat) → F32 → F32
/-- Sign and payload bits of a quiet NaN the module forms (R40, R47): the spec says only that it is quiet. Log 9. -/
opaque nanBits : F32
/-- The FP64 value the track fit holds for an exact result; the order of the fit's operations is not stated (R221).
Log 10. -/
opaque fp64 : Rat → Rat
/-- Whether a predicted time is held at the upper of the two neighbouring sixteenths of a nanosecond (R222). Log 10. -/
opaque timeRoundsUp : (v a d : Rat) → Bool
/-- Whether a belt position that is no whole micrometre is held at the upper of its two neighbours (R18). Log 10. -/
opaque posRoundsUp : Rat → Bool
/-- Whether a mean or quotient held in a whole-number field is rounded up where it is not whole (R169). Log 23. -/
opaque quotientRoundsUp : (n d : Nat) → Bool
/-- SHA-384 of a byte string (FIPS 180-4, named by R88, R92, R404). Log 11. -/
opaque sha384 : List Byte → Nat
/-- Whether an ECDSA P-384 signature holds for a key and a message (R315, R327, R403). Log 11. -/
opaque ecdsaOk : (key : Nat) → (message : List Byte) → (signature : Nat) → Bool
/-- Whether a 97-byte point lies on the curve P-384 (R310). Log 11. -/
opaque onCurve : (point : Nat) → Bool
/-- HKDF-SHA-384 extraction of a PRK from a salt and an input (RFC 5869, named by R315 and R316). Log 11. -/
opaque hkdfExtract : (salt input : List Byte) → Nat
/-- HKDF-SHA-384 expansion of a PRK with an info to a length in bytes (R315, R316). Log 11. -/
opaque hkdfExpand : (prk : Nat) → (info : List Byte) → (length : Nat) → Nat
/-- The x-coordinate of the P-384 ECDH product of a point and the module identity key, which IDENTITY_SEED gives (R306, R315).
Log 11. -/
opaque ecdhX : (seed ephemeral : Nat) → List Byte
/-- AES-256-GCM decryption under a key and initial value, with additional data: none when the tag fails (R315). Log 11. -/
opaque gcmOpen : (key iv : Nat) → (additional : List Byte) → (wrapped tag : Nat) → Option Nat
/-- The GCM or SRTP tag of a message under a key (R219, R231, R174, R339). Log 11. -/
opaque authTag : (key : Nat) → (iv : Nat) → (message : List Byte) → Nat
/-- AES-256-GCM ciphertext of a token field (R231). Log 11. -/
opaque encryptTokens : (key iv : Nat) → List Nat → List Nat
/-- The plain payload of an SRTP packet under the stream's key and the packet's index: AES-128 counter mode of RFC 3711 (R174).
Log 11. -/
opaque srtpDecrypt : (key index : Nat) → List Byte → List Byte
/-- AES-XTS-256 of a 64-byte data unit under a page key and a tweak, as IEEE 1619 defines it (R312). Log 110. -/
opaque xtsEncrypt : (key tweak : Nat) → List Byte → List Byte
/-- Its inverse (R312). Log 110. -/
opaque xtsDecrypt : (key tweak : Nat) → List Byte → List Byte
/-- A fresh page key from Customs' random number generator (R313). Log 11. -/
opaque randomKey : Nat → Nat
/-- The pair key two Customs agree (R337). Log 11. -/
opaque pairKey : (serial partnerSerial random1 random2 : Nat) → Nat
/-- SHA-384 of the boot ROM, fixed at manufacture (Table 11-7). Log 6. -/
opaque bootRomHash : Nat
/-- The SPDM 1.2 response of Customs to a request that it supports, given the identity seed from which the module identity key is derived, the
connection's transcript and the measurement blocks (R306, R321, R323); SPDM itself is a published standard the spec names.
Log 12. -/
opaque spdmResponse : (seed : Nat) → (transcript request measurements : List Byte) → List Byte
/-- Index of the first byte at which a computed digest differs from DIGEST (Table 09-18, BALE_REJECTED). Log 11. -/
opaque firstDiff : (computed stated : Nat) → Nat
/-- What a stored value reads as where the spec gives a value but states no number for it; `n` is the free-value
counter of the state. Log 7. -/
opaque freeNat : Nat → Nat
/-- The same, one bit of choice. Log 7. -/
opaque freeBool : Nat → Bool
/-- SERIAL of RNG_ID, set at the factory (R304, Table 10-4). Log 6. -/
opaque serial : Nat
/-- STEPPING of RNG_ID, set at the factory (Table 10-4). Log 6. -/
opaque stepping : Nat
/-- An acceleration that the selected samples do not fix, one for each list of samples (R221). Log 10. -/
opaque freeAccel : List (Nat × Int) → Rat
/-- Where a cell that waits for its acknowledgement lies in the transmit retention, by CELL_SEQ (R346). Log 137. -/
opaque retentionPlace : (seq : Nat) → Nat
/-- Where a received cell lies in the receive staging until it is applied, by CELL_SEQ (R346). Log 137. -/
opaque stagingPlace : (seq : Nat) → Nat
/-- Where the copies of a ledger entry lie in the I/O tile SRAM, by stream, sequence and copy (R261). Log 132. -/
opaque ledgerPlace : (stream sequence copy : Nat) → Nat
/-- Factory delay of launch line `l`, in picoseconds, before the clamp of R235. Log 6. -/
opaque skewRaw : Nat → Int
/-- Factory MAC address of Ethernet port `p` (R367). Log 6. -/
opaque macAddress : Nat → Nat
/-- Factory skew of line `l` in picoseconds, within the −500 to +500 of R235. -/
def skewPs (l : Nat) : Int := max (-500) (min 500 (skewRaw l))

end Sys2Proof.Config
end

