-- ==== Sys2Proof/Machine/State.lean ====
section
/-! DEFINITION. The state of the module as plain data: every register, table, queue, counter, mode and pin the spec
names, the queue of waiting commands, and what has left the module. Each field's line names the rule of spec/ it
comes from and its reset value. -/

namespace Sys2Proof.Machine

/-- Why a command stops with a fault: no rule of the spec stops the module on a command, so nothing raises one. Safe. -/
inductive Fault where
  /-- Raised by no meaning; the one name of the type. Safe. -/
  | noneRaised
  deriving DecidableEq, Repr

/-- Why a command is refused by the model. -/
inductive Refusal where
  /-- The command has no meaning yet; raised by Dispatch.lean alone. Safe. -/
  | notModelled (mnemonic : String)
  deriving DecidableEq, Repr

/-- A started command: where its replies go and under which opening of its ring (R279, R283). -/
structure CmdRef where
  fn : Nat
  ring : Nat
  tag : Nat
  opcode : Nat
  signal : Bool
  session : Nat
  copied : Bool
  spans : List (Nat × Nat)
  deriving DecidableEq, Repr

/-- A reply (Table 10-16) without PHASE and TIME, which are set when it is written. -/
structure Reply where
  tag : Nat
  status : Nat
  opcode : Nat
  final : Bool
  crcFailed : Bool
  dupTag : Bool
  dmaError : Bool
  result0 : Nat
  result1 : Nat
  signal : Bool
  deriving DecidableEq, Repr

/-- An Action Frame (Table 08-10) with its Ethernet addressing (R230). -/
structure ActionFrame where
  port : Nat
  srcMac : Nat
  destMac : Nat
  vlan : Nat
  trackBound : Bool
  encrypted : Bool
  timeUnlocked : Bool
  source : Nat
  stream : Nat
  keyGen : Nat
  epoch : Nat
  sequence : Nat
  request : Nat
  track : Nat
  tLaunch16 : Nat
  sLaunch : Int
  tokens : List Nat
  tag : Option Nat
  deriving DecidableEq, Repr

/-- A record of a record ring (R151). -/
inductive RingRec where
  | skip
  | report (request route status tLaunch sequence suspect steps flags : Nat) (tokens : List Nat)
  | outcome (request sequence tPred time stream code : Nat)
  | encode (bytes tCapture flags : Nat)
  deriving DecidableEq, Repr

/-- A box record (Table 07-10). -/
structure BoxRec where
  x0 : F32
  y0 : F32
  x1 : F32
  y1 : F32
  score : F32
  cls : Nat
  flags : Nat
  candidate : Nat
  frame : Nat
  deriving DecidableEq, Repr

/-- The planes of a decoded picture and what its VUI gives (R192, R193). -/
structure Planes where
  width : Nat
  height : Nat
  bitDepth : Nat
  vuiMatrix : Nat
  vuiRange : Nat
  luma : List Nat
  cb : List Nat
  cr : List Nat
  deriving DecidableEq, Repr

/-- An access unit that an encode session sends: its level in tenths, its NAL unit types in order, its bits with filler, and the
picture and boxes it codes, none for a picture of skipped blocks (R188 to R190). -/
structure EncodedUnit where
  session : Nat
  idr : Bool
  level : Nat
  nals : List Nat
  bits : Nat
  capture : Nat
  flags : Nat
  srtpKey : Option Nat
  picture : Option Planes
  boxes : List BoxRec
  deriving DecidableEq, Repr

/-- A cell that the escort link sends (Table 12-3): the fields of its header that vary, the key and initial value of its encryption,
and the record it carries; TYPE is 1, FORMAT 1, and the record begins at offset 0 of the payload (R339). -/
structure SentCell where
  source : Nat
  poison : Bool
  attempt : Nat
  key : Nat
  keyGen : Nat
  seq : Nat
  ack : Nat
  cellKey : Nat
  iv : Nat
  record : CopyRec
  deriving DecidableEq, Repr

/-- What leaves the module at its connectors or lands in host memory. -/
inductive Output where
  | reply (fn ring index : Nat) (phase : Bool) (r : Reply) (time : Nat)
  | event (fn index : Nat) (phase : Bool) (code object detail time : Nat)
  | msix (fn vector : Nat)
  | payload (fn addr : Nat) (bytes : List Byte)
  | ringRecord (fn base slot : Nat) (r : RingRec)
  | producer (fn base index : Nat)
  | frame (f : ActionFrame)
  | line (line : Nat) (level : Bool) (time16 : Nat)
  | escort (r : CopyRec)
  | cell (c : SentCell)
  | ack (seq : Nat) (launched : List Nat)
  | mgmtHeartbeat (serial epoch role time : Nat) (leaving : Bool)
  | spdm (bytes : List Byte)
  | pldm (ok : Bool)
  | rtp (u : EncodedUnit)
  | regRead (fn offset : Nat) (value : Nat)
  | servedImages (version : Nat)
  deriving DecidableEq, Repr

/-- A ring pair (R276 to R280). -/
structure RingPair where
  /-- RNG_CMD_BASE.BASE, 52 bits: the address divided by 4,096 (Table 10-9). Reset 0. -/
  cmdBase : Nat
  /-- RNG_RPL_BASE.BASE, 52 bits (Table 10-10). Reset 0. -/
  rplBase : Nat
  /-- RNG_RING_CTRL.COAL_TIME, 16 bits (Table 10-11). Reset 0. -/
  coalTime : Nat
  /-- RNG_RING_CTRL.COAL_COUNT, 8 bits (Table 10-11). Reset 1. -/
  coalCount : Nat
  /-- RNG_RING_CTRL.ENABLE, 1 bit (R279). Reset 0. -/
  enable : Bool
  /-- RNG_RING_CTRL.VECTOR, 6 bits (Table 10-11). Reset 0. -/
  vector : Nat
  /-- RNG_RING_CTRL.RPL_SIZE_LOG2, 5 bits (Table 10-11). Reset 4. -/
  rplLog2 : Nat
  /-- RNG_RING_CTRL.CMD_SIZE_LOG2, 5 bits (Table 10-11). Reset 4. -/
  cmdLog2 : Nat
  /-- RNG_CMD_INDEX.HEAD, 16 bits (R277). Reset 0. -/
  cmdHead : Nat
  /-- RNG_CMD_INDEX.TAIL, 16 bits (R277). Reset 0. -/
  cmdTail : Nat
  /-- RNG_RPL_INDEX.HEAD, 16 bits (R278). Reset 0. -/
  rplHead : Nat
  /-- RNG_RPL_INDEX.TAIL, 16 bits (R278). Reset 0. -/
  rplTail : Nat
  /-- PHASE of the next reply, 1 bit (R278, R279). Reset 1. -/
  phase : Bool
  /-- RNG_RING_STATUS.CRC_FAILED, 16 bits, saturating (Table 10-14). Reset 0. -/
  crcFailed : Nat
  /-- RNG_RING_STATUS.DISCARDED, 16 bits, saturating (Table 10-14). Reset 0. -/
  discarded : Nat
  /-- RNG_RING_STATUS.OPEN, 1 bit (Table 10-14). Reset 0. -/
  open_ : Bool
  /-- RNG_RING_STATUS.ERROR, 1 bit (R277). Reset 0. -/
  error : Bool
  /-- RNG_RING_STATUS.GENERATION, 8 bits (R285). Reset 0. -/
  generation : Nat
  /-- Commands without a final reply, as (tag, whether ACCEPTED has been written) (R284, R299). Reset none. -/
  outstanding : List (Nat × Bool)
  /-- Fetched commands the Drover has journaled and not yet acted on, oldest first, as (tag, opcode, session) (R299,
  R300). Reset none. -/
  fetched : List (Nat × Nat × Nat)
  /-- Entries between HEAD and TAIL as a fetch reads them: the packet, or the address whose read fails (R277). Reset
  none. -/
  unfetched : List (List Byte ⊕ Nat)
  /-- Replies waiting for room, in due order (R278); REPLY_WAIT reads whether there is one. Reset none. -/
  waiting : List Reply
  /-- Replies written since the last MSI-X message (R280). Reset 0. -/
  sinceMsg : Nat
  /-- Module time of the first reply since the last message (R280). Reset none. -/
  firstSince : Option Nat
  /-- How often ENABLE has been cleared: the model's own count, which tells a reply of an earlier opening (R279).
  Reset 0. -/
  session : Nat
  deriving DecidableEq, Repr

/-- A function's event queue and host-side state (R272 to R275, R295 to R297). -/
structure FnState where
  /-- RNG_EVQ_BASE.BASE, 52 bits (Table 10-6). Reset 0. -/
  evqBase : Nat
  /-- RNG_EVQ_CTRL.LOST, 16 bits, saturating (Table 10-7). Reset 0. -/
  lost : Nat
  /-- RNG_EVQ_CTRL.MASK, 16 bits (R292). Reset 0xFFFF. -/
  mask : Nat
  /-- RNG_EVQ_CTRL.ENABLE, 1 bit (Table 10-7). Reset 0. -/
  evqEnable : Bool
  /-- RNG_EVQ_CTRL.VECTOR, 6 bits (Table 10-7). Reset 0. -/
  evqVector : Nat
  /-- RNG_EVQ_CTRL.SIZE_LOG2, 5 bits (Table 10-7). Reset 4. -/
  evqLog2 : Nat
  /-- RNG_EVQ_INDEX.TAIL, 16 bits (Table 10-8). Reset 0. -/
  evqTail : Nat
  /-- RNG_EVQ_INDEX.HEAD, 16 bits (Table 10-8). Reset 0. -/
  evqHead : Nat
  /-- PHASE of the next event record, 1 bit (R295, R278). Reset 1. -/
  evqPhase : Bool
  /-- Records lost since the last EVENT_LOST record (R297). Reset 0. -/
  pendingLost : Nat
  /-- The function is in D3hot (R275). Reset 0. -/
  d3hot : Bool
  /-- Bus Master Enable (R275). Reset 1, DESIGN CHOICE log 5. -/
  busMaster : Bool
  /-- The function is enabled on the link: the physical function always, a virtual function while VF Enable and NumVFs
  cover it (R274). Reset 1, DESIGN CHOICE log 5. -/
  present : Bool
  /-- Nothing is written for the tenant until a ring completes HELLO after a function reset (R274). Reset 0. -/
  awaitHello : Bool
  /-- High half latched by a read of a 64-bit register's low half: (offset of the low half, value) (R276). Reset none. -/
  latched : Option (Nat × Nat)
  /-- SPDM connection state of the function: the transcript so far (R321). Reset empty. -/
  spdm : List Byte
  /-- Writes to the tenant's payloads that fell due while the function's writes are held, as (address, bytes), oldest first (R273,
  R275). Reset none. -/
  heldWrites : List (Nat × List Byte)
  deriving DecidableEq, Repr

/-- The host link (R271 to R303). -/
structure HostLink where
  /-- Ring pairs by 8 × function + ring (R276). Reset every ring at its register reset values. -/
  rings : Map RingPair
  /-- Functions 0 to 63 (R272). Reset as FnState.reset. -/
  fns : Map FnState
  /-- The PCIe link is trained (Table 13-4 step 5). Reset 0. -/
  linkUp : Bool
  /-- Words of the MSI-X tables and pending arrays by byte offset of BAR0, per function as 2^24 × function + offset
  (Tables 10-2 and 10-3). Reset none listed, reads 0, PRESUMED log 5. -/
  msix : Map Nat
  deriving DecidableEq, Repr

/-- The core of a track's fitted model (R221): position s0 [µm], speed v [µm/s], acceleration a [µm/s²] at the newest
sample's time. -/
structure TrackModel where
  tN : Nat
  s0 : Rat
  v : Rat
  a : Rat
  /-- Square of the RMS fit residual [µm²]. -/
  meanSq : Rat
  deriving DecidableEq, Repr

/-- A conveyor track (R219 to R223). -/
structure Track where
  tenant : Nat
  params : TrackParams
  /-- Parameters from the next accepted frame (R220). -/
  nextParams : TrackParams
  /-- 0 EMPTY, 1 LIVE, 2 DEGRADED, 3 STALE (R223). -/
  state : Nat
  /-- Accepted samples, newest first: (T_SAMPLE, POSITION). -/
  samples : List (Nat × Int)
  lastSeq : Option Nat
  lastAccept : Option Nat
  model : Option TrackModel
  deriving DecidableEq, Repr

/-- An action stream (R224). -/
structure ActionStream where
  tenant : Nat
  params : ActionParams
  /-- The SEQUENCE the next insertion takes (R225). -/
  nextSeq : Nat
  /-- Sequence values releasable under one pair of GENERATION and epoch (R319). -/
  renewal : Nat
  /-- KEY_RENEWAL_DUE has been raised for this count. -/
  renewalRaised : Bool
  /-- Producer index of the outcome ring (R151). -/
  producer : Nat
  deriving DecidableEq, Repr

/-- A pulse on launch lines (R234): its entry, the lines still active under it, and whether it was cut. -/
structure Pulse where
  entry : LedgerEntry
  lines : List Nat
  /-- Its edges in 1/16 ns of module time. -/
  start16 : Nat
  end16 : Nat
  cut : Bool
  deriving DecidableEq, Repr

/-- The time base and launch unit (R211 to R245). -/
structure Milestone where
  /-- MLS_TIME: module time, 64 bits [ns], bits [1:0] always 0 (R211). Reset 0. -/
  time : Nat
  /-- Nanoseconds since power-on, which no step changes: the model's own clock for every interval. Reset 0. -/
  uptime : Nat
  /-- MLS_SYNC_STATUS.STATE, 3 bits (Table 08-1). Reset 0. -/
  disc : Nat
  /-- MLS_SYNC_STATUS.OFFSET before saturation [ns] (R217). Reset 0. -/
  offset : Int
  /-- Last offset measured against the bus, and against the PTP master [ns] (R214, R217). Reset 0 and none. -/
  busOffset : Int
  ptpOffset : Option Int
  /-- MLS_SYNC_STATUS.STEP_NEEDED, 1 bit (R212). Reset 0. -/
  stepNeeded : Bool
  /-- MLS_SYNC_STATUS.PTP_PRESENT, 1 bit (Table 08-18). Reset 0. -/
  ptpPresent : Bool
  /-- MLS_SYNC_STATUS.BUS_PRESENT, 1 bit (Table 08-18). Reset 0. -/
  busPresent : Bool
  /-- Source followed: 0 none, 1 bus, 2 PTP (R214). Reset 0. -/
  source : Nat
  /-- Settings of SET_TIMEBASE (R217). Reset as R218. -/
  cfg : TimebaseParams
  /-- The TB PLL is locked to the 25 MHz reference (R214). Reset 0. -/
  pllLocked : Bool
  /-- TIME_NEXT of the last good time code frame, for the next pulse (R215). Reset none. -/
  nextCode : Option Nat
  /-- Consecutive agreeing pulses, up to 3 (R214). Reset 0. -/
  goodPulses : Nat
  /-- Module time of the last valid pulse (R214). Reset none. -/
  lastPulse : Option Nat
  /-- Selected PTP master, its port and announce interval [ns] (R216). Reset none. -/
  ptpMaster : Option (Nat × Nat × Nat)
  /-- Module time of the last announce of that master (R214). Reset none. -/
  lastAnnounce : Option Nat
  /-- Module time since which the servo has stayed within 100 ns (Table 08-1). Reset none. -/
  settledSince : Option Nat
  /-- Module time at which HOLDOVER was entered (R212). Reset none. -/
  holdoverSince : Option Nat
  /-- The first step of R212 has been made. Reset 0. -/
  stepped : Bool
  /-- MLS_EVENTS, bits [8:0] (Table 08-22). Reset 0. -/
  events : Nat
  /-- Level of HOLD_n after the synchroniser (R236). Reset 1 (released), DESIGN CHOICE log 4. -/
  holdPin : Bool
  /-- MLS_HOLD_STATUS.HOLD, 1 bit: module-wide gates closed (Table 08-19). Reset 1. -/
  hold : Bool
  /-- Module time at which HOLD_n rose, while its release delay runs (R238). Reset none. -/
  holdRose : Option Nat
  /-- MLS_HOLD_STATUS.HOLD_COUNT, 16 bits, saturating (Table 08-19). Reset 0. -/
  holdCount : Nat
  /-- Levels of I0 to I6, MLS_HOLD_STATUS.INPUT (Table 08-19). Reset 0. -/
  inputs : Nat
  /-- Inputs I0 to I6 whose stream gates are closed (R237, R238). Reset none. -/
  closedInputs : List Nat
  /-- Inputs whose release delay runs, with the time they rose (R238). Reset none. -/
  inputRose : List (Nat × Nat)
  /-- MLS_HOLD_RELEASE.RELEASE_DELAY, 20 bits [µs] (Table 08-20). Reset 10,000. -/
  releaseDelay : Nat
  /-- MLS_LINE_CTRL.ENABLE, 16 bits (Table 08-21). Reset 0. -/
  lineEnable : Nat
  /-- Reasons for MLS_LINE_CTRL.FENCED: no valid breakout record or a wrong one (R370). Reset 0: the register's
  FENCED field resets to 0x0000. -/
  fenceBreakout : Bool
  /-- The self-fence of R357. Reset 0. -/
  fenceSelf : Bool
  /-- The fence of the leaving sequence or of an epoch (R388, R356). Reset 0. -/
  fenceLeave : Bool
  /-- Egress gates closed by the leaving sequence or an epoch (R388, R356). Reset 0. -/
  egressClosed : Bool
  /-- MLS_LEDGER_FILL.HIGH_WATER, 14 bits (Table 08-23). Reset 0. -/
  highWater : Nat
  /-- The ledger, at most 8,192 entries, in insertion order (R226). Reset empty. -/
  ledger : List LedgerEntry
  /-- Entries in launch slots of L0 to L15, 4 each, as (line, stream, sequence) (R228). Reset none. -/
  slots : List (Nat × Nat × Nat)
  /-- Entries in egress queues of P0 to P3, 256 each, as (port, stream, sequence) (R228). Reset none. -/
  egress : List (Nat × Nat × Nat)
  /-- Pulses in progress (R234). Reset none. -/
  pulses : List Pulse
  /-- Lines held active by a SET entry, as (line, stream) (R234). Reset none. -/
  setLines : List (Nat × Nat)
  /-- Entries that have launched on this module, as (stream, sequence, request), for the count of R161. Reset none. -/
  launched : List (Nat × Nat × Nat)
  /-- Ethernet ports P0 to P3 that are up (R367). Reset none. -/
  portsUp : List Nat
  /-- Tracks 0 to 255 (R220). Reset none. -/
  tracks : Map Track
  /-- Action streams 0 to 4,095 (R224). Reset none. -/
  streams : Map ActionStream
  deriving DecidableEq, Repr

/-- A statistics-carrying array of a core (R80): its health record, what its tile is, and its trims. -/
structure ArrayRec where
  /-- 0 mapped, 1 free spare, 2 standby, 3 retired (Table 03-7). Reset: 0 for positions 0 to 127, else 1. -/
  state : Nat
  trimAtLimit : Bool
  planeError : Bool
  probeFailed : Bool
  disagree : Nat
  refired : Nat
  suspect : Nat
  calRetries : Nat
  /-- MXINT8 mode of its tile (R36). -/
  mxint8 : Bool
  /-- Converter range step of its layer; 7 for an unmapped array (R42, R63). -/
  rangeStep : Nat
  /-- Scale table, one E8M0 byte per weight column (R45). -/
  scales : List Byte
  /-- The array of its string whose tile a standby holds (R77). -/
  standbyFor : Option Nat
  /-- Its results are suspect for a poisoned weight word (Table 09-11). -/
  wordSuspect : Bool
  /-- Time of its latest DISAGREEMENT log entry (R79). -/
  lastLog : Option (Nat × Nat)
  /-- Trims by 8 × column + step: offset in 1/8 LSB and gain in 1/2,048, with 1/16 of a unit kept (R63, R64). -/
  trims : Map (Int × Int)
  /-- Calibration firings made of it since its last background visit (R65). -/
  calFired : Nat
  /-- Interval clock at which the write port ends writing it, where it is a new standby (R77, Table 03-9). -/
  writeEnd : Option Nat
  deriving DecidableEq, Repr

/-- The output tile of a matrix at one position, whose row tiles one FP32 sum adds up (R46). -/
structure SumKey where
  bay : Nat
  layer : Nat
  matrix : Nat
  colTile : Nat
  request : Option Nat
  place : Nat
  deriving DecidableEq, Repr

/-- A row tile of such a sum; `total` is K / 256, the row tiles of its matrix (R46). -/
structure TileRef where
  key : SumKey
  rowTile : Nat
  total : Nat
  deriving DecidableEq, Repr

/-- One FP32 sum over row tiles in ascending order: the row tile it adds next, the sum so far, and the row tiles that wait,
with their ticket and their results once they are known (R46, R75). -/
structure RowSum where
  key : SumKey
  next : Nat
  total : Nat
  acc : List F32
  waiting : List (Nat × Nat × Option (List F32))
  deriving DecidableEq, Repr

/-- A firing made in the present slot (R48, R65). -/
structure SlotFiring where
  slot : Nat
  string : Nat
  position : Nat
  calibration : Bool
  deriving DecidableEq, Repr

/-- A re-fire that waits for its slot (R75). -/
structure PendingRefire where
  ticket : Nat
  /-- The slot of the firing that disagreed: the re-fire falls in a later one (R75). -/
  slot : Nat
  /-- The aligned input group and its exponent, which the standby fires again (R75). -/
  xs : List Int
  emax : Nat
  /-- The row tile whose addition waits for it; none for a firing that carries no data. -/
  tile : Option TileRef
  /-- The results of the firing that disagreed, used when the re-fire disagrees too. -/
  results : List F32
  firing : Firing
  standby : Nat
  dis : Nat
  deriving DecidableEq, Repr

/-- A caravan core (R31, R58, R62). -/
structure Core where
  /-- 0 in service, 1 resting, 2 fenced, 3 loading (Table 03-1). Reset: C0 to C7 0, C8 1 (R62). -/
  role : Nat
  /-- The slice it carries (R86). Reset: slice n on Cn for n below 8. -/
  slice : Option Nat
  /-- When its last rest ended (R67). Reset none. -/
  lastRestEnd : Option Nat
  /-- When its present rest began. Reset 0 for C8. -/
  restStart : Option Nat
  /-- Time of its last complete full calibration pass (R69, R84). Reset none. -/
  lastFullCal : Option Nat
  /-- Rest periods the module had counted at that pass, for RESTS_SINCE_FULL (R80). Reset 0. -/
  fullAtRest : Nat
  /-- CAL_STALE has been raised since then. Reset 0. -/
  calStale : Bool
  /-- Start of the present background pass and the arrays visited in it (R65). Reset 0 and none. -/
  passStart : Nat
  visited : List Nat
  overdue : Bool
  /-- Why it is fenced: 0 policy, 1 toll, 2 sequencer, 3 disagreements (R83). Reset 0. -/
  fenceReason : Nat
  /-- Version of the microcode it runs (R71). Reset 0, DESIGN CHOICE log 5. -/
  microcode : Nat
  /-- Rest scrubs of Table 03-4 rows 1 and 2 have ended in this rest. Reset 0. -/
  restScrubbed : Bool
  /-- Failed restarts of its sequencer within the last second, by time: those that a further bite ended (R83). Reset none. -/
  seqFailures : List Nat
  /-- Disagreements of the last second: (time, string) (R83). Reset none. -/
  recentDis : List (Nat × Nat)
  /-- Firings of the last second, by time, with how many (R68, R83). Reset none. -/
  recentFirings : List (Nat × Nat)
  /-- Keep-warm firings of the last second, by time (R68). Reset none. -/
  recentWarm : List Nat
  /-- FP32 sums of the output tiles of the bays' convoys (R46). Reset none. -/
  sums : List RowSum
  /-- Firings made in the present slot (R41, R48, R65). Reset none. -/
  slotFirings : List SlotFiring
  deriving DecidableEq, Repr

/-- A rotation handover (R70). -/
structure Handover where
  outgoing : Option Nat
  incoming : Nat
  loaded : Bool
  /-- ROTATE_NOW commands that reply at its end. -/
  refs : List CmdRef
  /-- It restores a fenced core's slice (R83). -/
  forFence : Bool
  deriving DecidableEq, Repr

/-- The nine cores (R31 to R85). -/
structure Cores where
  /-- C0 to C8. Reset as Core.reset. -/
  core : Map Core
  /-- Arrays by 4,160 × core + 130 × string + position, where they differ from ArrayRec.fresh. Reset none. -/
  arrays : Map ArrayRec
  /-- Remap of mapped indices: by 4,096 × core + 128 × string + index, the physical position where it is not the index
  itself (R81, R82). Reset from the flash record. -/
  remap : Map Nat
  /-- Remaps that switch at the next convoy boundary, with the command that replies then (R81). Reset none. -/
  remapDue : List (Nat × Nat × Option CmdRef)
  /-- Re-fires pending (R75). Reset none. -/
  refires : List PendingRefire
  /-- REST_ROTATE period [s] (R67). Reset 1,200. -/
  restPeriod : Nat
  /-- Rest periods that have ended since power-on, for RESTS_SINCE_FULL (R80). Reset 0. -/
  restCount : Nat
  /-- When the present rest period began (R67). Reset 0. -/
  restFrom : Nat
  /-- Spare-exhaustion policy: 0 FENCE, 1 SHRINK (R82). Reset 0. -/
  exhaustion : Nat
  /-- The handover in progress (R70). Reset none. -/
  handover : Option Handover
  /-- Background pass period [ms] (R65). Reset 100. -/
  passPeriod : Nat
  deriving DecidableEq, Repr

/-- A staged bale (R92). -/
structure Staged where
  tenant : Nat
  bale : Bale
  /-- 0 HBM, 1 waystation, 2 library flash only. -/
  tier : Nat
  library : Option Nat
  frames : List Nat
  poisoned : Bool
  deriving DecidableEq, Repr

/-- A load in progress (R92, R93). -/
structure LoadJob where
  ref : CmdRef
  tenant : Nat
  source : Nat
  tier : Nat
  store : Bool
  library : Option Nat
  bale : Bale
  /-- UNSEAT_BALE discards that wait for it (Table 04-11). -/
  discards : List (CmdRef × Bool × Bool)
  deriving DecidableEq, Repr

/-- One request in a convoy (R152, R156). -/
structure Member where
  request : Nat
  q : Nat
  prefill : Bool
  samples : Bool
  bound : Nat
  deriving DecidableEq, Repr

/-- A convoy in flight with its commit mask (R152, R160). -/
structure Convoy where
  members : List Member
  mask : List Nat
  counter : Nat
  /-- Tail frames of requests cancelled in it, freed when it leaves the last stage (R160). -/
  tails : List Nat
  deriving DecidableEq, Repr

/-- Work that replaces a bay's bale (R98, R100). -/
structure SeatJob where
  ref : Option CmdRef
  /-- An automatic swap, judged anew at its boundary (R103, Table 04-11). -/
  auto : Bool
  /-- The bale to seat, or none for UNSEAT_BALE. -/
  handle : Option Nat
  preempt : Bool
  discard : Bool
  deleteLibrary : Bool
  started : Nat
  previous : Option Nat
  /-- The admission stop of step 1 has taken effect at a boundary. -/
  stopped : Bool
  deriving DecidableEq, Repr

/-- K and V of one KV head at a position of a step, as the activation store holds them (R109, R112). -/
structure StepKv where
  request : Nat
  layer : Nat
  position : Nat
  head : Nat
  key : List Byte
  value : List Byte
  deriving DecidableEq, Repr

/-- FP32 outputs of the query heads that share a KV head at a position of a layer; no request for a vision bale's position (R110,
R117). -/
structure AttnOut where
  request : Option Nat
  layer : Nat
  position : Nat
  head : Nat
  outputs : List (List F32)
  deriving DecidableEq, Repr

/-- What the output projection receives for a position of a layer: the outputs requantised, as group records (R54, R117). -/
structure ProjIn where
  request : Option Nat
  layer : Nat
  position : Nat
  records : List Byte
  deriving DecidableEq, Repr

/-- A bay (R86 to R106, R152 to R157). -/
structure Bay where
  kind : Nat
  sliceMask : Nat
  /-- Start of its range of mapped indices (R87). -/
  start : Nat
  /-- Per-string share k (R86). -/
  share : Nat
  tol : Nat
  swapMode : Nat
  autoSwap : Bool
  owner : Nat
  minDwell : Nat
  /-- TOL, SWAP_MODE, AUTO_SWAP and MIN_DWELL from the next boundary (R96). -/
  nextSettings : Option (Nat × Nat × Bool × Nat)
  seated : Option Nat
  /-- The bale seated, as it was when seated (R105). -/
  bale : Option Bale
  lastSeat : Option Nat
  /-- Convoys by stage, stage 1 first (R152). -/
  stages : List (Option Convoy)
  /-- Convoys planned before a Drover restart that have not entered stage 1, in order (Table 06-9, Table 14-2). -/
  planned : List Convoy
  /-- Convoys that left the last stage and wait for commit, oldest first. -/
  commits : List Convoy
  lastBoundary : Option Nat
  /-- p_pred of the last boundary [ns] (R155, R169). -/
  pPred : Rat
  /-- Boundary intervals, newest first, at most 64 (R169). -/
  intervals : List Nat
  /-- Tokens of the last decode steps, newest first, at most 4,096 (R169). -/
  accepts : List Nat
  policy : PolicyParams
  nextPolicy : Option PolicyParams
  jobs : List SeatJob
  /-- CONVOYS value of the newest covered convoy (R169). -/
  covered : Nat
  /-- K and V of the steps of the stages' last interval in the activation store (R112). -/
  own : List StepKv
  /-- Attention outputs of that interval (R117). -/
  attention : List AttnOut
  /-- Their requantised form, which the output projection receives (R54, R117). -/
  projection : List ProjIn
  /-- On a partner: the bale's bytes are not yet held (R344). -/
  pendingBale : Bool
  deriving DecidableEq, Repr

/-- Bales and bays (R86 to R106). -/
structure Bays where
  /-- Bays 0 to 7 that are defined (R86). Reset none (R94). -/
  bay : Map Bay
  /-- Staged bales by handle 0 to 63 (R92). Reset none (R94). -/
  staged : Map Staged
  /-- Loads in progress (R93). Reset none. -/
  loads : List LoadJob
  /-- Tenant whose bale was last written, by 128 × slice + mapped index (R96). Reset none. -/
  lastWriter : Map Nat
  deriving DecidableEq, Repr

/-- A decoded picture waiting for its detector (R180, R200). -/
structure Picture where
  id : Nat
  stream : Nat
  width : Nat
  height : Nat
  capture : Nat
  concealed : Bool
  fallback : Bool
  /-- Detector bays still to run on it. -/
  detectors : List Nat
  /-- Routes that process it: those of its stream that were not being dropped at its frame boundary (R15, R29). -/
  routes : List Nat
  deriving DecidableEq, Repr

/-- A command or object that waits on its context's state, in arrival order (R128, R140). -/
inductive Waiter where
  | fork (ref : CmdRef) (position : Nat)
  | pause (ref : CmdRef) (ttl : Nat)
  | resume (ref : CmdRef)
  | close (ref : CmdRef)
  | branch (ref : CmdRef) (p : SubmitParams) (inputs : List (Nat × Nat)) (tenant priority : Nat) (spans : List (Nat × Nat))
  | object (route : Nat) (picture : Picture) (box : BoxRec)
  deriving DecidableEq, Repr

/-- A flush scatter: kinds of the positions to write, their tail frames, the frames reserved for them, and the geometry and DIGEST of
the bale that wrote them, which a first scatter fixes (R128, R134). -/
structure Flush where
  kinds : List Nat
  tails : List Nat
  reserved : List Nat
  geometry : Nat × Nat × Nat × Nat
  writer : Nat
  deriving DecidableEq, Repr

/-- A context (R123 to R142). -/
structure Ctx where
  tenant : Nat
  /-- 0 open, 1 pausing, 2 paused, 3 resuming, 4 expired (Table 05-9). -/
  state : Nat
  limit : Nat
  length : Nat
  /-- KV_COMPAT, KV_HEADS, HEAD_DIM and LAYERS of the bale of the first scatter (R134). -/
  geometry : Option (Nat × Nat × Nat × Nat)
  /-- DIGEST of that bale (R104). -/
  writer : Nat
  /-- Page table, by layer (R123). -/
  pages : List (List Nat)
  /-- Kind map (R111). -/
  kinds : List Nat
  family : Nat
  ttl : Nat
  /-- Module time at which the time to live ends; none while it does not run (R136). -/
  ttlEnd : Option Nat
  /-- Time to live left when RESUME_CONTEXT stopped it (R137). -/
  ttlLeft : Option Nat
  /-- The command of the move in progress (R136, R137). -/
  move : Option CmdRef
  /-- Frames that PAUSE_CONTEXT could not move for want of room, which are not tried again while it stays paused (R136). -/
  unmoved : List Nat
  /-- The flush scatter that runs (R128). -/
  flush : Option Flush
  /-- Poisoned until CLOSE_CONTEXT (Table 09-11). -/
  poisoned : Bool
  waiters : List Waiter
  deriving DecidableEq, Repr

/-- The record of a page frame in use (Table 05-5); a frame that is not listed is free. -/
structure Frame where
  refs : Nat
  tenant : Nat
  /-- 1 in use, 2 pinned, 3 tail, 4 spill, 5 retired. -/
  state : Nat
  family : Nat
  /-- RETIRE_PAGE waits for its count to fall to zero (R267). -/
  retireDue : Bool
  poisoned : Bool
  deriving DecidableEq, Repr

/-- Contexts and page frames (R120 to R142). -/
structure Contexts where
  /-- Contexts by ID (R133). Reset none (R142). -/
  ctx : Map Ctx
  /-- Freed IDs, oldest first, behind the IDs never used (R133). Reset none. -/
  freedIds : List Nat
  /-- The next ID never used, from 1 (R133). Reset 1. -/
  nextId : Nat
  /-- Frame records by page ID (R122, R124). Reset the retired frames of the flash record. -/
  frames : Map Frame
  /-- Live contexts and branches of each family, by root ID (R131). Reset none. -/
  families : Map Nat
  /-- HBM frames divided into page-table blocks once the pool was empty (R248). Reset none. -/
  tableFrames : List Nat
  deriving DecidableEq, Repr

/-- A branch's own history (R125). -/
structure Branch where
  length : Nat
  limit : Nat
  family : Nat
  geometry : Option (Nat × Nat × Nat × Nat)
  writer : Nat
  pages : List (List Nat)
  kinds : List Nat
  deriving DecidableEq, Repr

/-- A request slot in use (R143 to R170). -/
structure Req where
  id : Nat
  /-- 0 WAITING, 1 STEPPING, 2 BETWEEN, 3 SUSPENDED (Table 06-1). -/
  state : Nat
  suspendedFrom : Nat
  tenant : Nat
  route : Option Nat
  context : Nat
  branch : Option Branch
  template : Nat
  tmpl : TemplateRec
  bay : Nat
  /-- Handle of the bale it is bound to; none: the next bale seated in its bay (R101). -/
  bale : Option Nat
  prefill : List (Nat × Nat)
  nAct : Nat
  /-- 0 none, 1 time-bound, 2 track-bound. -/
  target : Nat
  stream : Nat
  track : Nat
  when_ : Int
  /-- Capture time and s_obj + s_cell while s_launch is not formed (R20). -/
  unformed : Option (Nat × Rat)
  lead : Nat
  /-- The latest launch time from its track in 1/16 ns (R19). -/
  tLaunch16 : Option Nat
  deadline : Option Int
  seed : Nat
  created : Nat
  lastCommit : Option Nat
  sampled : List Nat
  counts : Map Nat
  drafts : List Nat
  depth : Nat
  zeroRun : Nat
  fullRun : Nat
  aMean : Rat
  sampleStep : Nat
  steps : Nat
  delivered : Nat
  suspect : Nat
  ttftMiss : Bool
  tbtMiss : Bool
  concealed : Bool
  priority : Nat
  /-- Boundaries without admission (R156). -/
  waited : Nat
  /-- Positions that the last step committed, as kinds, whose scatter the next step carries out (R127). -/
  toScatter : List Nat
  tails : List Nat
  reserved : List Nat
  /-- Positions of the step before, as kinds, whose scatter the layers of the present step carry out; its tail frames, the frames
  reserved for it, and the layers whose scattered length has advanced (R127). -/
  scattering : List Nat
  scatTails : List Nat
  scatReserved : List Nat
  layersDone : List Nat
  /-- The partner holds its slot, or makes it itself from a copied command (R142). -/
  copied : Bool
  poisoned : Bool
  /-- Order of creation, the model's own key for ties (R156). -/
  order : Nat
  ref : Option CmdRef
  spans : List (Nat × Nat)
  inputCount : Nat
  deriving DecidableEq, Repr

/-- A defined template (R145). -/
structure Template where
  tenant : Nat
  body : TemplateRec
  deriving DecidableEq, Repr

/-- A route (R13 to R30). -/
structure Route where
  tenant : Nat
  params : RouteParams
  /-- The DROP_ROUTE commands that have arrived (R29). -/
  dropping : List CmdRef
  deriving DecidableEq, Repr

/-- Requests, templates and routes (R13 to R30, R143 to R170). -/
structure Requests where
  /-- Request slots in use, by slot number (R143). Reset none. -/
  slot : Map Req
  /-- Freed slots in order, behind the slots never used (R143). Reset none. -/
  freed : List Nat
  /-- The next slot never used. Reset 0. -/
  nextSlot : Nat
  /-- Reuse count of each slot, 16 bits, wrapping (R144). Reset 0. -/
  reuse : Map Nat
  /-- Requests that ended after their final commit, for RECALL: (ID, tenant) of slots not yet reused (Table 06-7).
  Reset none. -/
  ended : Map Nat
  /-- Templates 0 to 1,023 (R145). Reset none. -/
  templates : Map Template
  /-- Producer index of each report ring, by 2^64 × function + host address (R150, R151). Reset none. -/
  rings : Map Nat
  /-- Routes 0 to 4,095 (R15). Reset none. -/
  routes : Map Route
  /-- Count of requests created, for the order of R156. Reset 0. -/
  created : Nat
  /-- On a partner, the ID that the request of the COMMAND record being applied takes (R341). Reset none. -/
  slotHint : Option Nat
  deriving DecidableEq, Repr

/-- An access unit in reassembly or waiting for a pipe (R176). -/
structure AccessUnit where
  stream : Nat
  timestamp : Nat
  /-- When its first packet arrived, on the interval clock and in module time. -/
  firstAt : Nat
  arrival : Nat
  /-- When the first packet of a later access unit arrived (R176). -/
  laterAt : Option Nat
  firstSeq : Nat
  /-- Highest sequence number of the access unit before it, once that one has been handed on. -/
  prevSeq : Option Nat
  /-- The capture time element of its first packet (R175). -/
  ext : Option Nat
  seqs : List Nat
  /-- The packets' payloads in the clear, by sequence number (R174, R176). -/
  parts : List (Nat × List Byte)
  markerSeq : Option Nat
  bytes : Nat
  truncated : Bool
  capture : Nat
  fallback : Bool
  missing : Nat
  completedAt : Nat
  deriving DecidableEq, Repr

/-- A kept box of a route that waits for its crop batch (R206). -/
structure CropJob where
  route : Nat
  picture : Picture
  box : BoxRec
  deriving DecidableEq, Repr

/-- A picture of a stream's decoded picture buffer: its number, the surface that holds its samples, and its place in output order (R179,
R186, R192). -/
structure StoredPicture where
  number : Nat
  slot : Nat
  order : Int
  width : Nat
  height : Nat
  bitDepth : Nat
  vuiMatrix : Nat
  vuiRange : Nat
  colour : Bool
  reference : Bool
  deriving DecidableEq, Repr

/-- A stream context (R171 to R187). -/
structure VStream where
  tenant : Nat
  params : StreamParams
  /-- 0 open, 1 awaiting a decodable picture, 2 stalled (Table 07-13). -/
  state : Nat
  width : Nat
  height : Nat
  frames : List Nat
  /-- Access units in reassembly, oldest first, at most two. -/
  units : List AccessUnit
  /-- Timestamps of access units handed on (R176). -/
  handed : List Nat
  lastSeq : Option Nat
  lastUnitAt : Nat
  /-- Latest sender report: (t_sr, RTP timestamp) (R175). -/
  report : Option (Int × Nat)
  /-- SRTP packet indices, rollover counter above the sequence number, seen in the replay window (R174). -/
  replay : List Nat
  /-- SRTCP indices seen in the replay window (R174). -/
  rtcpReplay : List Nat
  /-- Nothing is decoded until a conforming IDR or IRAP picture (Table 07-5). -/
  awaiting : Bool
  /-- Flagged pictures held as references, by picture number (R186). -/
  flagged : List Nat
  /-- The decoded picture buffer: the references and the last output picture, which stands last (R179, R185, R186). -/
  dpb : List StoredPicture
  /-- Pictures output, its picture count. -/
  pictures : Nat
  /-- Pictures whose tensor a detector or a crop still reads, with the tensor surface that holds it, at most two (R172,
Table 07-14). -/
  tensor : List (Nat × Nat)
  /-- The box list of the newest picture that a detector has run on (R188, R200). -/
  boxes : List BoxRec
  /-- Pipe waits of the last second: (time, wait) (R181). -/
  waits : List (Nat × Nat)
  /-- CLOSE_STREAM waits for the pipe (R207). -/
  closing : Option CmdRef
  deriving DecidableEq, Repr

/-- A decode pipe (R179). -/
structure Pipe where
  unit : Option AccessUnit
  takenAt : Nat
  lastStream : Option Nat
  deriving DecidableEq, Repr

/-- A slot of an encode session: the source picture at the session's size, or none, and the boxes it overlays (R188, R189). -/
structure EncodeDue where
  capture : Nat
  flags : Nat
  picture : Option Planes
  boxes : List BoxRec
  deriving DecidableEq, Repr

/-- An encode session (R188 to R190). -/
structure Session where
  tenant : Nat
  params : EncodeParams
  /-- f_after_prev of R190, in bits. -/
  fullness : Rat
  pictures : Nat
  divCount : Nat
  forceIdr : Bool
  producer : Nat
  /-- Pictures coded since the last IDR picture, with it (R189). -/
  sinceIdr : Nat
  /-- Pictures to code, oldest first (R189). -/
  due : List EncodeDue
  closing : Option CmdRef
  deriving DecidableEq, Repr

/-- An MXINT8 block: scale and 32 elements (R38). -/
structure MxBlock where
  scale : Nat
  elems : List Int
  deriving DecidableEq, Repr

/-- The requantised patches of one box for one route, in token order (R205). -/
structure BoxPatches where
  route : Nat
  candidate : Nat
  patches : List (List MxBlock)
  /-- Their visual tokens (R205). -/
  tokens : List (List MxBlock)
  deriving DecidableEq, Repr

/-- Video engine and vision front end (R171 to R210). -/
structure Video where
  /-- Stream contexts 0 to 1,023 that are open (R171). Reset none. -/
  streams : Map VStream
  /-- Completed access units, in completion order (R179). Reset none. -/
  ready : List AccessUnit
  /-- Decode pipes 0 to 7 (R179). Reset all free. -/
  pipes : Map Pipe
  /-- Pictures with detectors still to run (R200). Reset none. -/
  pictures : List Picture
  /-- Boxes kept for routes and waiting for a crop batch, oldest first (R206). Reset none. -/
  crops : List CropJob
  /-- Encode sessions 0 to 15 that are open (R188). Reset none. -/
  sessions : Map Session
  /-- Patches of the boxes of the newest crop batch (R205). Reset none. -/
  patches : List BoxPatches
  deriving DecidableEq, Repr

/-- A toll arbiter (R252 to R258). -/
structure Toll where
  /-- TOL_PRIO_A, 32 bits (Table 09-5). Reset 0x8888_8888. -/
  prioA : W32
  /-- TOL_PRIO_B, 32 bits (Table 09-6). Reset 0x0041_C6A8. -/
  prioB : W32
  /-- TOL_LIMITS r = 0 to 13, 32 bits each (Table 09-7). Reset WAIT_LIMIT 64, BURST 255. -/
  limits : List W32
  /-- TOL_WATCHDOG, 32 bits (Table 09-8). Reset 65,536. -/
  watchdog : Nat
  /-- Owner of the grant in force (R253). Reset none. -/
  owner : Option Nat
  /-- Requesters requesting, 14 bits (Table 09-9). Reset 0. -/
  requests : Nat
  /-- Wait counters of the 14 requesters, 12 bits each (R253). Reset 0. -/
  wait : List Nat
  /-- Rotating pointer, 0 to 13 (R253). Reset 0. -/
  ptr : Nat
  deriving DecidableEq, Repr

/-- An entry of the error log (Table 09-17). -/
structure LogEntry where
  seq : Nat
  kind : Nat
  cls : Nat
  unit : Nat
  eventRaised : Bool
  time : Nat
  rep : Nat
  tenant : Nat
  detail : List Byte
  deriving DecidableEq, Repr

/-- A scrub queued or running (R263). -/
structure Scrub where
  ref : CmdRef
  params : ScrubParams
  stopped : Bool
  deriving DecidableEq, Repr

/-- Memory classes, tolls, errors and the log (R246 to R270). -/
structure MemSys where
  /-- Bytes stored per class and unit, by 16 × class + unit, at class addresses; an address not listed reads 0 (R246).
  Weight cells are class 4 (R251). Reset none listed, DESIGN CHOICE log 3. -/
  mem : Map (List Host.Cell)
  /-- Poisoned codewords: (16 × class + unit, codeword address) (R260). Reset none. -/
  poison : List (Nat × Nat)
  /-- Codewords stored with flipped bits and not rewritten: (16 × class + unit, codeword address, the mask) (R262).
  Reset none. -/
  flipped : List (Nat × Nat × Nat)
  /-- Tolls 0 to 25 (R252). Reset as Toll.reset. -/
  tolls : Map Toll
  /-- TOL_FENCE.FENCED, 14 bits (Table 09-10). Reset 0. -/
  fence : Nat
  /-- The escort engine requests at priority 15 on every toll (R375). Reset 0. -/
  escortBoost : Bool
  /-- ECC_FLIP_CTRL.ARM (Table 09-12). Reset 0. -/
  flipArm : Bool
  /-- ECC_FLIP_CTRL.APPLIED (Table 09-12). Reset 0. -/
  flipApplied : Bool
  /-- ECC_FLIP_CTRL.REFUSED (Table 09-12). Reset 0. -/
  flipRefused : Bool
  /-- ECC_FLIP_CTRL.CLASS, 4 bits (Table 09-12). Reset 0. -/
  flipClass : Nat
  /-- ECC_FLIP_CTRL.UNIT, 8 bits (Table 09-12). Reset 0. -/
  flipUnit : Nat
  /-- ECC_FLIP_CTRL.ANY (Table 09-12). Reset 0. -/
  flipAny : Bool
  /-- ECC_FLIP_ADDR, 64 bits (Table 09-13). Reset 0. -/
  flipAddr : Nat
  /-- ECC_FLIP_MASK words 0 to 8, 32 bits each (Table 09-14). Reset 0. -/
  flipMask : List Nat
  /-- Scrubs queued and running, in arrival order (R263). Reset none. -/
  scrubs : List Scrub
  /-- The error log, oldest first, at most 1,024 entries (R265). Reset empty. -/
  log : List LogEntry
  /-- SEQUENCE of the newest entry, ECC_LOG_HEAD (R265). Reset 0. -/
  logHead : Nat
  /-- The read mark (R265). Reset 0. -/
  readMark : Nat
  /-- ECC_LOG_OVERFLOW, 48 bits, a statistics counter (Table 09-20). Reset 0. -/
  overflow : Nat
  /-- Retired banks: (tier, channel group or package, bank) (R267). Reset from the flash record. -/
  banks : List (Nat × Nat × Nat)
  deriving DecidableEq, Repr

/-- A removal in progress (R329, R330). -/
structure Removal where
  /-- REMOVE_TENANT; none where a key store failure or the partner's marker began it. -/
  ref : Option CmdRef
  /-- Frames the tenant held when it began. -/
  frames : Nat
  /-- CELL_SEQ of the revoke marker, where one was sent. -/
  marker : Option Nat
  /-- The marker could not be sent. -/
  unconfirmed : Bool
  deriving DecidableEq, Repr

/-- A tenant (R308 to R331). -/
structure Tenant where
  /-- 1 present, 2 revoking (Table 11-10). -/
  state : Nat
  slot : Nat
  publicKey : Option Nat
  consent : Nat
  consentCounter : Nat
  hbmQuota : Nat
  wayQuota : Nat
  /-- Job secret and JOB_GEN installed (R315). -/
  job : Option (Nat × Nat)
  /-- The previous job, accepted until a module time (R317). -/
  oldJob : Option (Nat × Nat × Nat)
  /-- Its removal in progress (R329). -/
  removal : Option Removal
  deriving DecidableEq, Repr

/-- A key slot (R308). -/
structure KeySlot where
  /-- 0 FREE, 1 ACTIVE, 2 REVOKING, 3 QUARANTINE, 4 RETIRED (Table 11-2). Reset FREE; slot 0 ACTIVE. -/
  state : Nat
  /-- GENERATION, 16 bits (R309). Reset 1. -/
  generation : Nat
  pageKey : Nat
  tenant : Option Nat
  lateWrites : Nat
  deriving DecidableEq, Repr

/-- Customs (R304 to R333). -/
structure Customs where
  /-- Tenants present or revoking (R308). Reset tenant 0 with no key. -/
  tenants : Map Tenant
  /-- Key slots 0 to 127 (R308). Reset as KeySlot.reset. -/
  slots : Map KeySlot
  /-- The service port is open (R328). Reset 1: no tenant present and no owner key set. -/
  servicePort : Bool
  /-- ACTIVATE_MANIFEST is refused for a bad loader SRAM until power-on (R307). Reset 0. -/
  loaderBad : Bool
  /-- Module storage key of the firmware area (R313). Reset a fresh key. -/
  storageKey : Nat
  /-- SPDM connection state of the I3C connection (R321). Reset empty. -/
  spdm : List Byte
  /-- Customs firmware restarts (R401): class 0x06 commands wait. Reset 0. -/
  restarting : Bool
  deriving DecidableEq, Repr

/-- A planned role swap, or a resync (R358, R361). -/
inductive PairJob where
  /-- A planned swap; `removal` where PREPARE_REMOVAL asked for it. -/
  | swap (ref : CmdRef) (removal : Bool)
  | resync (ref : CmdRef) (p : ShadowParams) (toShadow : Bool)
  | window (ref : CmdRef) (p : ShadowParams)
  deriving DecidableEq, Repr

/-- The escort engine (R334 to R365, R420). -/
structure Escort where
  /-- ESC_STATUS.ROLE, 4 bits: 0 UNPAIRED, 1 ACTIVE, 2 ESCORT, 3 SHADOW, 4 DETACHED (Table 12-1). Reset 0. -/
  role : Nat
  /-- ESC_STATUS.HEALTH, 4 bits: 0 none, 1 COVERED, 2 DEGRADED, 3 ALONE, 4 RESYNC (Table 12-9). Reset 0. -/
  health : Nat
  /-- ESC_EPOCH.EPOCH, 32 bits (Table 12-12). Reset the stored epoch. -/
  epoch : Nat
  /-- EPOCH_STUCK has been raised (R353). Reset 0. -/
  stuckRaised : Bool
  /-- Pair position (R336). Reset 0. -/
  position : Nat
  /-- PARTNER_SERIAL of the pair record (Table 12-9). Reset 0. -/
  partner : Nat
  /-- The role the partner's last heartbeat carried (R420). Reset 0. -/
  partnerRole : Nat
  /-- The pair key (R337). Reset 0. -/
  pairKey : Nat
  /-- Session randoms of the link-up, own and the partner's (R340). Reset 0. -/
  randoms : Nat × Nat
  /-- ESC_STATUS.LINK_UP, 1 bit (Table 12-11). Reset 0. -/
  linkUp : Bool
  /-- The link runs at half rate on the port that is left (R338). Reset none. -/
  halfPort : Option Nat
  /-- ESC_STATUS.COPY_RUNNING, 1 bit (Table 12-11). Reset 0. -/
  copying : Bool
  /-- ESC_STATUS.LEAVING_SEEN, 1 bit (Table 12-11). Reset 0. -/
  leavingSeen : Bool
  /-- LEAVING is set in the module's own heartbeats (R352, R388). Reset 0. -/
  leaving : Bool
  /-- ESC_STATUS.MGMT_LOST, 1 bit (R349). Reset 0. -/
  mgmtLost : Bool
  /-- Dead rule of Table 12-6, 1 bit. Reset 0 (BOTH). -/
  rule : Nat
  /-- N_LINK, 8 bits (R350). Reset 10. -/
  nLink : Nat
  /-- N_MGMT, 8 bits (R350). Reset 3. -/
  nMgmt : Nat
  /-- Interval clock at the partner's last link heartbeat (R349). Reset 0. -/
  lastLink : Nat
  /-- Interval clock at the partner's last management heartbeat (R349). Reset 0. -/
  lastMgmt : Nat
  /-- Interval clock at the last keep-alive (R349). Reset 0. -/
  lastKeep : Nat
  /-- Interval clock at the last link heartbeat sent (R348). Reset 0. -/
  sentLink : Nat
  /-- Interval clock at the last management heartbeat sent (R348). Reset 0. -/
  sentMgmt : Nat
  /-- Next CELL_SEQ to send, 64 bits, from 1 (Table 12-3). Reset 1. -/
  txSeq : Nat
  /-- Highest cell sequence received in order, the ACK to send (Table 12-3). Reset 0. -/
  rxSeq : Nat
  /-- Highest ACK received. Reset 0. -/
  acked : Nat
  /-- Transmit retention: records sent and not acknowledged, with CELL_SEQ, ATTEMPT and bytes (R340, R346). Reset none. -/
  retention : List (Nat × Nat × Nat × CopyRec)
  /-- Records of the convoy being received and held until its CONVOY_END (R341). Reset none. -/
  held : List CopyRec
  /-- COMMAND records received and not yet applied, as (opcode, tag, the request ID the active gives next) (R341). Reset
  none. -/
  toApply : List (Nat × Nat × Nat)
  /-- Convoys not covered: (bay, counter, CELL_SEQ of CONVOY_END, commit time) (R27). Reset none. -/
  uncovered : List (Nat × Nat × Nat × Nat)
  /-- ESC_COPY.COVERED, 48 bits (Table 12-13). Reset 0. -/
  covered : Nat
  /-- COVER_LAG of the pair record, 32 bits (Table 12-9). Reset 0. -/
  coverLag : Nat
  /-- CONVOY_END of the newest convoy sent (R348). Reset 0. -/
  newestEnd : Nat
  /-- ESC_EVENTS, bits [5:0] (Table 12-14). Reset 0. -/
  events : Nat
  /-- Removals and cancels the partner must apply at its next contact (R330, R162). Reset none. -/
  owed : List CopyRec
  /-- Commands that wait for the partner's acknowledgement of a marker: the command, its CELL_SEQ, its RESULT0, and whether
  the partner reports a count of its own launches (R161, R162). Reset none. -/
  acksDue : List (CmdRef × Nat × Nat × Bool)
  /-- On a partner, counts of entries that had launched when a recall reached it, sent with its next ACK (R161). Reset none. -/
  reports : List Nat
  /-- A swap or resync in progress (R358, R361). Reset none. -/
  job : Option PairJob
  /-- Cable modules in E0 and E1: (port, lanes, Mb/s per lane) (R337, R371). Reset none. -/
  cables : List (Nat × Nat × Nat)
  /-- On a shadow, the window it judges (R359). Reset none. -/
  shadow : Option ShadowParams
  /-- The partner is DETACHED only because its copy stopped (R358). Reset 0. -/
  copyStopped : Bool
  /-- The partner has sent LEAVING, and none has been paired since: no self-fence (R389). Reset 0. -/
  partnerLeft : Bool
  deriving DecidableEq, Repr

/-- The leaving sequence (R388). -/
structure Leaving where
  /-- Its target: for removal, or a thermal hold. -/
  removal : Bool
  started : Nat
  ref : Option CmdRef
  /-- Step 4 has been carried out. -/
  fenced : Bool
  /-- REMOVE is lit. -/
  ready : Bool
  deriving DecidableEq, Repr

/-- Waterbearer (R366 to R399). -/
structure Power where
  /-- RNG_MODULE_STATUS.STATE, 4 bits (Table 10-5). Reset 0 (BOOTING). -/
  state : Nat
  /-- PWR_STATUS.CLOCK, 4 bits: 800 + 100 × n MHz (Table 13-13). Reset 8. -/
  clock : Nat
  /-- PWR_STATUS.FIRE_BUDGET, 10 bits: F in force (R48). Reset 512. -/
  fireBudget : Nat
  /-- The slot in which F last changed and the F before it, which that slot still has (R48). Reset (0, 512). -/
  budgetWas : Nat × Nat
  /-- PWR_STATUS.LATCH_OPEN, 1 bit (R390). Reset 0. -/
  latchOpen : Bool
  /-- PWR_STATUS.RAILS_ON, 1 bit (Table 13-13). Reset 0. -/
  railsOn : Bool
  /-- PWR_STATUS.DIP, 1 bit (R375). Reset 0. -/
  dip : Bool
  /-- Time at which the dip began (R375). Reset 0. -/
  dipSince : Nat
  /-- PWR_STATUS.RAMP_LIMITED, 1 bit (Table 13-13). Reset 0. -/
  rampLimited : Bool
  /-- PWR_STATUS.CAPPED, 1 bit (Table 13-13). Reset 0. -/
  capped : Bool
  /-- PWR_STATUS.SMOOTHING, 1 bit (Table 13-13). Reset 0. -/
  smoothing : Bool
  /-- Rungs in force, codes 1 to 5 (Table 13-6). Reset none. -/
  rungs : List Nat
  /-- Since when each rung's trigger has held, as (rung, time) (R384). Reset none. -/
  trigger : List (Nat × Nat)
  /-- Since when each rung's clearing condition has held (R384). Reset none. -/
  clearing : List (Nat × Nat)
  /-- PWR_INPUT.POWER [W], 16 bits (Table 13-14). Reset 0. -/
  watts : Nat
  /-- PWR_INPUT.CURRENT [10 mA], 16 bits (Table 13-14). Reset 0. -/
  current : Nat
  /-- PWR_INPUT.VOLTAGE [mV], 16 bits (Table 13-14). Reset 0. -/
  volts : Nat
  /-- Voltage of the bulk capacitance as Waterbearer last measured it [mV], 16 bits (R372, R376). Reset 0, DESIGN CHOICE log 5. -/
  bulk : Nat
  /-- PWR_INPUT.DIP_MIN [mV], 16 bits (Table 13-14). Reset 0. -/
  dipMin : Nat
  /-- PWR_THERMAL.INLET [0.1 °C], 16 bits signed (Table 13-15). Reset 0. -/
  inlet : Int
  /-- PWR_THERMAL.OUTLET [0.1 °C], 16 bits signed (Table 13-15). Reset 0. -/
  outlet : Int
  /-- PWR_THERMAL.TJ_MAX [0.1 °C], 16 bits signed (Table 13-15). Reset 0. -/
  junction : Int
  /-- PWR_THERMAL.FLOW [0.01 L/min], 16 bits (Table 13-15). Reset 0. -/
  flow : Nat
  /-- Since when flow has been at least 4.0 L/min (Table 13-4 step 3). Reset none. -/
  flowSince : Option Nat
  /-- Host limits CAP, RAMP_UP, RAMP_DOWN, 0 for none (R392). Reset 0. -/
  hostCap : Nat
  hostUp : Nat
  hostDown : Nat
  /-- Rack manager's POWER_CAP, RAMP_UP, RAMP_DOWN, 0 for none set (R387). Reset 0. -/
  rackCap : Nat
  rackUp : Nat
  rackDown : Nat
  /-- Input-power allowance of the ramp [W] (R379). Reset 0. -/
  allowance : Nat
  /-- When the present 1 ms window of the ramp began (R379). Reset 0. -/
  window : Nat
  /-- PWR_EVENTS, bits [6:0] (Table 13-17). Reset 0. -/
  events : Nat
  /-- The presence contact is mated (R368). Reset 0. -/
  mated : Bool
  /-- The input is above Reset release and below Over-voltage clear (R374). Reset 0. -/
  released : Bool
  /-- The input is over-voltage (R374). Reset 0. -/
  overVoltage : Bool
  /-- Valid slot record: SLOT, PARTNER_SLOT, SLOT_POWER_LIMIT, RAMP_UP, RAMP_DOWN (Table 13-3). Reset none. -/
  slot : Option (Nat × Nat × Nat × Nat × Nat)
  /-- SLOT_INVALID through PLDM (R369). Reset 0. -/
  slotInvalid : Bool
  /-- Time of the last read of the slot record (R369). Reset 0. -/
  slotRead : Nat
  /-- Valid breakout record: OR_COMBINING and SERIAL (R370); PWR_STATUS.BREAKOUT_VALID reads whether there is one.
  Reset none. -/
  breakout : Option (Bool × Nat)
  /-- The leaving sequence in progress (R388). Reset none. -/
  leaving : Option Leaving
  /-- A trip has switched the rails off until the next power-on reset (Table 13-6). Reset 0. -/
  tripped : Bool
  deriving DecidableEq, Repr

/-- An activation whose flash write or outcome is outstanding (R406, R408). -/
structure Activation where
  ref : CmdRef
  manifest : Manifest
  switched : Nat
  windowNs : Nat
  deriving DecidableEq, Repr

/-- Firmware (R400 to R413). -/
structure Firmware where
  /-- Running part versions 0x01 to 0x07 (Table 14-6). Reset those of NOR. -/
  versions : List Nat
  /-- Measurements of the running parts (R323). Reset those of NOR. -/
  hashes : List Nat
  /-- Native handover record format of each running part (Table 14-4). Reset those of NOR. -/
  formats : List Nat
  /-- Image length of each running part (Table 14-4). Reset those of NOR. -/
  lengths : List Nat
  /-- RUNNING_MANIFEST, 32 bits (Table 14-6). Reset that of NOR. -/
  running : Nat
  /-- ACTIVATED_UNVERIFIED (R324). Reset 0. -/
  unverified : Bool
  /-- RECOVERED (R410). Reset 0. -/
  recovered : Bool
  /-- LOADER_PENDING: a changed LOADER waits for the next boot (R406). Reset 0. -/
  loaderPending : Bool
  /-- The committed core microcode version that rests take up (R71). Reset that of NOR. -/
  coreCommitted : Nat
  /-- LAST_PART and LAST_REASON, 8 bits each (Table 14-6). Reset 0. -/
  lastPart : Nat
  lastReason : Nat
  /-- ACTIVATIONS, 32 bits, saturating (Table 14-6). Reset 0. -/
  activations : Nat
  /-- RESTARTS of parts 0x01 to 0x07, 16 bits each, saturating (Table 14-6). Reset 0. -/
  restarts : List Nat
  /-- The staged manifest (R404). Reset none. -/
  manifest : Option Manifest
  /-- Staged images: (part, length, hash) (R404). Reset none. -/
  staged : List (Nat × Nat × Nat)
  /-- Waystation frames of staging by part, and of the kept old images by 256 + part (R250, R404, R406). Reset none. -/
  frames : List (Nat × List Nat)
  /-- The activation in step 8 (R408); FLASH_WRITING reads whether there is one. Reset none. -/
  writing : Option Activation
  /-- Processors restarting: (part, processor, from NOR, since) (R401). Reset none. -/
  restarting : List (Nat × Nat × Bool × Nat)
  /-- Recovery stage: 0 none, 1 from the partner, 2 from the host (R410), and when stage 1 began. Reset 0. -/
  recovery : Nat
  recoverySince : Nat
  deriving DecidableEq, Repr

/-- The fuses that Customs holds, SERIAL apart, which is Config.serial (Table 11-1). -/
structure Fuses where
  /-- ROOT_KEY_HASH, 384 bits (R304). Reset 0, DESIGN CHOICE log 6. -/
  rootKeyHash : Nat
  /-- ANTI_ROLLBACK: set bits of each class 0 to 7, up to 64 (R304). Reset 0 each, DESIGN CHOICE log 6. -/
  antiRollback : List Nat
  /-- DEBUG_POLICY, 4 bits (R304). Reset 0b0011. -/
  debugPolicy : Nat
  /-- LIFECYCLE, 4 bits (R304). Reset 0b0011 FIELD (R305). -/
  lifecycle : Nat
  /-- IDENTITY_SEED, 256 bits, which Customs' key derivation alone reads (R304, R306). Reset 0, DESIGN CHOICE log 6. -/
  identitySeed : Nat
  deriving DecidableEq, Repr

/-- What survives a power-on reset: library flash, NOR, records (R81, R94, R268, R337). -/
structure Persist where
  /-- Library flash bales by index 0 to 1,023: owner and bale (R94). -/
  library : Map (Nat × Bale)
  /-- Retired arrays, by 4,160 × core + 130 × string + position (R81). -/
  retiredArrays : List Nat
  /-- Remap recorded with them (R81). -/
  remap : Map Nat
  /-- Retired frames by page ID (R268). -/
  retiredFrames : List Nat
  /-- Retired banks (R268). -/
  retiredBanks : List (Nat × Nat × Nat)
  /-- Stored pair epoch (R337). -/
  epoch : Nat
  /-- FLASH_MANIFEST: the version of the manifest in NOR, 32 bits (Table 14-6). -/
  norVersion : Nat
  /-- Standby NOR entries copied into the log at the next boot: (kind, detail) (R384, R410). -/
  standbyNor : List (Nat × List Byte)
  deriving DecidableEq, Repr

/-- The module. -/
structure State where
  host : HostLink
  mls : Milestone
  cores : Cores
  bays : Bays
  ctxs : Contexts
  reqs : Requests
  video : Video
  mem : MemSys
  customs : Customs
  escort : Escort
  power : Power
  fw : Firmware
  persist : Persist
  fuses : Fuses
  /-- Every statistics and prescaled counter (R59, R414), by the selector, keys and offset that COUNTER_STUCK names it
  with (R296). Reset none listed, each reads 0. -/
  stats : Map Nat
  /-- Counter of free values drawn: the model's own field. Reset 2, the keys made at power-on having taken 0 and 1, DESIGN CHOICE log 7. -/
  free : Nat
  /-- What has left the module, oldest first: the model's own field. Reset empty. -/
  out : List Output
  /-- Commands waiting, first in, first out: the model's own field. Reset empty. -/
  pending : List Instr
  deriving DecidableEq, Repr

/-- A ring pair after reset (Tables 10-9 to 10-14). -/
def RingPair.reset : RingPair :=
  { cmdBase := 0, rplBase := 0, coalTime := 0, coalCount := 1, enable := false, vector := 0, rplLog2 := 4,
    cmdLog2 := 4, cmdHead := 0, cmdTail := 0, rplHead := 0, rplTail := 0, phase := true, crcFailed := 0,
    discarded := 0, open_ := false, error := false, generation := 0, outstanding := [], fetched := [],
    unfetched := [], waiting := [], sinceMsg := 0, firstSince := none, session := 0 }

/-- A function after its reset (Tables 10-6 to 10-8, R292). -/
def FnState.reset : FnState :=
  { evqBase := 0, lost := 0, mask := 0xFFFF, evqEnable := false, evqVector := 0, evqLog2 := 4, evqTail := 0,
    evqHead := 0, evqPhase := true, pendingLost := 0, d3hot := false, busMaster := true, present := true,
    awaitHello := false, latched := none, spdm := [], heldWrites := [] }

/-- An array that nothing has touched: position below 128 mapped, else a free spare (Table 03-7). The spec gives no contents of
the shell's scale table and mode bit before the first tile: every scale reads 0x00, in SX4 mode, DESIGN CHOICE log 101. -/
def ArrayRec.fresh (position : Nat) : ArrayRec :=
  { state := if position < 128 then 0 else 1, trimAtLimit := false, planeError := false, probeFailed := false,
    disagree := 0, refired := 0, suspect := 0, calRetries := 0, mxint8 := false,
    rangeStep := 7, scales := [], standbyFor := none, wordSuspect := false, lastLog := none, trims := [], calFired := 0,
    writeEnd := none }

/-- Core `n` at power-on: C8 resting, slice n on Cn (R62). -/
def Core.reset (n : Nat) : Core :=
  { role := if n = 8 then 1 else 0, slice := if n = 8 then none else some n, lastRestEnd := none,
    restStart := if n = 8 then some 0 else none, lastFullCal := none, fullAtRest := 0, calStale := false, passStart := 0,
    visited := [], overdue := false, fenceReason := 0, microcode := 0, restScrubbed := false,
    seqFailures := [], recentDis := [], recentFirings := [], recentWarm := [], sums := [], slotFirings := [] }

/-- A toll after reset (Tables 09-5 to 09-9). -/
def Toll.reset : Toll :=
  { prioA := 0x88888888, prioB := 0x0041C6A8, limits := List.replicate 14 0x004000FF, watchdog := 65536,
    owner := none, requests := 0, wait := List.replicate 14 0, ptr := 0 }

/-- A free pipe. -/
def Pipe.reset : Pipe :=
  { unit := none, takenAt := 0, lastStream := none }

/-- Settings of Milestone at power-on (R218). -/
def TimebaseParams.reset : TimebaseParams :=
  { bus := true, ptp := true, preferPtp := false, ptpDomain := 0, ptpPorts := 15, transport := 0,
    peerDelay := false, ptpVlan := 0, holdoverLimit := 60, step := false, stepNs := 0 }

/-- Milestone after reset (Tables 08-17 to 08-23, R218). -/
def Milestone.reset : Milestone :=
  { time := 0, uptime := 0, disc := 0, offset := 0, busOffset := 0, ptpOffset := none, stepNeeded := false, ptpPresent := false, busPresent := false, source := 0,
    cfg := TimebaseParams.reset, pllLocked := false, nextCode := none, goodPulses := 0, lastPulse := none,
    ptpMaster := none, lastAnnounce := none, settledSince := none, holdoverSince := none, stepped := false,
    events := 0, holdPin := true, hold := true, holdRose := some 0, holdCount := 0, inputs := 0,
    closedInputs := [], inputRose := [], releaseDelay := 10000, lineEnable := 0, fenceBreakout := false,
    fenceSelf := false, fenceLeave := false, egressClosed := false, highWater := 0, ledger := [], slots := [],
    egress := [], pulses := [], setLines := [], launched := [], portsUp := [], tracks := [], streams := [] }

/-- The numbers below `n`, each with `f` of it. -/
def tableUpto {α : Type} (n : Nat) (f : Nat → α) : Map α := (List.range n).map fun i => (i, f i)

/-- Number `8 × function + ring` of every ring pair: 8 on the physical function, 4 on each virtual one. -/
def ringNumbers : List Nat :=
  (List.range 8) ++ ((List.range 63).flatMap fun n => (List.range 4).map fun k => 8 * (n + 1) + k)

/-- The host link after reset. -/
def HostLink.reset : HostLink :=
  { rings := ringNumbers.map fun i => (i, RingPair.reset), fns := tableUpto 64 fun _ => FnState.reset,
    linkUp := false, msix := [] }

/-- The arrays whose state the recorded remap changes: a position that backs a mapped index is mapped, and a working one of
positions 0 to 127 whose index another backs is a free spare (R81, Table 03-7). -/
def Persist.backing (p : Persist) : Map ArrayRec :=
  let array := fun k i : Nat => 4160 * (k / 4096) + 130 * (k % 4096 / 128) + i
  let backed := p.remap.map fun x => array x.1 x.2
  let left := (p.remap.map fun x => array x.1 (x.1 % 128)).filter fun a =>
    !backed.contains a && !p.retiredArrays.contains a
  (backed.map fun a => (a, { ArrayRec.fresh (a % 4160 % 130) with state := 0 })) ++
    left.map fun a => (a, { ArrayRec.fresh (a % 4160 % 130) with state := 1 })

/-- The cores at power-on, with the retirements of the flash record (R62, R81). -/
def Cores.reset (p : Persist) : Cores :=
  { core := tableUpto 9 Core.reset,
    arrays := (p.retiredArrays.map fun a => (a, { ArrayRec.fresh (a % 4160 % 130) with state := 3 })) ++
      Persist.backing p,
    remap := p.remap, remapDue := [], refires := [], restPeriod := 1200, restCount := 0, restFrom := 0, exhaustion := 0,
    handover := none, passPeriod := 100 }

/-- Contexts and frames after reset: only the retired frames of the flash record are listed (R142, R268). -/
def Contexts.reset (p : Persist) : Contexts :=
  { ctx := [], freedIds := [], nextId := 1,
    frames := p.retiredFrames.map fun f =>
      (f, { refs := 0, tenant := 0, state := 5, family := 0, retireDue := false, poisoned := false }),
    families := [], tableFrames := [] }

/-- Requests, templates and routes after reset. -/
def Requests.reset : Requests :=
  { slot := [], freed := [], nextSlot := 0, reuse := [], ended := [], templates := [], rings := [], routes := [], created := 0, slotHint := none }

/-- The video engine after reset. -/
def Video.reset : Video :=
  { streams := [], ready := [], pipes := tableUpto 8 fun _ => Pipe.reset, pictures := [], crops := [], sessions := [],
    patches := [] }

/-- Memories, tolls and the log after reset. -/
def MemSys.reset (p : Persist) : MemSys :=
  { mem := [], poison := [], flipped := [], tolls := tableUpto 26 fun _ => Toll.reset, fence := 0,
    escortBoost := false, flipArm := false, flipApplied := false, flipRefused := false, flipClass := 0,
    flipUnit := 0, flipAny := false, flipAddr := 0, flipMask := List.replicate 9 0, scrubs := [], log := [],
    logHead := 0, readMark := 0, overflow := 0, banks := p.retiredBanks }

/-- Tenant 0 at power-on: present, with no key and no consent (R310, R326). -/
def Tenant.owner : Tenant :=
  { state := 1, slot := 0, publicKey := none, consent := 0, consentCounter := 0, hbmQuota := 0, wayQuota := 0,
    job := none, oldJob := none, removal := none }

/-- Key slot `n` at power-on (R308, R309). -/
def KeySlot.reset (n : Nat) : KeySlot :=
  { state := if n = 0 then 1 else 0, generation := 1, pageKey := if n = 0 then Config.randomKey 0 else 0,
    tenant := if n = 0 then some 0 else none, lateWrites := 0 }

/-- Customs at power-on. -/
def Customs.reset : Customs :=
  { tenants := [(0, Tenant.owner)], slots := tableUpto 128 KeySlot.reset, servicePort := true, loaderBad := false,
    storageKey := Config.randomKey 1, spdm := [], restarting := false }

/-- The escort engine at power-on (Tables 12-11 to 12-14). -/
def Escort.reset (p : Persist) : Escort :=
  { role := 0, health := 0, epoch := p.epoch, stuckRaised := false, position := 0, partner := 0, partnerRole := 0,
    pairKey := 0, randoms := (0, 0), linkUp := false, halfPort := none, copying := false, leavingSeen := false,
    leaving := false, mgmtLost := false, rule := 0, nLink := 10, nMgmt := 3, lastLink := 0, lastMgmt := 0,
    lastKeep := 0, sentLink := 0, sentMgmt := 0, txSeq := 1, rxSeq := 0, acked := 0, retention := [], held := [],
    toApply := [], uncovered := [], covered := 0, coverLag := 0, newestEnd := 0, events := 0, owed := [],
    acksDue := [], reports := [], job := none, cables := [], shadow := none, copyStopped := false, partnerLeft := false }

/-- Waterbearer at power-on (Tables 13-13 to 13-17). -/
def Power.reset : Power :=
  { state := 0, clock := 8, fireBudget := 512, budgetWas := (0, 512), latchOpen := false, railsOn := false, dip := false,
    dipSince := 0, rampLimited := false, capped := false, smoothing := false, rungs := [], trigger := [],
    clearing := [], watts := 0, current := 0, volts := 0, bulk := 0, dipMin := 0, inlet := 0, outlet := 0, junction := 0,
    flow := 0, flowSince := none, hostCap := 0, hostUp := 0, hostDown := 0, rackCap := 0, rackUp := 0, rackDown := 0,
    allowance := 0, window := 0, events := 0, mated := false, released := false, overVoltage := false,
    slot := none, slotInvalid := false, slotRead := 0, breakout := none, leaving := none, tripped := false }

/-- Firmware before the boot ROM has run: no part. -/
def Firmware.reset : Firmware :=
  { versions := List.replicate 7 0, hashes := List.replicate 7 0, formats := List.replicate 7 0, lengths := List.replicate 7 0, running := 0,
    unverified := false, recovered := false, loaderPending := false, coreCommitted := 0, lastPart := 0,
    lastReason := 0, activations := 0, restarts := List.replicate 7 0, manifest := none, staged := [], frames := [],
    writing := none, restarting := [], recovery := 0, recoverySince := 0 }

/-- A module as shipped: no bale in flash, nothing retired. -/
def Persist.shipped : Persist :=
  { library := [], retiredArrays := [], remap := [], retiredFrames := [], retiredBanks := [], epoch := 0,
    norVersion := 0, standbyNor := [] }

/-- The fuses of a module as shipped: FIELD, CONSENT_GATED (Table 11-1, R305). -/
def Fuses.shipped : Fuses :=
  { rootKeyHash := 0, antiRollback := List.replicate 8 0, debugPolicy := 3, lifecycle := 3, identitySeed := 0 }

/-- The module right after a power-on reset, with what survives it. -/
def State.resetWith (p : Persist) (f : Fuses) : State :=
  { host := HostLink.reset, mls := Milestone.reset, cores := Cores.reset p,
    bays := { bay := [], staged := [], loads := [], lastWriter := [] }, ctxs := Contexts.reset p,
    reqs := Requests.reset, video := Video.reset, mem := MemSys.reset p, customs := Customs.reset,
    escort := Escort.reset p, power := Power.reset, fw := Firmware.reset, persist := p, fuses := f, stats := [],
    free := 2, out := [], pending := [] }

/-- The machine right after reset: a shipped module with its rails off (R62, R94, R142, R245, R258, R364, R393). -/
def State.reset : State := State.resetWith Persist.shipped Fuses.shipped

end Sys2Proof.Machine
end

