-- ==== Sys2Proof/Machine/Ops.lean ====
section
/-! DEFINITION. The named operations over tables, memory, counters, events, the error log, replies and the start of a
command. Every meaning of the families is built from these. -/

namespace Sys2Proof.Machine

/-! ## Tables -/

/-- The object of number `k`. -/
def Map.get? {α : Type} (m : Map α) (k : Nat) : Option α :=
  match m with
  | [] => none
  | (i, v) :: r => if i = k then some v else Map.get? r k

/-- The table with object `k` set to `v`, numbers kept rising. -/
def Map.set {α : Type} (m : Map α) (k : Nat) (v : α) : Map α :=
  match m with
  | [] => [(k, v)]
  | (i, w) :: r => if k < i then (k, v) :: (i, w) :: r else if i = k then (k, v) :: r else (i, w) :: Map.set r k v

/-- The table without object `k`. -/
def Map.erase {α : Type} (m : Map α) (k : Nat) : Map α := m.filter fun p => p.1 != k

/-- The table with `f` applied to object `k`, where there is one. -/
def Map.modify {α : Type} (m : Map α) (k : Nat) (f : α → α) : Map α :=
  m.map fun p => if p.1 = k then (p.1, f p.2) else p

/-- Whether object `k` is there. -/
def Map.has {α : Type} (m : Map α) (k : Nat) : Bool := (Map.get? m k).isSome

/-- The lowest number from `k` on that is not in the table, within `fuel`. -/
def Map.firstFree {α : Type} (m : Map α) (k fuel : Nat) : Nat :=
  match fuel with
  | 0 => k
  | n + 1 => if Map.has m k then Map.firstFree m (k + 1) n else k

/-! ## Numbers -/

/-- A counter of `w` bits that sticks at its maximum (R414). -/
def satAdd (w n x : Nat) : Nat := min (x + n) (2 ^ w - 1)

/-- Bit `i` of `x`. -/
def bitOf (x i : Nat) : Bool := (x >>> i) % 2 = 1

/-- `x` with bit `i` set. -/
def setBit (x i : Nat) : Nat := if bitOf x i then x else x + 2 ^ i

/-- `x` with bit `i` clear. -/
def clearBit (x i : Nat) : Nat := if bitOf x i then x - 2 ^ i else x

/-- `x` with every bit of `m` clear, bits below `w` (W1C registers). -/
def clearBits (w x m : Nat) : Nat := (List.range w).foldl (fun a i => if bitOf m i then clearBit a i else a) x

/-- Number of bits set below `w`. -/
def countBits (w x : Nat) : Nat := ((List.range w).filter fun i => bitOf x i).length

/-- A Bool as a bit. -/
def bit (b : Bool) : Nat := if b then 1 else 0

/-- `v` in [l, h]. -/
def within (v l h : Nat) : Bool := l ≤ v && v ≤ h

/-- A value with 0 selecting a default. -/
def orDefault (v d : Nat) : Nat := if v = 0 then d else v

/-- `v` clamped to [l, h]. -/
def clampNat (v l h : Nat) : Nat := max l (min h v)

/-- The two's complement of `v` in `w` bits. -/
def twos (w : Nat) (v : Int) : Nat := (v % (2 ^ w : Int)).toNat

/-- The value of a `w`-bit two's-complement field. -/
def signed (w v : Nat) : Int := if v < 2 ^ (w - 1) then (v : Int) else (v : Int) - (2 ^ w : Int)

/-- `v` clamped to [l, h]. -/
def clampInt (v l h : Int) : Int := max l (min h v)

/-- Little-endian value of a byte string (R9). -/
def leNat (bs : List Byte) : Nat := bs.foldr (fun b a => b.toNat + 256 * a) 0

/-- Big-endian value of a byte string (R9). -/
def beNat (bs : List Byte) : Nat := bs.foldl (fun a b => 256 * a + b.toNat) 0

/-- `n` little-endian bytes of a value. -/
def leBytes (n v : Nat) : List Byte :=
  match n with
  | 0 => []
  | k + 1 => BitVec.ofNat 8 v :: leBytes k (v / 256)

/-- Bytes `o` to `o + n - 1`. -/
def slice {α : Type} (o n : Nat) (bs : List α) : List α := (bs.drop o).take n

/-- A record of `len` bytes from its fields (offset in bytes, width in bits, value), little-endian, every other byte
0 (R9, R10). -/
def recordBytes (len : Nat) (fields : List (Nat × Nat × Nat)) : List Byte :=
  leBytes len (fields.foldl (fun a f => a + (f.2.2 % 2 ^ f.2.1) * 2 ^ (8 * f.1)) 0)

/-- a is newer than b as 32-bit serial numbers (R225). -/
def serialNewer (a b : Nat) : Bool := within ((a + 2 ^ 32 - b) % 2 ^ 32) 1 (2 ^ 31 - 1)

/-- CRC-32C, reflected, one byte (R281). -/
def crc32cByte (c : Nat) (b : Byte) : Nat :=
  (List.range 8).foldl (fun a _ => if a % 2 = 1 then Nat.xor (a / 2) 0x82F63B78 else a / 2) (Nat.xor c b.toNat)

/-- CRC-32C of a byte string (R281). -/
def crc32c (bs : List Byte) : Nat := Nat.xor (bs.foldl crc32cByte 0xFFFFFFFF) 0xFFFFFFFF

/-- CRC-8, polynomial 0x07, initial value 0, most significant bit first (Table 08-2). -/
def crc8 (bs : List Byte) : Nat :=
  bs.foldl (fun c b => (List.range 8).foldl
    (fun a _ => if a ≥ 128 then Nat.xor (a * 2 % 256) 7 else a * 2 % 256) (Nat.xor c b.toNat)) 0

/-! ## Memory of a class and unit (R246) -/

/-- A memory: addresses strictly rising, no entry equal to what an unlisted address reads as. -/
abbrev Memory := List Host.Cell

/-- What an address that is not listed reads as. Log 3. -/
def Memory.unlisted : Byte := 0

/-- The byte at an address. -/
def Memory.read (m : Memory) (a : Nat) : Byte :=
  match m with
  | [] => Memory.unlisted
  | (i, b) :: r => if i = a then b else Memory.read r a

/-- The memory with a byte written; writing the unlisted value removes the entry. -/
def Memory.write (m : Memory) (a : Nat) (b : Byte) : Memory :=
  match m with
  | [] => if b = Memory.unlisted then [] else [(a, b)]
  | (i, c) :: r =>
    if a < i then (if b = Memory.unlisted then (i, c) :: r else (a, b) :: (i, c) :: r)
    else if i = a then (if b = Memory.unlisted then r else (a, b) :: r)
    else (i, c) :: Memory.write r a b

/-- A byte string written from `a` on. -/
def Memory.writeBytes (m : Memory) (a : Nat) (bs : List Byte) : Memory :=
  match bs with
  | [] => m
  | b :: r => Memory.writeBytes (Memory.write m a b) (a + 1) r

/-- `n` bytes from `a` on. -/
def Memory.readBytes (m : Memory) (a n : Nat) : List Byte := (List.range n).map fun i => Memory.read m (a + i)

/-- Every address above `l`, strictly rising, and no entry at the unlisted value. -/
def Memory.wfFrom (l : Option Nat) (m : Memory) : Bool :=
  match m with
  | [] => true
  | (i, b) :: r => (match l with | none => true | some k => decide (k < i)) && b != Memory.unlisted &&
      Memory.wfFrom (some i) r

/-- The canonical form of a memory. -/
def Memory.wf (m : Memory) : Bool := Memory.wfFrom none m

/-- Data bytes of a codeword of a class (Table 09-1). -/
def codewordBytes (cls : Nat) : Nat := if cls = 0 then 32 else 8

/-- Bytes of a class address space (Table 09-1). -/
def classBytes (cls : Nat) : Nat :=
  match cls with
  | 0 => 576000000000
  | 1 => 1536000000000
  | 2 => 33554432
  | 3 => 16777216
  | 4 => 144834560
  | 5 => 58720256
  | _ => 0

/-- The unit under which a class's memory is held: cores for classes 2 to 4, else 0 (Table 09-1). -/
def classUnit (cls unit : Nat) : Nat := if within cls 2 4 then unit else 0

/-- The key of a class and unit in the memory table. -/
def memKey (cls unit : Nat) : Nat := 16 * cls + classUnit cls unit

/-- The memory of a class and unit. -/
def State.memory (s : State) (cls unit : Nat) : Memory := (Map.get? s.mem.mem (memKey cls unit)).getD []

/-! ## Statistics counters (R59, R414, R415) -/

/-- The number of a statistics counter: its record's selector and keys and the field's offset, as COUNTER_STUCK gives
them (R296). -/
def statKey (sel a b c d off : Nat) : Nat :=
  ((((sel % 65536 * 256 + a % 256) * 256 + b % 256) * 4294967296 + c % 4294967296) * 65536 + d % 65536) * 65536 +
    off % 65536

/-- A statistics counter; one never raised reads 0. -/
def State.stat (s : State) (key : Nat) : Nat := (Map.get? s.stats key).getD 0

/-! ## Output, MSI-X and events -/

/-- `o` leaves the module. -/
def State.emit (s : State) (o : Output) : State := { s with out := s.out ++ [o] }

/-- A function's state. -/
def State.fn (s : State) (fn : Nat) : FnState := (Map.get? s.host.fns fn).getD FnState.reset

/-- A function's state set. -/
def State.setFn (s : State) (fn : Nat) (f : FnState) : State :=
  { s with host := { s.host with fns := Map.set s.host.fns fn f } }

/-- Class code of every function (R271). -/
def classCode : Nat := 0x120000

/-- Device ID of a function (R271). -/
def deviceId (fn : Nat) : Nat := if fn = 0 then 0x9A01 else 0x9A02

/-- Subsystem ID of configuration 00 (R271). -/
def subsystemId : Nat := 0

/-- BAR0 of a function in bytes: 16 MiB, and 64 KiB of a virtual function (Table 10-1). -/
def barBytes (fn : Nat) : Nat := if fn = 0 then 2 ^ 24 else 2 ^ 16

/-- The options of the PCIe endpoint that it can be set to (Table 10-1): virtual functions, payload and read sizes, tag bits. -/
def totalVfs : Nat := 63
def maxPayloads : List Nat := [128, 256, 512]
def maxReadRequest : Nat := 4096
def tagBits : Nat := 10

/-- The number of MSI-X vectors of a function (Table 10-1). -/
def vectors (fn : Nat) : Nat := if fn = 0 then 64 else 4

/-- The number of ring pairs of a function (R276). -/
def ringPairs (fn : Nat) : Nat := if fn = 0 then 8 else 4

/-- Whether the module may write host memory for a function: link up, D0 with Bus Master Enable, and the host DMA engine
not fenced (R275, R257). -/
def State.canDma (s : State) (fn : Nat) : Bool :=
  s.host.linkUp && !(s.fn fn).d3hot && (s.fn fn).busMaster && (s.fn fn).present && !bitOf s.mem.fence 10

/-- Whether ring records, progress words and payloads of a tenant are written (R274, R275). -/
def State.canWriteTenant (s : State) (fn : Nat) : Bool := s.canDma fn && !(s.fn fn).awaitHello

/-- One event record on a function's queue (R295 to R297). -/
def State.event (s : State) (fn code object detail : Nat) : State :=
  let f := s.fn fn
  let cls := code / 256
  if !(cls = 0 || bitOf f.mask cls) then s
  else
    let size := 2 ^ f.evqLog2
    if !f.evqEnable || (f.evqTail + 1) % size = f.evqHead || !s.canDma fn then
      s.setFn fn { f with lost := satAdd 16 1 f.lost, pendingLost := f.pendingLost + 1 }
    else
      let empty := f.evqTail = f.evqHead
      let tail := (f.evqTail + 1) % size
      let s := s.setFn fn { f with evqTail := tail, evqPhase := if tail = 0 then !f.evqPhase else f.evqPhase }
      let s := s.emit (.event fn f.evqTail f.evqPhase code object detail s.mls.time)
      if empty then s.emit (.msix fn (f.evqVector % vectors fn)) else s

/-- The owner of a status record, who is told that a counter of it has stuck (R296). -/
def State.recordOwner (s : State) (sel a c d : Nat) : Nat :=
  match sel with
  | 0x0003 => ((Map.get? s.bays.bay a).map (·.owner)).getD 0
  | 0x000B => ((Map.get? s.bays.bay a).map (·.owner)).getD 0
  | 0x0004 => ((Map.get? s.ctxs.ctx c).map (·.tenant)).getD 0
  | 0x0005 => ((Map.get? s.video.streams c).map (·.tenant)).getD 0
  | 0x0008 => ((Map.get? s.reqs.routes d).map (·.tenant)).getD 0
  | 0x0009 => ((Map.get? s.mls.streams d).map (·.tenant)).getD 0
  | 0x000A => ((Map.get? s.video.sessions a).map (·.tenant)).getD 0
  | 0x0060 => a
  | _ => 0

/-- The greatest value of a 48-bit statistics counter (R414). -/
def statMax : Nat := 2 ^ 48 - 1

/-- A statistics counter raised by `n`: it sticks at its maximum and raises COUNTER_STUCK once (R59, R414). -/
def State.count (s : State) (sel a b c d off n : Nat) : State :=
  let key := statKey sel a b c d off
  let old := s.stat key
  let new := min (old + n) statMax
  let s := { s with stats := Map.set s.stats key new }
  if old < statMax && new = statMax then
    s.event (s.recordOwner sel a c d) 0x0002 sel
      (off + 2 ^ 16 * c + 2 ^ 48 * a + 2 ^ 56 * b + 2 ^ 64 * d)
  else s

/-- The greatest value of a prescaled counter: bits [63:16] at their maximum, bits [15:0] reading 0xFFFF (R59). -/
def prescaledMax : Nat := 2 ^ 64 - 1

/-- A prescaled counter raised by `n` (R59): when bits [63:16] reach their maximum it sticks, reads all ones and raises
one event. -/
def State.countPrescaled (s : State) (sel a b c d off n : Nat) : State :=
  let key := statKey sel a b c d off
  let old := s.stat key
  let sum := old + n
  let new := if sum / 65536 ≥ statMax then prescaledMax else sum
  let s := { s with stats := Map.set s.stats key new }
  if old ≠ prescaledMax && new = prescaledMax then
    s.event (s.recordOwner sel a c d) 0x0002 sel
      (off + 2 ^ 16 * c + 2 ^ 48 * a + 2 ^ 56 * b + 2 ^ 64 * d)
  else s

/-- The counters of one record cleared: DEFINE_ROUTE, OPEN_ENCODE and a seating clear theirs (R30, R209, R61). -/
def State.clearRecord (s : State) (sel a b c d : Nat) : State :=
  { s with stats := s.stats.filter fun p => p.1 / 65536 != statKey sel a b c d 0 / 65536 }

/-! ## The error log (R265) -/

/-- One entry appended: SEQUENCE rises and wraps to 1, the oldest of 1,024 is overwritten, and ECC_LOG_OVERFLOW counts
one that is newer than the read mark. -/
def State.logAdd (s : State) (kind cls unit tenant : Nat) (eventRaised : Bool) (detail : List Byte) : State :=
  let seq := if s.mem.logHead = 2 ^ 32 - 1 then 1 else s.mem.logHead + 1
  let e : LogEntry :=
    { seq := seq, kind := kind, cls := cls, unit := unit, eventRaised := eventRaised, time := s.mls.time, rep := 0,
      tenant := tenant, detail := detail }
  let full := s.mem.log.length ≥ 1024
  let lost := match s.mem.log with
    | old :: _ => full && (s.mem.readMark = 0 || serialNewer old.seq s.mem.readMark)
    | [] => false
  let ovf := if lost then min (s.mem.overflow + 1) statMax else s.mem.overflow
  let stuck := s.mem.overflow < statMax && ovf = statMax
  let s := { s with mem := { s.mem with
    log := (if full then s.mem.log.drop 1 else s.mem.log) ++ [e], logHead := seq, overflow := ovf } }
  if stuck then s.event 0 0x0002 0xFFFF (2 ^ 16 * 0x200048) else s

/-- An entry that repeats within 10 ms of the latest one of its kind, class and unit only raises REPEAT (R265, R79). -/
def State.logLimited (s : State) (kind cls unit tenant : Nat) (detail : List Byte) (same : LogEntry → Bool) : State :=
  match (s.mem.log.reverse.find? same) with
  | some e =>
    if s.mls.time < e.time + 10000000 then
      { s with mem := { s.mem with log := s.mem.log.map fun x =>
        if x.seq = e.seq then { x with rep := satAdd 16 1 x.rep } else x } }
    else s.logAdd kind cls unit tenant false detail
  | none => s.logAdd kind cls unit tenant false detail

/-! ## Status codes (Table 10-19) -/

namespace Status
def done : Nat := 0x0000
def accepted : Nat := 0x0001
def badOpcode : Nat := 0x0100
def badVersion : Nat := 0x0101
def badParam : Nat := 0x0102
def notPermitted : Nat := 0x0103
def noRequestSlot : Nat := 0x0200
def noPages : Nat := 0x0201
def noKeySlot : Nat := 0x0202
def noBaySpace : Nat := 0x0203
def ledgerFull : Nat := 0x0204
def late : Nat := 0x0300
def cancelled : Nat := 0x0301
def contextFull : Nat := 0x0302
def contextExpired : Nat := 0x0303
def poisoned : Nat := 0x0304
def expiredInHold : Nat := 0x0305
def fenced : Nat := 0x0306
def tenantRevoked : Nat := 0x0400
def handoverFailed : Nat := 0x0500
end Status

/-! ## Rings and replies (R277 to R284) -/

/-- A ring pair's number. -/
def ringNo (fn ring : Nat) : Nat := 8 * fn + ring

/-- A ring pair. -/
def State.ring (s : State) (fn ring : Nat) : RingPair := (Map.get? s.host.rings (ringNo fn ring)).getD RingPair.reset

/-- A ring pair set. -/
def State.setRing (s : State) (fn ring : Nat) (r : RingPair) : State :=
  { s with host := { s.host with rings := Map.set s.host.rings (ringNo fn ring) r } }

/-- The Drover is out of service: restarting (R300), or the module is activating firmware (R301). PAUSED reads this. -/
def State.droverDown (s : State) : Bool :=
  s.power.state = 2 || s.fw.restarting.any fun p => p.1 = 2

/-- A core's sequencer restarts (R401, Table 14-2). -/
def State.sequencerDown (s : State) (core : Nat) : Bool := s.fw.restarting.any fun p => p.1 = 6 && p.2.1 = core

/-- A reply written at the reply ring's TAIL (R278, R280). -/
def State.putReply (s : State) (fn ring : Nat) (r : Reply) : State :=
  let p := s.ring fn ring
  let size := 2 ^ p.rplLog2
  let tail := (p.rplTail + 1) % size
  let since := p.sinceMsg + 1
  let send := p.coalCount ≤ 1 || p.coalTime = 0 || since ≥ p.coalCount || (r.final && r.signal)
  let s := s.setRing fn ring { p with
    rplTail := tail, phase := if tail = 0 then !p.phase else p.phase,
    sinceMsg := if send then 0 else since,
    firstSince := if send then none else some (p.firstSince.getD s.mls.uptime) }
  let s := s.emit (.reply fn ring p.rplTail p.phase r s.mls.time)
  if send then s.emit (.msix fn (p.vector % vectors fn)) else s

/-- Whether the reply ring has room and its host memory can be written (R278). -/
def State.replyRoom (s : State) (fn ring : Nat) : Bool :=
  let p := s.ring fn ring
  (p.rplTail + 1) % 2 ^ p.rplLog2 ≠ p.rplHead && s.canDma fn && !s.droverDown

/-- A reply that falls due: written, kept waiting in due order, or discarded with its ring closed since (R278, R279). -/
def State.sendReply (s : State) (fn ring session : Nat) (r : Reply) : State :=
  let p := s.ring fn ring
  if !p.enable || p.session ≠ session then
    s.setRing fn ring { p with discarded := satAdd 16 1 p.discarded }
  else if p.waiting.isEmpty && s.replyRoom fn ring then s.putReply fn ring r
  else s.setRing fn ring { p with waiting := p.waiting ++ [r] }

/-- The host memory of a packet's payload, as (address, length) pieces: with SCATTER set the entries of its list, whose
concatenation the payload is (R282). -/
def payloadSpans (h : Hdr) : List (Nat × Nat) := h.scatter.getD [(h.payloadAddr, h.payloadLen)]

/-- Bytes of a payload. -/
def spanBytes (spans : List (Nat × Nat)) : Nat := spans.foldl (fun a p => a + p.2) 0

/-- Length of a packet's payload (R282). -/
def payloadBytes (h : Hdr) : Nat := spanBytes (payloadSpans h)

/-- A scatter list as R282 has it: at most 4,096 entries of 16 bytes, every address a multiple of 64, and every length but the last. -/
def scatterOk (h : Hdr) : Bool :=
  match h.scatter with
  | none => true
  | some l => decide (l.length ≤ 4096) && decide (h.payloadLen = 16 * l.length) && (l.all fun e => e.1 % 64 = 0) &&
      l.dropLast.all fun e => e.2 % 64 = 0

/-- Bytes from offset `off` of a payload on, as the host writes that they make. -/
def spanPieces (spans : List (Nat × Nat)) (off : Nat) (bytes : List Byte) : List (Nat × List Byte) :=
  match spans with
  | [] => []
  | (a, l) :: rest =>
    if bytes.isEmpty then []
    else if l ≤ off then spanPieces rest (off - l) bytes
    else (a + off, bytes.take (l - off)) :: spanPieces rest 0 (bytes.drop (l - off))

/-- Host writes of a function's tenant made. -/
def State.emitPayload (s : State) (fn : Nat) (ws : List (Nat × List Byte)) : State :=
  ws.foldl (fun s w => s.emit (.payload fn w.1 w.2)) s

/-- A write into a payload from an offset on: made, held while the function's writes are held so that it still comes before the reply
that reports it, or dropped after a reset of the function (R273 to R275, R282). -/
def State.writePayload (s : State) (fn : Nat) (spans : List (Nat × Nat)) (off : Nat) (bytes : List Byte) : State :=
  let f := s.fn fn
  let ws := spanPieces spans off bytes
  if s.canWriteTenant fn then s.emitPayload fn ws
  else if f.awaitHello || !f.present || !s.host.linkUp then s
  else s.setFn fn { f with heldWrites := f.heldWrites ++ ws }

/-- Held writes of a function made once its tenant's memory can be written again (R273, R275). -/
def State.flushHeld (s : State) (fn : Nat) : State :=
  if !s.canWriteTenant fn then s
  else
    (s.setFn fn { s.fn fn with heldWrites := [] }).emitPayload fn (s.fn fn).heldWrites

/-- Waiting replies written while there is room, after the writes that they report (R273). -/
def State.drainReplies (s : State) (fn ring fuel : Nat) : State :=
  match fuel with
  | 0 => s
  | n + 1 =>
    match (s.ring fn ring).waiting with
    | [] => s
    | r :: rest =>
      if s.replyRoom fn ring then
        (((s.flushHeld fn).setRing fn ring { s.ring fn ring with waiting := rest }).putReply fn ring r).drainReplies fn ring n
      else s

/-- One EVENT_LOST record with the count since the last one, once an entry of a function's queue is free (R297). -/
def State.flushLost (s : State) (fn : Nat) : State :=
  let f := s.fn fn
  if f.pendingLost = 0 || !f.evqEnable || (f.evqTail + 1) % 2 ^ f.evqLog2 = f.evqHead || !s.canDma fn then s
  else (s.setFn fn { f with pendingLost := 0 }).event fn 0x0001 0 f.pendingLost

/-- Held writes, waiting replies of every ring, and EVENT_LOST records, written while there is room: where a fence, a restart or a
link outage ends. -/
def State.drainAll (s : State) : State :=
  let s := (s.host.fns.filter fun p => !p.2.heldWrites.isEmpty).foldl (fun s p => s.flushHeld p.1) s
  let s := (s.host.fns.filter fun p => p.2.pendingLost ≠ 0).foldl (fun s p => s.flushLost p.1) s
  (s.host.rings.filter fun p => !p.2.waiting.isEmpty).foldl
    (fun s p => s.drainReplies (p.1 / 8) (p.1 % 8) p.2.waiting.length) s

/-- A tag's command is no longer outstanding. -/
def State.retireTag (s : State) (c : CmdRef) : State :=
  let p := s.ring c.fn c.ring
  if p.session = c.session then
    s.setRing c.fn c.ring { p with outstanding := p.outstanding.filter fun t => t.1 != c.tag }
  else s

/-- A tag's command has its ACCEPTED reply. -/
def State.markAccepted (s : State) (c : CmdRef) : State :=
  let p := s.ring c.fn c.ring
  if p.session = c.session then
    s.setRing c.fn c.ring { p with
      outstanding := p.outstanding.map fun t => if t.1 = c.tag then (t.1, true) else t }
  else s

/-- The final reply of a command (R283). A copied command has none (R345). -/
def State.reply (s : State) (c : CmdRef) (status result0 result1 : Nat) : State :=
  if c.copied then s
  else (s.retireTag c).sendReply c.fn c.ring c.session
    { tag := c.tag, status := status, opcode := c.opcode, final := true, crcFailed := false, dupTag := false,
      dmaError := false, result0 := result0, result1 := result1, signal := c.signal }

/-- The ACCEPTED reply of a command; a final reply follows (R283). -/
def State.accept (s : State) (c : CmdRef) (result0 result1 : Nat) : State :=
  if c.copied then s
  else (s.markAccepted c).sendReply c.fn c.ring c.session
    { tag := c.tag, status := Status.accepted, opcode := c.opcode, final := false, crcFailed := false,
      dupTag := false, dmaError := false, result0 := result0, result1 := result1, signal := c.signal }

/-! ## The start of a command (R284, R298 to R301) -/

/-- Opcodes of Table 10-20. -/
def opcodes : List Nat :=
  [0x0001, 0x0002, 0x0003, 0x0010, 0x0101, 0x0102, 0x0103, 0x0104, 0x0110, 0x0201, 0x0202, 0x0203, 0x0204, 0x0205,
   0x0206, 0x0207, 0x0210, 0x0211, 0x0301, 0x0302, 0x0303, 0x0310, 0x0311, 0x0401, 0x0402, 0x0403, 0x0404, 0x0405,
   0x0501, 0x0502, 0x0503, 0x0504, 0x0601, 0x0602, 0x0603, 0x0604, 0x0605, 0x0701, 0x0702, 0x0703, 0x0704, 0x0801,
   0x0802, 0x0803, 0x0901, 0x0902]

/-- Opcodes for the physical function only (Table 10-20). -/
def pfOnly (op : Nat) : Bool :=
  [0x0104, 0x0110, 0x0401, 0x0501, 0x0502, 0x0503, 0x0504, 0x0601, 0x0602, 0x0801, 0x0802, 0x0901,
   0x0902].contains op || op / 256 = 7

/-- Commands copied to the partner, by opcode (Table 12-5). -/
def copiedOpcode (op : Nat) : Bool :=
  op / 256 = 1 || op / 256 = 2 || op / 256 = 3 || op / 256 = 4 || op = 0x0601 || op = 0x0602 || op = 0x0702

/-- The failure of steps 4 to 9 of Table 10-17, with DUPLICATE_TAG, or none. -/
def headerCheck (op : Nat) (h : Hdr) (s : State) : Option (Nat × Bool) :=
  let p := s.ring h.fn h.ring
  let t := Map.get? s.customs.tenants h.fn
  let exempt := op = 0x0001 || op = 0x0002 || op = 0x0604
  if !(p.open_ || op = 0x0001) then some (Status.badVersion, false)
  else if h.tenant ≠ h.fn then some (Status.notPermitted, false)
  else if !exempt && t.isNone then some (Status.notPermitted, false)
  else if !exempt && (t.map (·.state)) = some 2 then some (Status.tenantRevoked, false)
  else if h.inlineLength ≠ 32 || !h.rsvdZero || h.priority > 7 || (h.payloadLen ≠ 0 && h.payloadAddr % 64 ≠ 0) then
    some (Status.badParam, false)
  else if p.outstanding.any fun t => t.1 = h.tag then some (Status.badParam, true)
  else if pfOnly op && h.fn ≠ 0 then some (Status.notPermitted, false)
  else none

/-- The refusals that the module's mode makes: recovery (R410), the leaving sequence and thermal hold (R388), and the
role of a partner (R343). -/
def modeRefuses (op : Nat) (h : Hdr) (s : State) : Bool :=
  (s.power.state = 3 && !(op = 0x0001 || op = 0x0801 || op = 0x0802 || op = 0x0803)) ||
  (s.power.leaving.isSome && within (op / 256) 1 4 && !(op = 0x0203 || op = 0x0405)) ||
  (!h.copied && copiedOpcode op && within s.escort.role 2 4)

/-- The command's reference. -/
def cmdRef (op : Nat) (h : Hdr) (s : State) : CmdRef :=
  { fn := h.fn, ring := h.ring, tag := h.tag, opcode := op, signal := h.signal,
    session := (s.ring h.fn h.ring).session, copied := h.copied, spans := payloadSpans h }

/-- The command enters the ring's outstanding commands. -/
def State.markStarted (s : State) (h : Hdr) : State :=
  let p := s.ring h.fn h.ring
  s.setRing h.fn h.ring { p with outstanding := p.outstanding ++ [(h.tag, false)] }

/-- BARRIER holds a command until every earlier command of its ring has written its first reply (R299). -/
def barrierHolds (h : Hdr) (s : State) : Bool :=
  h.barrier && ((s.ring h.fn h.ring).outstanding.any fun t => t.1 ≠ h.tag && !t.2)

/-- Whether the Drover and Customs act on a started command of a class (R300, R333). -/
def serves (op : Nat) (s : State) : Bool := !s.droverDown && !(s.customs.restarting && op / 256 = 6)

/-- Whether the host link fetches from a ring at all: the link is up, the function runs, the ring is enabled and no reply
waits; a recovering module has ring pair 0 of the physical function alone (R275, R277, R278, R410). -/
def State.fetches (s : State) (fn ring : Nat) : Bool :=
  let p := s.ring fn ring
  s.canDma fn && p.enable && !p.error && decide (fn < 64) && decide (ring < ringPairs fn) && !s.droverDown &&
    p.waiting.isEmpty && (s.power.state ≠ 3 || (fn = 0 && ring = 0))

/-- A command that starts on the host link, fetched and started together, with every check of Table 10-17 up to step 9
passed. -/
def startable (op : Nat) (h : Hdr) (s : State) : Bool :=
  !h.copied && serves op s && s.fetches h.fn h.ring && (s.ring h.fn h.ring).fetched.isEmpty &&
    (s.ring h.fn h.ring).unfetched.isEmpty && (headerCheck op h s).isNone && !barrierHolds h s && !modeRefuses op h s &&
    h.payloadOk && scatterOk h

/-- Step 10 of a started command: RSVD bytes of its parameters, the mode's refusals, a failed payload read, a scatter list that R282 does not
allow, then the opcode's own rules. -/
def State.runStarted (s : State) (op : Nat) (h : Hdr) (c : CmdRef) (k : CmdRef → State → State) : State :=
  if !h.rsvdZero then s.reply c Status.badParam 0 0
  else if modeRefuses op h s then s.reply c Status.notPermitted 0 0
  else if !h.payloadOk then
    (s.retireTag c).sendReply c.fn c.ring c.session
      { tag := c.tag, status := Status.badParam, opcode := op, final := true, crcFailed := false, dupTag := false,
        dmaError := true, result0 := 0, result1 := 0, signal := c.signal }
  else if !scatterOk h then s.reply c Status.badParam 0 0
  else k c s

/-- A host command: applied on a partner from its active's COMMAND record, taken up from the journal when a doorbell had it
fetched, or fetched and started together; `k` is what the opcode does. -/
def State.hostCmd (s : State) (op : Nat) (h : Hdr) (k : CmdRef → State → State) : State :=
  let c := cmdRef op h s
  if h.copied then
    match s.escort.toApply.find? fun a => a.1 = op && a.2.1 = h.tag with
    | some a =>
      let s := k c { s with
        escort := { s.escort with toApply := s.escort.toApply.erase a }, reqs := { s.reqs with slotHint := some a.2.2 } }
      { s with reqs := { s.reqs with slotHint := none } }
    | none => s
  else if !serves op s then s
  else
    match (s.ring h.fn h.ring).fetched with
    | (tag, o, session) :: rest =>
      if tag = h.tag && o = op then
        (s.setRing h.fn h.ring { s.ring h.fn h.ring with fetched := rest }).runStarted op h
          { c with session := session } k
      else s
    | [] =>
      if !s.fetches h.fn h.ring || !(s.ring h.fn h.ring).unfetched.isEmpty || barrierHolds h s then s
      else
        match headerCheck op h s with
        | some (status, dup) =>
          s.sendReply c.fn c.ring c.session
            { tag := h.tag, status := status, opcode := op, final := true, crcFailed := false, dupTag := dup,
              dmaError := false, result0 := 0, result1 := 0, signal := h.signal }
        | none => (s.markStarted h).runStarted op h c k

/-! ## Free values -/

/-- The next number of a free value, and the state with the counter advanced. -/
def State.draw (s : State) : Nat × State := (s.free, { s with free := s.free + 1 })

/-! ## Time -/

/-- Module time. -/
def State.now (s : State) : Nat := s.mls.time

/-- Nanoseconds since power-on. -/
def State.up (s : State) : Nat := s.mls.uptime

/-- One TB clock cycle with no command waiting: intervals run on by 4 ns, and so does module time while the rails are on
(R211, log 1). -/
def State.idle (s : State) : State :=
  { s with mls := { s.mls with time := if s.power.railsOn then s.mls.time + 4 else s.mls.time, uptime := s.mls.uptime + 4 } }

/-- Whether `ns` nanoseconds have passed since a moment of the interval clock. -/
def State.elapsed (s : State) (t ns : Nat) : Bool := decide (t + ns ≤ s.up)

/-! ## Bytes, big-endian -/

/-- `n` big-endian bytes of a value. -/
def beBytes (n v : Nat) : List Byte := (leBytes n v).reverse

end Sys2Proof.Machine
end

