-- ==== Sys2Proof/Machine/Operands.lean ====
section
/-! DEFINITION. Number formats of the cores, the score unit and the tracks: binary32 under R47, bfloat16, E4M3, E8M0
scales, MXINT8 groups, converter codes and column integers. -/

namespace Sys2Proof.Machine

/-! ## Exact values and rounding -/

/-- `m / 2^k` rounded to nearest, ties to even. -/
def rheShift (m k : Nat) : Nat :=
  if k = 0 then m
  else
    let q := m >>> k
    let r := m % 2 ^ k
    let h := 2 ^ (k - 1)
    if r < h || (r = h && q % 2 = 0) then q else q + 1

/-- `n / d` rounded to nearest, ties to even, for a positive `d`. -/
def rheDiv (n : Int) (d : Nat) : Int :=
  let q := n / (d : Int)
  let r := (n % (d : Int)).toNat
  if 2 * r < d || (2 * r = d && q % 2 = 0) then q else q + 1

/-- Number of significant bits. -/
def bitLength (m : Nat) : Nat := if m = 0 then 0 else Nat.log2 m + 1

/-- A number (−1)^neg · m · 2^e. -/
structure Dyadic where
  neg : Bool
  m : Nat
  e : Int
  deriving DecidableEq, Repr

/-- The signed mantissa brought to exponent `e`, at most that of the number. -/
def Dyadic.at (x : Dyadic) (e : Int) : Int :=
  let v : Int := (x.m * 2 ^ (x.e - e).toNat : Nat)
  if x.neg then -v else v

/-- A result with how often it saturated and was flushed (R47). -/
structure Fp where
  v : F32
  sat : Nat
  flu : Nat
  deriving DecidableEq, Repr

/-! ## Binary32 (R47) -/

/-- Sign bit. -/
def F32.neg (x : F32) : Bool := x.toNat ≥ 2 ^ 31

/-- Biased exponent. -/
def F32.exp (x : F32) : Nat := x.toNat / 2 ^ 23 % 256

/-- Fraction. -/
def F32.frac (x : F32) : Nat := x.toNat % 2 ^ 23

/-- NaN. -/
def F32.isNaN (x : F32) : Bool := F32.exp x = 255 && F32.frac x ≠ 0

/-- Infinity of either sign. -/
def F32.isInf (x : F32) : Bool := F32.exp x = 255 && F32.frac x = 0

/-- Zero once subnormal inputs are read as zero. -/
def F32.isZero (x : F32) : Bool := F32.exp x = 0

/-- A binary32 pattern from sign, biased exponent and fraction. -/
def F32.mk (neg : Bool) (e f : Nat) : F32 := BitVec.ofNat 32 ((if neg then 2 ^ 31 else 0) + e * 2 ^ 23 + f)

/-- +0. -/
def F32.zero : F32 := 0

/-- 1. -/
def F32.one : F32 := 0x3F800000

/-- A quiet NaN that the module forms; sign and payload are free (log 9). -/
def F32.qnan : F32 := 0x7FC00000 ||| (Config.nanBits &&& 0x803FFFFF)

/-- A NaN operand made quiet. -/
def F32.quiet (x : F32) : F32 := x ||| 0x00400000

/-- The exact value of a finite pattern, subnormals read as zero. -/
def F32.dyadic (x : F32) : Dyadic :=
  if F32.isZero x then { neg := F32.neg x, m := 0, e := 0 }
  else { neg := F32.neg x, m := 2 ^ 23 + F32.frac x, e := (F32.exp x : Int) - 150 }

/-- The exact value of a finite pattern. -/
def F32.rat (x : F32) : Rat :=
  let d := F32.dyadic x
  let v : Rat := if d.e ≥ 0 then (d.m * 2 ^ d.e.toNat : Nat) else (d.m : Rat) / (2 ^ (-d.e).toNat : Nat)
  if d.neg then -v else v

/-- Rounding to `p` significant bits with unbounded exponent, then saturation and flush (R47, R54): `p` is 24 for binary32
and 8 for bfloat16, whose patterns are the binary32 ones with zero low bits. -/
def roundTo (p : Nat) (x : Dyadic) : Fp :=
  if x.m = 0 then { v := F32.mk x.neg 0 0, sat := 0, flu := 0 }
  else
    let drop := bitLength x.m - p
    let m := rheShift x.m drop
    let (m, e) := if bitLength m > p then (m / 2, x.e + drop + 1) else (m, x.e + drop)
    let top := e + (bitLength m : Int) - 1
    if top > 127 then { v := F32.mk x.neg 254 (2 ^ 23 - 2 ^ (24 - p)), sat := 1, flu := 0 }
    else if top < -126 then { v := F32.mk x.neg 0 0, sat := 0, flu := 1 }
    else { v := F32.mk x.neg (top + 127).toNat (m * 2 ^ (24 - bitLength m) - 2 ^ 23), sat := 0, flu := 0 }

/-- Rounding to binary32. -/
def round32 (x : Dyadic) : Fp := roundTo 24 x

/-- A result that is neither saturated nor flushed. -/
def Fp.pure (v : F32) : Fp := { v := v, sat := 0, flu := 0 }

/-- The exact sum of two finite values; an exact zero of opposite signs is +0. -/
def Dyadic.add (x y : Dyadic) : Dyadic :=
  let e := min x.e y.e
  let v := x.at e + y.at e
  { neg := if v = 0 then x.neg && y.neg else decide (v < 0), m := v.natAbs, e := e }

/-- The exact product of two finite values. -/
def Dyadic.mul (x y : Dyadic) : Dyadic := { neg := x.neg != y.neg, m := x.m * y.m, e := x.e + y.e }

/-- Addition. Where both operands are NaN the result is the first one made quiet: the spec says only that NaN inputs propagate
(R47), DESIGN CHOICE log 104. -/
def F32.add (x y : F32) : Fp :=
  if F32.isNaN x then Fp.pure (F32.quiet x)
  else if F32.isNaN y then Fp.pure (F32.quiet y)
  else if F32.isInf x then (if F32.isInf y && F32.neg x != F32.neg y then Fp.pure F32.qnan else Fp.pure x)
  else if F32.isInf y then Fp.pure y
  else round32 ((F32.dyadic x).add (F32.dyadic y))

/-- The opposite. -/
def F32.opp (x : F32) : F32 := x ^^^ 0x80000000

/-- Subtraction. -/
def F32.sub (x y : F32) : Fp := F32.add x (if F32.isNaN y then y else F32.opp y)

/-- Multiplication; two NaN operands as in addition (log 104). -/
def F32.mul (x y : F32) : Fp :=
  if F32.isNaN x then Fp.pure (F32.quiet x)
  else if F32.isNaN y then Fp.pure (F32.quiet y)
  else if F32.isInf x || F32.isInf y then
    if F32.isZero x || F32.isZero y then Fp.pure F32.qnan
    else Fp.pure (F32.mk (F32.neg x != F32.neg y) 255 0)
  else round32 ((F32.dyadic x).mul (F32.dyadic y))

/-- The quotient of two finite non-zero values to 64 bits and a sticky bit. -/
def Dyadic.div (x y : Dyadic) : Dyadic :=
  let n := x.m * 2 ^ 64
  { neg := x.neg != y.neg, m := 2 * (n / y.m) + (if n % y.m = 0 then 0 else 1), e := x.e - y.e - 65 }

/-- Division. -/
def F32.div (x y : F32) : Fp :=
  if F32.isNaN x then Fp.pure (F32.quiet x)
  else if F32.isNaN y then Fp.pure (F32.quiet y)
  else
    let s := F32.neg x != F32.neg y
    if F32.isInf x then (if F32.isInf y then Fp.pure F32.qnan else Fp.pure (F32.mk s 255 0))
    else if F32.isInf y then Fp.pure (F32.mk s 0 0)
    else if F32.isZero y then (if F32.isZero x then Fp.pure F32.qnan else Fp.pure (F32.mk s 255 0))
    else if F32.isZero x then Fp.pure (F32.mk s 0 0)
    else round32 ((F32.dyadic x).div (F32.dyadic y))

/-- Order of two values that are not NaN. -/
def F32.lt (x y : F32) : Bool :=
  if F32.isNaN x || F32.isNaN y then false
  else
    let key : F32 → Int := fun z =>
      if F32.isZero z then 0
      else if F32.neg z then -((z.toNat - 2 ^ 31 : Nat) : Int) else (z.toNat : Int)
    key x < key y

/-- x ≤ y. -/
def F32.le (x y : F32) : Bool := !F32.isNaN x && !F32.isNaN y && !F32.lt y x

/-- Equality of values. -/
def F32.eq (x y : F32) : Bool := F32.le x y && F32.le y x

/-- The larger; a NaN propagates. -/
def F32.max (x y : F32) : F32 :=
  if F32.isNaN x then F32.quiet x else if F32.isNaN y then F32.quiet y else if F32.lt x y then y else x

/-- The smaller; a NaN propagates. -/
def F32.min (x y : F32) : F32 :=
  if F32.isNaN x then F32.quiet x else if F32.isNaN y then F32.quiet y else if F32.lt y x then y else x

/-- An integer as binary32, rounded to nearest even. -/
def F32.ofInt (i : Int) : F32 := (round32 { neg := i < 0, m := i.natAbs, e := 0 }).v

/-- A value times a power of two. -/
def Fp.scaleInt (i k : Int) : Fp := round32 { neg := i < 0, m := i.natAbs, e := k }

/-- A running sum with its counts of saturations and flushes. -/
def Fp.addTo (a : Fp) (x : F32) : Fp :=
  let r := F32.add a.v x
  { v := r.v, sat := a.sat + r.sat, flu := a.flu + r.flu }

/-- A running product with its counts. -/
def Fp.mulTo (a : Fp) (x : F32) : Fp :=
  let r := F32.mul a.v x
  { v := r.v, sat := a.sat + r.sat, flu := a.flu + r.flu }

/-- The truncation toward zero of a finite value. -/
def F32.trunc (x : F32) : Int :=
  let d := F32.dyadic x
  let v : Int := if d.e ≥ 0 then (d.m * 2 ^ d.e.toNat : Nat) else (d.m / 2 ^ (-d.e).toNat : Nat)
  if d.neg then -v else v

/-- The greatest integer not above a finite value. -/
def F32.floor (x : F32) : Int :=
  let d := F32.dyadic x
  let v : Int := if d.neg then -(d.m : Int) else d.m
  if d.e ≥ 0 then v * (2 ^ d.e.toNat : Nat) else v / (2 ^ (-d.e).toNat : Nat)

/-- A finite value rounded to the nearest integer, ties to even. -/
def F32.rint (x : F32) : Int :=
  let d := F32.dyadic x
  let v : Int := if d.neg then -(d.m : Int) else d.m
  if d.e ≥ 0 then v * (2 ^ d.e.toNat : Nat) else rheDiv v (2 ^ (-d.e).toNat)

/-! ## bfloat16 (R54) -/

/-- Requantisation to bfloat16; the result is the binary32 pattern with sixteen zero low bits. -/
def bfloat (x : F32) : Fp :=
  if F32.isNaN x then Fp.pure (F32.quiet x &&& 0xFFFF0000)
  else if F32.isInf x then Fp.pure x
  else roundTo 8 (F32.dyadic x)

/-! ## E4M3 (R107) -/

/-- The value of an E4M3 byte in units of 2^−9, or none for NaN. -/
def e4m3Value (b : Nat) : Option Int :=
  let e := b / 8 % 16
  let f := b % 8
  if e = 15 && f = 7 then none
  else
    let m : Int := if e = 0 then f else ((8 + f) * 2 ^ (e - 1) : Nat)
    some (if b ≥ 128 then -m else m)

/-- An E4M3 byte as binary32. -/
def e4m3Float (b : Nat) : F32 :=
  match e4m3Value b with
  | none => F32.qnan
  | some v => if v = 0 then F32.mk (decide (b ≥ 128)) 0 0 else (round32 { neg := v < 0, m := v.natAbs, e := -9 }).v

/-- The E4M3 byte nearest to an exact value, ties to even, and whether it fell beyond ±448 (R108, R109). -/
def e4m3Round (x : Dyadic) : Nat × Bool :=
  let s := if x.neg then 128 else 0
  let top := x.e + (bitLength x.m : Int) - 1
  if x.m = 0 then (s, false)
  else if top > 9 then (s + 126, true)
  else
    let q := max (top - 3) (-9)
    let n := if x.e ≥ q then x.m * 2 ^ (x.e - q).toNat else rheShift x.m (q - x.e).toNat
    let (n, q) := if n = 16 then (8, q + 1) else (n, q)
    if q > 5 || (q = 5 && n = 15) then (s + 126, true)
    else if n < 8 then (s + n, false)
    else (s + 8 * (q + 10).toNat + (n - 8), false)

/-- The E4M3 byte of x / σ and whether it saturated; NaN stays NaN (R108, R109). -/
def e4m3Quot (x sigma : F32) : Nat × Bool :=
  if F32.isNaN x || F32.isNaN sigma then (127, false)
  else if F32.isInf x then (if F32.isInf sigma then (127, false) else ((if F32.neg x != F32.neg sigma then 254 else 126), true))
  else if F32.isZero sigma then
    if F32.isZero x then (127, false) else ((if F32.neg x != F32.neg sigma then 254 else 126), true)
  else if F32.isZero x || F32.isInf sigma then ((if F32.neg x != F32.neg sigma then 128 else 0), false)
  else e4m3Round ((F32.dyadic x).div (F32.dyadic sigma))

/-! ## MXINT8 and the shell (R38 to R45) -/

/-- Largest of a list of scales. -/
def maxScale (l : List Nat) : Nat := l.foldl max 0

/-- Alignment of the eight blocks of an input group to one exponent: the aligned elements, e_max, and the elements flushed
(R39). -/
def alignGroup (g : InputGroup) : List Int × Nat × Nat :=
  let emax := maxScale g.scales
  let xs := (g.elems.zipIdx).map fun p => rheDiv p.1 (2 ^ (emax - (g.scales.getD (p.2 / 32) 0)))
  (xs, emax, ((g.elems.zip xs).filter fun p => p.1 != 0 && p.2 == 0).length)

/-- A NaN scale in a group (R40). -/
def groupNaN (g : InputGroup) : Bool := g.scales.any fun s => s = 255

/-- Digit k of an aligned activation, d3 signed (Table 02-5). -/
def digit (x : Int) (k : Nat) : Int :=
  let u := twos 8 x
  let d : Int := (u / 4 ^ k % 4 : Nat)
  if k = 3 && d ≥ 2 then d - 4 else d

/-- LSB2 of a range step (Table 02-7). -/
def lsb2 (step : Nat) : Nat := [2, 3, 4, 6, 8, 12, 16, 24].getD step 24

/-- The ideal converter code of a partial sum, with the converter's error added inside the full scale and an exact clamp
beyond it (R42, R43). `err` is the conversion's error in codes. -/
def convert (p : Int) (step : Nat) (err : Int) : Int :=
  let l := lsb2 step
  if 2 * p < -512 * (l : Int) then -512
  else if 2 * p > 511 * (l : Int) then 511
  else clampInt (rheDiv (2 * p) l + err) (-512) 511

/-- Whether a weight-column conversion counts as saturated (R43). -/
def isSaturated (step : Nat) (c : Int) : Bool := step < 7 && (c = -512 || c = 511)

/-- The column integer of four codes, most significant first (R44). -/
def columnInt (step : Nat) (c3 c2 c1 c0 : Int) : Int := (lsb2 step : Int) * (64 * c3 + 16 * c2 + 4 * c1 + c0)

/-- The pair integer of an MXINT8 column pair (R44). -/
def pairInt (yHigh yLow sumX : Int) : Int := 16 * yHigh + yLow + 16 * sumX

/-- A column integer scaled into binary32 (R45): `m` is 0 for SX4 and −6 for MXINT8. -/
def scaleColumn (y : Int) (scale emax : Nat) (m : Int) : Fp :=
  Fp.scaleInt y (((scale : Int) - 127) + ((emax : Int) - 127) - 6 - 1 + m)

/-- The value of a 4-bit cell (R34). -/
def cellValue (c : Nat) : Int := if c % 16 < 8 then (c % 16 : Nat) else ((c % 16 : Nat) : Int) - 16

/-- The checksum triple of a row sum: CKH, CKM and CKL as cells (R32). -/
def checksumTriple (r : Int) : Nat × Nat × Nat :=
  let u := twos 12 r
  (u / 256 % 16, Nat.xor (u / 16 % 16) 8, Nat.xor (u % 16) 8)

/-- The threshold of a checksum comparison (R73). -/
def checkThreshold (tol : Nat) : Nat := tol * 267386880 / 1000

/-- Requantisation of one block of 32 to MXINT8: scale and elements (R54). -/
def requantBlock (xs : List F32) : Nat × List Int :=
  if xs.any fun x => F32.isNaN x || F32.isInf x then (255, xs.map fun _ => 0)
  else
    let top := xs.foldl (fun a x => max a (F32.exp x)) 0
    if top = 0 then (0, xs.map fun _ => 0)
    else
      let e := min top 254
      (e, xs.map fun x =>
        let d := F32.dyadic x
        let k := d.e + 6 - ((e : Int) - 127)
        let v : Int := if k ≥ 0 then (d.m * 2 ^ k.toNat : Nat) else (rheShift d.m (-k).toNat : Nat)
        clampInt (if d.neg then -v else v) (-128) 127)

/-- The 264-byte group record of one input group: a shorter one is padded with zero elements and scales 0x00 (R38). -/
def groupRecord (elems : List Int) (scales : List Nat) : List Byte :=
  ((List.range 256).map fun i => BitVec.ofNat 8 (twos 8 (elems.getD i 0))) ++
    (List.range 8).map fun i => BitVec.ofNat 8 (scales.getD i 0)

/-- The input group that a group record holds (R38). -/
def groupOf (record : List Byte) : InputGroup :=
  { elems := (record.take 256).map BitVec.toInt, scales := (slice 256 8 record).map BitVec.toNat }

end Sys2Proof.Machine
end

