-- ==== Sys2Proof/Machine/Flags.lean ====
section
/-! DEFINITION. Event bits and status fields that many commands set: MLS_EVENTS, ESC_EVENTS, PWR_EVENTS, the pair's role
and health, and the gates and fences of the launch path. -/

namespace Sys2Proof.Machine

/-- Bits of `new` that `old` does not hold, below `w`. -/
def newBits (w old new : Nat) : Nat :=
  (List.range w).foldl (fun a i => if bitOf new i && !bitOf old i then setBit a i else a) 0

/-- MLS_EVENTS bits set; one MILESTONE record names those that changed from 0 to 1 (R245). -/
def State.mlsRaise (s : State) (bits : Nat) : State :=
  let new := newBits 9 s.mls.events bits
  if new = 0 then s
  else ({ s with mls := { s.mls with events := s.mls.events + new } } : State).event 0 0x0401 0 new

/-- ESC_EVENTS bits set (Table 12-14). -/
def State.escRaise (s : State) (bits : Nat) : State :=
  { s with escort := { s.escort with events := s.escort.events + newBits 6 s.escort.events bits } }

/-- PWR_EVENTS bits set (Table 13-17). -/
def State.pwrRaise (s : State) (bits : Nat) : State :=
  { s with power := { s.power with events := s.power.events + newBits 7 s.power.events bits } }

/-- Role and health of the pair set, with ESC_EVENTS and one PAIR_STATE record where either changes (R334, R335, R363). -/
def State.setPair (s : State) (role health reason : Nat) : State :=
  if s.escort.role = role && s.escort.health = health then s
  else
    let bits := (if s.escort.role = role then 0 else 1) + (if s.escort.health = health then 0 else 2)
    let s := { s with escort := { s.escort with role := role, health := health } }
    (s.escRaise bits).event 0 0x0701 0 (role + 256 * health + 65536 * reason)

/-- A marker that an unreachable partner is owed (R162, R330). -/
def isMarker (r : CopyRec) : Bool :=
  match r with
  | .cancel _ _ => true
  | .revoke _ => true
  | _ => false

/-- The command behind a swap or resync. -/
def PairJob.ref (j : PairJob) : CmdRef :=
  match j with
  | .swap c _ => c
  | .resync c _ _ => c
  | .window c _ => c

/-- The pair is ALONE: the copy stops, and what was not acknowledged counts as not covered. Markers are owed to the partner,
their commands reply with ESCORT_UNCONFIRMED, and a swap or resync in progress ends (R162, R335, R346). -/
def State.pairAlone (s : State) : State :=
  let e := s.escort
  let s : State := { s with escort := { e with
    copying := false, copyStopped := true, retention := [], uncovered := [], acksDue := [], job := none,
    owed := e.owed ++ (e.retention.map (·.2.2.2)).filter isMarker } }
  let s := e.acksDue.foldl (fun s a => s.reply a.1 Status.done (a.2.2.1 + 2 ^ 63) 0) s
  let s := match e.job with | some j => s.reply j.ref Status.notPermitted 0 0 | none => s
  s.setPair s.escort.role 3 0

/-! ## Job keys (R316, R317) -/

/-- A tenant's installed job: secret and generation (R315). -/
def State.job (s : State) (tenant : Nat) : Option (Nat × Nat) :=
  ((Map.get? s.customs.tenants tenant).map (·.job)).getD none

/-- The previous job while it is still accepted (R317). -/
def State.oldJob (s : State) (tenant : Nat) : Option (Nat × Nat) :=
  match ((Map.get? s.customs.tenants tenant).map (·.oldJob)).getD none with
  | some (j, g, till) => if s.up < till then some (j, g) else none
  | none => none

/-- The length in bytes of a job key, by its label (Table 11-5): 30 for the two SRTP uses, else 32. -/
def jobKeyBytes (label : Nat) : Nat := if label = 0x5352 || label = 0x5345 then 30 else 32

/-- "VN9A-JOB" followed by JOB_GEN, big-endian (R316). -/
def jobSalt (gen : Nat) : List Byte := beBytes 8 0x564E39412D4A4F42 ++ beBytes 2 gen

/-- A job key: HKDF from the job secret J and JOB_GEN, with info the label, the object number and TENANT (R316). -/
def jobKey (secret gen label object tenant : Nat) : Nat :=
  Config.hkdfExpand (Config.hkdfExtract (jobSalt gen) (beBytes 32 secret))
    (beBytes 2 label ++ beBytes 2 object ++ beBytes 1 tenant) (jobKeyBytes label)

/-- Labels of Table 11-5, as their two characters. -/
def labelAF : Nat := 0x4146
def labelTR : Nat := 0x5452
def labelSR : Nat := 0x5352
def labelSE : Nat := 0x5345
def labelES : Nat := 0x4553

/-! ## Cells sent to the partner (R339, R340, R346) -/

/-- A cell key: HKDF from the ES job key of a tenant, or from the pair key, with both session randoms as salt and "VN9A-CELL" as info
(R339); the salt takes position 0's random first, DEDUCED log 11. -/
def cellKey (key : Nat) (randoms : Nat × Nat) : Nat :=
  Config.hkdfExpand (Config.hkdfExtract (beBytes 32 randoms.1 ++ beBytes 32 randoms.2) (beBytes 32 key))
    (beBytes 9 0x564E39412D43454C4C) 32

/-- The 96-bit initial value of a send: SOURCE in bit 0 and ATTEMPT in bits [5:1] of its first byte, three zero bytes, CELL_SEQ (R339). -/
def sendIv (source attempt seq : Nat) : Nat := (source % 2 + 2 * attempt) * 2 ^ 88 + seq

/-- The tenant of a context or, with bit 32, of the request whose branch it names. -/
def State.nameTenant (s : State) (name : Nat) : Option Nat :=
  if name < 2 ^ 32 then (Map.get? s.ctxs.ctx name).map (·.tenant)
  else (Map.get? s.reqs.slot (name % 65536)).map (·.tenant)

/-- The tenant whose object a copy record carries; none of a record of the pair itself (R339). -/
def State.recTenant (s : State) (r : CopyRec) : Option Nat :=
  match r with
  | .kvAppend x => s.nameTenant x.name
  | .tokens id _ _ => s.nameTenant (2 ^ 32 + id)
  | .requestDelta d => s.nameTenant (2 ^ 32 + d.request)
  | .cancel id _ => s.nameTenant (2 ^ 32 + id)
  | .ledgerInsert e => some e.tenant
  | .ledgerRemove stream _ _ => (Map.get? s.mls.streams stream).map (·.tenant)
  | .revoke t => some t
  | .bulk (.bale _ t _ _) => some t
  | .bulk (.template _ t _) => some t
  | .bulk (.track _ t _) => some t
  | .bulk (.action _ t _ _) => some t
  | .bulk (.stream _ t _) => some t
  | .bulk (.session _ t _) => some t
  | .bulk (.context x) => some x.tenant
  | .bulk (.route _ t _) => some t
  | .bulk (.slot x) => some x.tenant
  | .bulk (.kv x) => s.nameTenant x.name
  | .bulk (.entry e) => some e.tenant
  | _ => none

/-- A poisoned codeword lies in the transmit retention where a cell is kept: 1,000,000,000 bytes of the escort copy buffers, the place
in them free (R346, Table 09-2; log 137). -/
def State.retainedPoisoned (s : State) (seq bytes : Nat) : Bool :=
  let a := 552000000000 + 15901934592 + Config.retentionPlace seq % 1000000000
  s.mem.poison.any fun p => p.1 = 0 && p.2 < a + bytes && a < p.2 + 32

/-- A cell as one send makes it, with its key and initial value (Table 12-3, R339, R346): a tenant with job keys has its records under its
ES key, every other record goes under the pair key (R318). -/
def State.cellOf (s : State) (seq attempt bytes : Nat) (r : CopyRec) : SentCell :=
  let e := s.escort
  let (key, gen, k) := match s.recTenant r with
    | some t =>
      (match s.job t with
      | some (secret, gen) => (t, gen, jobKey secret gen labelES 0 t)
      | none => (0xFF, 0, e.pairKey))
    | none => (0xFF, 0, e.pairKey)
  { source := e.position, poison := s.retainedPoisoned seq bytes, attempt := attempt, key := key, keyGen := gen, seq := seq,
    ack := e.rxSeq, cellKey := cellKey k e.randoms, iv := sendIv e.position attempt seq, record := r }

/-- A retained cell is sent. -/
def State.sendCell (s : State) (c : Nat × Nat × Nat × CopyRec) : State :=
  s.emit (.cell (s.cellOf c.1 c.2.1 c.2.2.1 c.2.2.2))

/-- Bytes the transmit retention holds. -/
def State.retained (s : State) : Nat := (s.escort.retention.map fun r => r.2.2.1).sum

/-- A record of the ordered stream to the partner, held in the transmit retention until it is acknowledged, and sent at once
while the link is up; a full retention stops the copy (R341, R346). -/
def State.sendRec (s : State) (r : CopyRec) (bytes : Nat) : State :=
  if !s.escort.copying || s.escort.role ≠ 1 then s
  else if s.retained + bytes > 1000000000 then s.pairAlone
  else
    let c := (s.escort.txSeq, 0, bytes, r)
    let s : State := { s with escort := { s.escort with retention := s.escort.retention ++ [c], txSeq := s.escort.txSeq + 1 } }
    if s.escort.linkUp then s.sendCell c else s

/-- The module writes the rings and replies of shared state: not on a partner (R345). -/
def State.writesRings (s : State) : Bool := !within s.escort.role 2 4

/-- The ID that the next request takes (R143, R144). -/
def Requests.nextId (r : Requests) : Nat :=
  let slot := if r.nextSlot < 16384 then r.nextSlot else r.freed.headD 0
  ((Map.get? r.reuse slot).getD 0) * 65536 + slot

/-- A host command that, once started, goes to the partner as a COMMAND record where Table 12-5 lists it, and then runs here
(R299, R343). -/
def State.cmd (s : State) (op : Nat) (h : Hdr) (k : CmdRef → State → State) : State :=
  s.hostCmd op h fun c s => k c (if copiedOpcode op then s.sendRec (.command op h.tag s.reqs.nextId) 64 else s)

/-- An event for the physical function and one tenant (R296, R332). -/
def State.event2 (s : State) (tenant code object detail : Nat) : State :=
  let s := s.event 0 code object detail
  if tenant = 0 then s else s.event tenant code object detail

/-! ## Record rings (R151) -/

/-- Where a record of `need` slots goes in a ring of `e` slots: slots skipped, first slot, and the new producer index, or
none when the ring is full. -/
def ringPlace (producer consumer e need : Nat) : Option (Nat × Nat × Nat) :=
  let skip := if producer + need > e then e - producer else 0
  let free := (consumer + e - producer - 1) % e
  if e = 0 || skip + need > free then none
  else
    let first := if skip > 0 then 0 else producer
    some (skip, first, (first + need) % e)

/-- The consumer index that a record ring of `e` slots holds in host memory, which host software writes: a free value below
`e` (R151; log 22). -/
def State.hostConsumer (s : State) (e : Nat) : Nat × State := (Config.freeNat s.free % e, { s with free := s.free + 1 })

/-- A record written into a ring in host memory, with its skip marker and then the producer index (R151, R273). -/
def State.writeRecord (s : State) (fn base producer : Nat) (place : Nat × Nat × Nat) (r : RingRec) : State :=
  let s := if place.1 > 0 then s.emit (.ringRecord fn base producer .skip) else s
  (s.emit (.ringRecord fn base place.2.1 r)).emit (.producer fn base place.2.2)

/-- A command that the partner must acknowledge replies once it has; with the link down it replies at once, with bit 63 of
RESULT0 set. On the partner a copied recall leaves its own count of launched entries for the ACK (R161, R162). -/
def State.replyAfterAck (s : State) (c : CmdRef) (r0 : Nat) (counted : Bool) : State :=
  if c.copied then
    { s with escort := { s.escort with
      reports := if counted then s.escort.reports ++ [r0 / 65536 % 65536] else s.escort.reports } }
  else if s.escort.role ≠ 1 then s.reply c Status.done r0 0
  else if s.escort.linkUp && s.escort.copying then
    { s with escort := { s.escort with acksDue := s.escort.acksDue ++ [(c, s.escort.txSeq - 1, r0, counted)] } }
  else s.reply c Status.done (r0 + 2 ^ 63) 0

/-! ## Gates and fences (R234 to R238) -/

/-- MLS_LINE_CTRL.FENCED reads all lines or none (R357, R370, R388). -/
def State.linesFenced (s : State) : Bool := s.mls.fenceBreakout || s.mls.fenceSelf || s.mls.fenceLeave

/-- The gate of an action stream is closed by HOLD_n or by its hold input (R236, R237, R238). -/
def State.gateClosed (s : State) (holdInput : Nat) : Bool := s.mls.hold || s.mls.closedInputs.contains holdInput

/-- Line `l` may be driven (R234). -/
def State.lineOpen (s : State) (l : Nat) : Bool := bitOf s.mls.lineEnable l && !s.linesFenced

/-- Line `l` is at its active level (R234). -/
def State.lineActive (s : State) (l : Nat) : Bool :=
  (s.mls.pulses.any fun p => p.lines.contains l) || s.mls.setLines.any fun p => p.1 = l

end Sys2Proof.Machine
end

