-- ==== Sys2Proof/Machine/Memory.lean ====
section
/-! DEFINITION. Memory classes, placement, data writes with their flip-masks, errors and poison, the error log, and the toll
arbiters (R246 to R266): shared operations, then the meanings of the toll, flip and log rows. -/

namespace Sys2Proof.Machine

/-! ## Placement (R122, R247) -/

/-- A page ID: TIER in bits [31:30], frame below. -/
def pageId (tier frame : Nat) : Nat := tier * 2 ^ 30 + frame

/-- Frames of a tier (R122, R248). -/
def tierFrames (tier : Nat) : Nat := if tier = 0 then 8422851 else if tier = 1 then 23437500 else 0

/-- Whether a page ID names a frame. -/
def pageOk (page : Nat) : Bool := page % 2 ^ 30 < tierFrames (page / 2 ^ 30)

/-- The page ID of a tier address. -/
def pageAt (tier addr : Nat) : Nat := pageId tier (addr / 65536)

/-- Channel group or package, and bank, of a granule (R247). -/
def granulePlace (tier g : Nat) : Nat × Nat :=
  if tier = 0 then (g % 24, g / 24 % 1024) else (g % 12, g / 12 % 32)

/-- The stack or package of an address, or the core of a core memory: the unit of errors and records (Table 09-1). -/
def errorUnit (cls unit addr : Nat) : Nat :=
  match cls with
  | 0 => (granulePlace 0 (addr / 4096)).1 / 2
  | 1 => (granulePlace 1 (addr / 4096)).1
  | _ => classUnit cls unit

/-- Granules of a tier that frames use. -/
def tierGranules (tier : Nat) : Nat := 16 * tierFrames tier

/-- The number of frames of a tier with a granule in a bank (R267). -/
def bankFrames (tier group bank : Nat) : Nat :=
  let groups := if tier = 0 then 24 else 12
  let banks := if tier = 0 then 1024 else 32
  let first := bank * groups + group
  if first < tierGranules tier then (tierGranules tier - first - 1) / (groups * banks) + 1 else 0

/-- Whether a frame holds a granule in a bank (R267). -/
def frameInBank (page tier group bank : Nat) : Bool :=
  page / 2 ^ 30 = tier && (List.range 16).any fun i => granulePlace tier (16 * (page % 2 ^ 30) + i) = (group, bank)

/-- Whether a frame lies in a retired bank. -/
def State.bankRetired (s : State) (page : Nat) : Bool := s.mem.banks.any fun b => frameInBank page b.1 b.2.1 b.2.2

/-- Whether a frame is retired (R267). -/
def State.frameRetired (s : State) (page : Nat) : Bool :=
  (match Map.get? s.ctxs.frames page with | some f => f.state = 5 | none => false) || s.bankRetired page

/-- The frames of a tier with a granule in a bank, in ascending order (R247, R267). -/
def framesOfBank (tier group bank : Nat) : List Nat :=
  let groups := if tier = 0 then 24 else 12
  let banks := if tier = 0 then 1024 else 32
  (List.range (bankFrames tier group bank)).map fun i =>
    pageId tier ((bank * groups + group + i * groups * banks) / 16)

/-- Frames of a bank that an earlier retired bank has retired already. -/
def State.retiredBefore (s : State) (tier group bank : Nat) : Nat :=
  let old := s.mem.banks.filter fun b => b.1 = tier
  if old.isEmpty then 0
  else ((framesOfBank tier group bank).filter fun p =>
    s.bankRetired p && !Map.has s.ctxs.frames p).length

/-- Granules of the firmware area that lie in an HBM bank, by their number from the area's start, below the reserve (Table
09-2). -/
def firmwareGranules (group bank : Nat) : List Nat :=
  (List.range 4395004).filter fun i => granulePlace 0 (134765625 + i) = (group, bank)

/-- The granules of the firmware area in retired HBM banks, each moved to a granule of the reserve that lies in no retired bank
(R267, R268, Table 09-2; log 111). -/
def relocations (banks : List (Nat × Nat × Nat)) : Map Nat :=
  let hbm := banks.filter fun b => b.1 = 0
  if hbm.isEmpty then []
  else
    let gone := hbm.flatMap fun b => firmwareGranules b.2.1 b.2.2
    let room := ((List.range 1464371).map fun i => 4395004 + i).filter fun i =>
      !hbm.any fun b => granulePlace 0 (134765625 + i) = (b.2.1, b.2.2)
    gone.zip room

/-- The tier address at which an address of the firmware area lies, in the reserve where its granule has been moved (R267). -/
def State.placed (s : State) (cls addr : Nat) : Nat :=
  if cls ≠ 0 || addr < 552000000000 then addr
  else
    let o := addr - 552000000000
    match Map.get? (relocations s.mem.banks) (o / 4096) with
    | some g => 552000000000 + 4096 * g + o % 4096
    | none => addr

/-- The unit of errors of an address, where its granule now lies. -/
def State.unitAt (s : State) (cls unit addr : Nat) : Nat := errorUnit cls unit (s.placed cls addr)

/-! ## Data writes, flip-masks and poison (R259 to R262) -/

/-- The codeword of an address. -/
def codewordAt (cls addr : Nat) : Nat := addr / codewordBytes cls * codewordBytes cls

/-- Codewords that a byte range touches. -/
def codewordsOf (cls addr len : Nat) : List Nat :=
  let n := codewordBytes cls
  if len = 0 then []
  else (List.range ((addr + len - 1) / n - addr / n + 1)).map fun i => codewordAt cls addr + i * n

/-- The flip mask as one number, over the codeword bits of a class (Table 09-14). -/
def State.flipMaskOf (s : State) (cls : Nat) : Nat :=
  let m := (s.mem.flipMask.zipIdx).foldl (fun a p => a + p.1 * 2 ^ (32 * p.2)) 0
  if cls = 0 then m % 2 ^ 288 else m % 2 ^ 72

/-- Symbols or bits of a mask that are set: what the class's code sees as wrong (R262). -/
def wrongCount (cls mask : Nat) : Nat :=
  if cls = 0 then ((List.range 36).filter fun i => mask / 2 ^ (8 * i) % 256 ≠ 0).length else countBits 72 mask

/-- A memory of a class and unit set. -/
def State.setMemory (s : State) (cls unit : Nat) (m : Memory) : State :=
  { s with mem := { s.mem with mem := Map.set s.mem.mem (memKey cls unit) m } }

/-- The data bits of a mask XORed into a codeword. -/
def State.xorWord (s : State) (cls unit cw mask : Nat) : State :=
  let n := codewordBytes cls
  let m := s.memory cls unit
  let bytes := ((m.readBytes cw n).zip (leBytes n mask)).map fun p => p.1 ^^^ p.2
  s.setMemory cls unit (m.writeBytes cw bytes)

/-! ## Page encryption (R312, R313; log 110) -/

/-- The AES-XTS key of a tier address: that of the key slot of the tenant that holds its frame, or the module storage key in the
firmware area; none where no tenant holds the frame (R312, R313). -/
def State.pageKeyAt (s : State) (tier addr : Nat) : Option Nat :=
  if tier > 1 then none
  else if tier = 0 && addr ≥ 552000000000 then some s.customs.storageKey
  else
    match Map.get? s.ctxs.frames (pageAt tier addr) with
    | some f =>
      if f.state = 5 then none
      else (Map.get? s.customs.tenants f.tenant).bind fun t => (Map.get? s.customs.slots t.slot).map (·.pageKey)
    | none => none

/-- The tweak of the 64-byte data unit of a tier address: the address divided by 64, TIER in bits [127:126] (R312). -/
def pageTweak (tier addr : Nat) : Nat := addr / 64 + tier * 2 ^ 126

/-- What the memory chips hold at a data unit of a tier: the ciphertext of its 64 bytes, where its frame is held (R312). -/
def State.atRest (s : State) (tier addr : Nat) : List Byte :=
  let u := addr / 64 * 64
  let plain := (s.memory tier 0).readBytes u 64
  match s.pageKeyAt tier u with
  | some k => Config.xtsEncrypt k (pageTweak tier u) plain
  | none => plain

/-- Ciphertext bits of a codeword changed unseen: its data unit then decrypts to something else (R312). -/
def State.xorCipher (s : State) (cls cw mask : Nat) (key : Nat) : State :=
  let u := cw / 64 * 64
  let bits := List.replicate (cw - u) (0 : Byte) ++ leBytes (codewordBytes cls) mask
  let cipher := (s.atRest cls u).zipIdx.map fun p => p.1 ^^^ bits.getD p.2 0
  s.setMemory cls 0 ((s.memory cls 0).writeBytes u ((Config.xtsDecrypt key (pageTweak cls u) cipher).take 64))

/-- The memory of a codeword is encrypted: what a flip changes there is ciphertext, which a read sees corrected, poisoned or
garbled, never as flipped plaintext bits (R312). -/
def State.encrypted (s : State) (cls cw : Nat) : Bool := (s.pageKeyAt cls cw).isSome

/-- A mask XORed into what a codeword's memory holds. -/
def State.xorStored (s : State) (cls unit cw mask : Nat) : State :=
  match s.pageKeyAt cls cw with
  | some k => s.xorCipher cls cw mask k
  | none => s.xorWord cls unit cw mask

/-- A tenant's consent flag (R326). -/
def State.consents (s : State) (tenant flag : Nat) : Bool :=
  match Map.get? s.customs.tenants tenant with | some t => bitOf t.consent flag | none => false

/-- An armed mask is refused (R262). -/
def State.refuseFlip (s : State) : State := { s with mem := { s.mem with flipArm := false, flipRefused := true } }

/-- The owner of the data that an address of the core's stores or cells holds: that of the bays seated on the core's slice, of
the array's index in the weight storage, where they have one owner; else 255 (R314, Table 09-17). -/
def State.coreOwner (s : State) (cls core addr : Nat) : Nat :=
  match (Map.get? s.cores.core core).bind (·.slice) with
  | none => 255
  | some slice =>
    let array := addr / 34816
    let at_ := fun i : Nat =>
      (Map.get? s.cores.remap (4096 * core + 128 * (array / 130) + i)).getD i = array % 130
    let mine := (s.bays.bay.filter fun p => p.2.seated.isSome && bitOf p.2.sliceMask slice &&
      (cls ≠ 4 || (List.range p.2.share).any fun i => at_ (p.2.start + i))).map (·.2.owner)
    match mine with
    | o :: rest => if rest.all fun x => x = o then o else 255
    | [] => 255

/-- Bytes of a ledger entry: its record and its body (Table 08-8). -/
def ledgerBytes : Nat := 328

/-- The class addresses of a ledger entry's two copies; the spec gives the ledger no place in class 5, so they are free (R261;
log 132). -/
def ledgerCopies (stream sequence : Nat) : List Nat :=
  [0, 1].map fun c => 8 * (Config.ledgerPlace stream sequence c % 7340032)

/-- The owner of the data at a class address, or 255 (Table 09-17). -/
def State.dataOwner (s : State) (cls unit addr : Nat) : Nat :=
  if cls ≤ 1 then ((Map.get? s.ctxs.frames (pageAt cls addr)).map (·.tenant)).getD 255
  else if cls ≤ 4 then s.coreOwner cls unit addr
  else
    ((s.mls.ledger.find? fun e => (ledgerCopies e.stream e.sequence).any fun a =>
      a ≤ addr && addr < a + ledgerBytes).map (·.tenant)).getD 255

/-- The armed mask applied to a codeword of a tenant's data just written (R262). -/
def State.applyFlip (s : State) (cls unit cw tenant : Nat) : State :=
  let mask := s.flipMaskOf cls
  let s := if s.encrypted cls cw then s else s.xorWord cls unit cw mask
  let key := memKey cls unit
  let rest := s.mem.flipped.filter fun f => !(f.1 = key && f.2.1 = cw)
  let s := { s with mem := { s.mem with
    flipArm := false, flipApplied := true, flipped := if mask = 0 then rest else rest ++ [(key, cw, mask)] } }
  s.logAdd 0x0A cls (errorUnit cls unit cw) tenant false (leBytes 8 cw ++ leBytes 1 unit)

/-- The armed flip-mask meets a data write: applied, refused for want of consent, or left waiting (R262). -/
def State.flipMeets (s : State) (cls unit addr len tenant : Nat) : State :=
  let target := codewordAt cls s.mem.flipAddr
  let hit := if s.mem.flipAny then true else (codewordsOf cls addr len).contains target
  if !s.mem.flipArm || s.mem.flipClass ≠ cls || (within cls 2 4 && s.mem.flipUnit ≠ unit) || !hit || len = 0 then s
  else if tenant = 0 || s.consents tenant 0 then
    s.applyFlip cls unit (if s.mem.flipAny then codewordAt cls addr else target) tenant
  else if s.mem.flipAny then s
  else s.refuseFlip

/-- Poison and flips of the codewords that a data write replaces whole cleared, and the flip-mask met (R260, R262). -/
def State.newWords (s : State) (cls unit addr len tenant : Nat) : State :=
  let key := memKey cls unit
  let n := codewordBytes cls
  let whole := fun cw : Nat => addr ≤ cw && cw + n ≤ addr + len
  let s := { s with mem := { s.mem with
    poison := s.mem.poison.filter fun p => !(p.1 = key && whole p.2),
    flipped := s.mem.flipped.filter fun f => !(f.1 = key && whole f.2.1) } }
  s.flipMeets cls unit addr len tenant

/-- A data write: bytes stored, and its codewords new (R260, R262). -/
def State.memWrite (s : State) (cls unit addr : Nat) (bytes : List Byte) (tenant : Nat) : State :=
  (s.setMemory cls unit ((s.memory cls unit).writeBytes addr bytes)).newWords cls unit addr bytes.length tenant

/-- Whether a range holds poison. -/
def State.isPoisoned (s : State) (cls unit addr len : Nat) : Bool :=
  s.mem.poison.any fun p => p.1 = memKey cls unit && p.2 + codewordBytes cls > addr && p.2 < addr + len

/-- The position of the lowest wrong bit, or in HBM symbol, of a mask (Table 09-18). -/
def wrongPlace (cls mask : Nat) : Nat :=
  if cls = 0 then ((List.range 36).find? fun i => mask / 2 ^ (8 * i) % 256 ≠ 0).getD 0
  else ((List.range 72).find? fun i => bitOf mask i).getD 0

/-- A correctable error found by a read at a bit or symbol: counted, and logged at most once per class and unit in 10 ms (R259,
R265). -/
def State.foundCorrectable (s : State) (cls unit addr syndrome place : Nat) : State :=
  let u := s.unitAt cls unit addr
  let s := s.count 0x0007 cls u 0 0 8 1
  s.logLimited 0x01 cls u (s.dataOwner cls unit addr) (leBytes 8 addr ++ leBytes 8 syndrome ++ leBytes 2 place)
    fun e => e.kind = 1 && e.cls = cls && e.unit = u

/-- An uncorrectable error found by a read: logged, with one event to the physical function and the owner (R260). -/
def State.foundUncorrectable (s : State) (cls unit addr syndrome : Nat) (scrub : Bool) : State :=
  let u := s.unitAt cls unit addr
  let owner := s.dataOwner cls unit addr
  let s := s.count 0x0007 cls u 0 0 16 1
  let s := s.logAdd 0x02 cls u owner true (leBytes 8 addr ++ leBytes 8 syndrome ++ leBytes 1 (bit scrub))
  s.event2 (if owner = 255 then 0 else owner) 0x0501 cls (s.mem.logHead + 2 ^ 32 * u)

/-- Whether an address lies in a region of the firmware area that is held twice (R248, Table 09-2). -/
def duplicatedRegion (cls addr : Nat) : Bool :=
  cls = 0 && addr ≥ 552000000000 &&
    (let o := addr - 552000000000; o < 7312000000 || within o 17901934592 18001934591)

/-- The codeword written back with the poison pattern of its class (R260); one held twice is never poisoned, for it is rewritten
from its other copy (R248). -/
def State.poisonWord (s : State) (cls unit addr : Nat) : State :=
  let p := (memKey cls unit, codewordAt cls addr)
  if duplicatedRegion cls addr || s.mem.poison.contains p then s
  else { s with mem := { s.mem with poison := s.mem.poison ++ [p] } }

/-- A flip passes the code unseen: in encrypted memory its data unit decrypts to something else, and the flip is spent; elsewhere the
flipped bits are what the read returns (R262, R312). -/
def State.passUnseen (s : State) (cls unit cw mask : Nat) : State :=
  match s.pageKeyAt cls cw with
  | none => s
  | some k =>
    let s := s.xorCipher cls cw mask k
    let spent := fun f : Nat × Nat × Nat => if f.1 = memKey cls unit ∧ f.2.1 = cw then (f.1, f.2.1, 0) else f
    { s with mem := { s.mem with flipped := s.mem.flipped.map spent } }

/-- A read of a codeword that a flip has changed (R259, R260, R262): one wrong symbol or bit is corrected and written back,
two are uncorrectable; more pass unseen or are corrected wrongly, which is free (log 31). -/
def State.readFlipped (s : State) (cls unit cw mask : Nat) (scrub : Bool) : State :=
  let key := memKey cls unit
  let gone := fun s : State => { s with mem := { s.mem with
    flipped := s.mem.flipped.filter fun f => !(f.1 = key && f.2.1 = cw) } }
  let (n, s) := s.draw
  let syndrome := Config.freeNat n % 2 ^ 64
  let cured := fun s : State => if s.encrypted cls cw then gone s else (gone s).xorWord cls unit cw mask
  match wrongCount cls mask with
  | 0 => s
  | 1 => (cured s).foundCorrectable cls unit cw syndrome (wrongPlace cls mask)
  | 2 =>
    let t := if duplicatedRegion cls cw then cured s else gone s
    (t.foundUncorrectable cls unit cw syndrome scrub).poisonWord cls unit cw
  | _ =>
    if Config.freeBool n then s.passUnseen cls unit cw mask
    else
      let (m, s) := s.draw
      let wrong := if s.encrypted cls cw then Nat.xor mask (Config.freeNat m) else Config.freeNat m
      ((gone s).xorStored cls unit cw wrong).foundCorrectable cls unit cw syndrome (Config.freeNat m % 72)

/-- A read of a byte range: every flipped codeword in it is met (R259, R260). -/
def State.readRange (s : State) (cls unit addr len : Nat) (scrub : Bool) : State :=
  let hit := s.mem.flipped.filter fun f =>
    f.1 = memKey cls unit && f.2.1 + codewordBytes cls > addr && f.2.1 < addr + len
  hit.foldl (fun s f => s.readFlipped cls unit f.2.1 f.2.2 scrub) s

/-- One consumption of poisoned data (R261). -/
def State.poisonConsumed (s : State) (cls unit addr request context row tenant : Nat) : State :=
  let u := s.unitAt cls unit addr
  (s.count 0x0007 cls u 0 0 24 1).logAdd 0x03 cls u tenant false
    (leBytes 8 addr ++ leBytes 4 request ++ leBytes 4 context ++ leBytes 1 row)

/-- Both copies of a ledger entry written in class 5 (R261, R262). -/
def State.writeCopies (s : State) (e : LedgerEntry) : State :=
  (ledgerCopies e.stream e.sequence).foldl (fun s a => s.newWords 5 0 a ledgerBytes e.tenant) s

/-- Poison of the codewords of a range taken away, as a repair from another copy does. -/
def State.repairRange (s : State) (cls unit addr len : Nat) : State :=
  { s with mem := { s.mem with poison := s.mem.poison.filter fun p =>
    !(p.1 = memKey cls unit && p.2 + codewordBytes cls > addr && p.2 < addr + len) } }

/-- Both copies of a ledger entry read: a poisoned one is repaired from the other, and an entry whose copies both fail is lost (Table
09-11). -/
def State.readCopies (s : State) (e : LedgerEntry) : State × Bool :=
  let at_ := ledgerCopies e.stream e.sequence
  let s := at_.foldl (fun s a => s.readRange 5 0 a ledgerBytes false) s
  let bad := at_.filter fun a => s.isPoisoned 5 0 a ledgerBytes
  let s := bad.foldl (fun s a => s.poisonConsumed 5 0 a e.request 0xFFFFFFFF 7 e.tenant) s
  if bad.length = at_.length then (s, true)
  else (bad.foldl (fun s a => s.repairRange 5 0 a ledgerBytes) s, false)

/-! ## Toll arbiters (R252 to R256) -/

/-- A toll. -/
def State.toll (s : State) (t : Nat) : Toll := (Map.get? s.mem.tolls t).getD Toll.reset

/-- A toll set. -/
def State.setToll (s : State) (t : Nat) (x : Toll) : State :=
  { s with mem := { s.mem with tolls := Map.set s.mem.tolls t x } }

/-- Priority of requester `r`; the escort engine's is 15 during a dip (R375). -/
def Toll.prio (t : Toll) (boost : Bool) (r : Nat) : Nat :=
  if boost && r = 11 then 15
  else if r < 8 then t.prioA.toNat / 16 ^ r % 16 else t.prioB.toNat / 16 ^ (r - 8) % 16

/-- WAIT_LIMIT of requester `r` (Table 09-7). -/
def Toll.waitLimit (t : Toll) (r : Nat) : Nat := ((t.limits.getD r 0).toNat / 65536) % 4096

/-- The winner among the requesting, unfenced requesters (R253). -/
def tollWinner (t : Toll) (boost : Bool) (requests fence : Nat) : Option Nat :=
  let cand := (List.range 14).filter fun r => bitOf requests r && !bitOf fence r
  let due := cand.filter fun r => t.waitLimit r > 0 && t.wait.getD r 0 ≥ t.waitLimit r
  let cand := if due.isEmpty then cand else due
  let top := (cand.map (t.prio boost)).foldl max 0
  let best := cand.filter fun r => t.prio boost r = top
  ((List.range 14).map fun i => (t.ptr + i) % 14).find? best.contains

/-- Wait counters after a decision: the winner's and those of requesters that dropped their request cleared, the others one
higher, at most 4,095 (R253). -/
def tollWaits (t : Toll) (requests win : Nat) : List Nat :=
  (List.range 14).map fun r => if r = win || !bitOf requests r then 0 else min (t.wait.getD r 0 + 1) 4095

/-- The burst limit of requester `r` in beats (Table 09-7). -/
def Toll.burst (t : Toll) (r : Nat) : Nat := (t.limits.getD r 0).toNat % 4096 + 1

/-- A toll decides and its grant runs for `beats` beats in `cycles` cycles: it ends with the owner's last beat or with the last
beat of its burst limit, which no grant passes, unless it reaches TOL_WATCHDOG (R253 to R256). -/
def execTollDecision (toll requests beats cycles : Nat) (s : State) : Host.Outcome State Fault Refusal :=
  let t := s.toll toll
  if toll > 25 || t.owner.isSome || (beats = 0 && cycles = 0) then .next s
  else
    match tollWinner t s.mem.escortBoost requests s.mem.fence with
    | none =>
      .next (s.setToll toll { t with
        requests := requests % 2 ^ 14,
        wait := (List.range 14).map fun r => if bitOf requests r then t.wait.getD r 0 else 0 })
    | some w =>
      if beats > t.burst w then .next s
      else .next (s.setToll toll { t with
        requests := requests % 2 ^ 14, wait := tollWaits t requests w, ptr := (w + 1) % 14,
        owner := if cycles ≥ t.watchdog then some w else none })

/-- A toll's register written; reserved bits stay 0 (Tables 09-5 to 09-8). -/
def Toll.write (t : Toll) (offset : Nat) (value : W32) : Toll :=
  if offset = 0 then { t with prioA := value }
  else if offset = 4 then { t with prioB := value &&& 0x00FFFFFF }
  else if offset = 0x48 then { t with watchdog := max value.toNat 8192 }
  else if within offset 0x10 0x44 && offset % 4 = 0 then
    { t with limits := t.limits.set ((offset - 0x10) / 4) (value &&& 0x0FFF0FFF) }
  else t

/-- A write of a toll priority or limit register, in force at the toll's next decision; a grant in force is not revoked
(R254). -/
def execTollPriorityWrite (toll offset : Nat) (value : W32) (s : State) : Host.Outcome State Fault Refusal :=
  if toll > 25 || offset = 0x48 then .next s else .next (s.setToll toll ((s.toll toll).write offset value))

/-- Fence bits cleared: the requesters compete again from wait 0 (R256). -/
def State.clearTollFence (s : State) (mask : Nat) : State :=
  let freed := (List.range 14).filter fun r => bitOf s.mem.fence r && bitOf mask r
  let calm := fun t : Toll => { t with wait := t.wait.zipIdx.map fun p => if freed.contains p.2 then 0 else p.1 }
  { s with mem := { s.mem with fence := clearBits 14 s.mem.fence mask,
                               tolls := s.mem.tolls.map fun p => (p.1, calm p.2) } }

/-- A write of 1 to TOL_FENCE; replies that a fence of the host DMA engine held are written (R256, R257). -/
def execTollFenceClear (mask : Nat) (s : State) : Host.Outcome State Fault Refusal :=
  .next (s.clearTollFence mask).drainAll

/-! ## Flip-mask and log rows -/

/-- ARM written 1: a target in data of a tenant other than 0 without DEBUG consent is refused, else the mask waits
(R262). -/
def State.armFlip (s : State) : State :=
  let owner := s.dataOwner s.mem.flipClass s.mem.flipUnit s.mem.flipAddr
  if !s.mem.flipAny && owner ≠ 255 && owner ≠ 0 && !s.consents owner 0 then s.refuseFlip
  else { s with mem := { s.mem with flipArm := true } }

/-- ARM of ECC_FLIP_CTRL (R262). -/
def execFlipArm (s : State) : Host.Outcome State Fault Refusal := .next s.armFlip

/-- A log entry's 64 bytes (Table 09-17). -/
def LogEntry.bytes (e : LogEntry) : List Byte :=
  leBytes 4 e.seq ++ leBytes 1 e.kind ++ leBytes 1 e.cls ++ leBytes 1 e.unit ++ leBytes 1 (bit e.eventRaised) ++
    leBytes 8 e.time ++ leBytes 2 e.rep ++ leBytes 1 e.tenant ++ leBytes 5 0 ++
    slice 0 40 (e.detail ++ List.replicate 40 0)

/-- Entries from a sequence on, oldest first (R266). -/
def logFrom (log : List LogEntry) (from_ : Nat) : List LogEntry :=
  if from_ = 0 then log else log.filter fun e => e.seq = from_ || serialNewer e.seq from_

/-- READ_ERROR_LOG once started (R266). -/
def readErrorLogRun (h : Hdr) (from_ count : Nat) (c : CmdRef) (s : State) : State :=
  let es := (logFrom s.mem.log from_).take count
  if !within count 1 1024 || payloadBytes h < 64 * es.length then s.reply c Status.badParam 0 0
  else
    let lost := match s.mem.log with
      | e :: _ => from_ ≠ 0 && serialNewer e.seq from_
      | [] => false
    let s := s.writePayload c.fn c.spans 0 (es.flatMap LogEntry.bytes)
    match es.getLast? with
    | some e =>
      let mark := if s.mem.readMark = 0 || serialNewer e.seq s.mem.readMark then e.seq else s.mem.readMark
      ({ s with mem := { s.mem with readMark := mark } } : State).reply c Status.done
        (es.length + if lost then 2 ^ 63 else 0) (nextLog e.seq)
    | none =>
      let (n, s) := s.draw
      s.reply c Status.done 0 (Config.freeNat n % 2 ^ 32)
where
  /-- The SEQUENCE after one of the log (R265). -/
  nextLog (q : Nat) : Nat := if q = 2 ^ 32 - 1 then 1 else q + 1

/-- READ_ERROR_LOG (R266). -/
def execReadErrorLog (h : Hdr) (from_ count : Nat) (s : State) : Host.Outcome State Fault Refusal :=
  .next (s.cmd 0x0502 h (readErrorLogRun h from_ count))

end Sys2Proof.Machine
end

