-- ==== Sys2Proof/Machine/Milestone.lean ====
section
/-! DEFINITION. Module time, tracks, the ledger, the launch path and its gates (R211 to R245): shared operations, then one
meaning per command and event. -/

namespace Sys2Proof.Machine

/-! ## Tracks (R219 to R223) -/

/-- What a track's model answers for a belt position. -/
inductive TimeAnswer where
  | passed
  | unreached
  | at (t16 : Nat)
  deriving DecidableEq, Repr

/-- A billion. -/
def giga : Nat := 1000000000

/-- The greatest k with k · (v + √disc) ≤ x, for a positive v + √disc and a non-negative x. -/
def divBySurd (v disc x : Rat) : Nat :=
  ((List.range 72).reverse).foldl (fun (k : Nat) (i : Nat) =>
    let n : Nat := k + 2 ^ i
    let c := x - (n : Rat) * v
    if 0 ≤ c && (n : Rat) * n * disc ≤ c * c then n else k) 0

/-- milestone_time_at: the time at which the modelled belt reaches a position, held to 1/16 ns (R222); the last
sixteenth of an inexact root is free (log 10). -/
def modelTimeAt (m : TrackModel) (vStop : Nat) (target : Int) : TimeAnswer :=
  let d := (target : Rat) - m.s0
  if d ≤ 0 then .passed
  else if m.a ≤ 0 && m.v ≤ (vStop : Rat) then .unreached
  else
    let disc := m.v * m.v + 2 * m.a * d
    if disc < 0 || (m.v ≤ 0 && disc ≤ m.v * m.v) then .unreached
    else
      let x := 2 * d * (16 * giga : Nat)
      let k := divBySurd m.v disc x
      let c := x - (k : Rat) * m.v
      let exact := (k : Rat) * k * disc = c * c
      .at (16 * m.tN + k + if !exact && Config.timeRoundsUp m.v m.a d then 1 else 0)

/-- What a track answers: UNREACHED while EMPTY or STALE (R223, R228). -/
def Track.timeAt (t : Track) (target : Int) : TimeAnswer :=
  if t.state = 0 || t.state = 3 then .unreached
  else match t.model with
    | none => .unreached
    | some m => modelTimeAt m t.params.vStop target

/-- The belt position of a model at a module time, holding where a braking belt stops (R222). -/
def TrackModel.pos (m : TrackModel) (t : Nat) : Rat :=
  let tau := ((t : Rat) - (m.tN : Rat)) / (giga : Nat)
  let tau := if m.a < 0 && m.v > 0 && tau > -m.v / m.a then -m.v / m.a else tau
  m.s0 + m.v * tau + m.a * tau * tau / 2

/-- Sum of a function over the points of a fit. -/
def fitSum (pts : List (Rat × Rat)) (f : Rat → Rat → Rat) : Rat := (pts.map fun p => f p.1 p.2).sum

/-- Least squares of s − (s0 + v·τ), for points that do not all share one τ. -/
def fitLine (pts : List (Rat × Rat)) : Rat × Rat :=
  let n : Rat := pts.length
  let sx := fitSum pts fun x _ => x
  let sy := fitSum pts fun _ y => y
  let sxx := fitSum pts fun x _ => x * x
  let sxy := fitSum pts fun x y => x * y
  let v := (n * sxy - sx * sy) / (n * sxx - sx * sx)
  ((sy - v * sx) / n, v)

/-- The acceleration of the least squares of s − (s0 + v·τ + a·τ²/2), or none when the points do not fix it. -/
def fitAccel (pts : List (Rat × Rat)) : Option Rat :=
  let n : Rat := pts.length
  let z := fun x : Rat => x * x / 2
  let x1 := fitSum pts fun x _ => x
  let z1 := fitSum pts fun x _ => z x
  let xx := fitSum pts fun x _ => x * x
  let xz := fitSum pts fun x _ => x * z x
  let zz := fitSum pts fun x _ => z x * z x
  let y1 := fitSum pts fun _ y => y
  let xy := fitSum pts fun x y => x * y
  let zy := fitSum pts fun x y => z x * y
  let det := n * (xx * zz - xz * xz) - x1 * (x1 * zz - xz * z1) + z1 * (x1 * xz - xx * z1)
  if det = 0 then none
  else some ((n * (xx * zy - xz * xy) - x1 * (x1 * zy - xy * z1) + y1 * (x1 * xz - xx * z1)) / det)

/-- The fit of R221 over a track's samples, newest first; an acceleration that the samples do not fix is free, one value for one
list of samples, since the fit is deterministic (log 10). None: Milestone fits nothing. -/
def fitTrack (p : TrackParams) (samples : List (Nat × Int)) : Option TrackModel :=
  match samples with
  | [] => none
  | (tN, _) :: _ =>
    let used := (samples.take p.window).takeWhile fun q => tN ≤ q.1 + p.span * 1000000
    let pts := used.map fun q => (((q.1 : Rat) - (tN : Rat)) / (giga : Nat), (q.2 : Rat))
    let oldest := (used.getLast?.map (·.1)).getD tN
    if used.length < 2 || used.all fun q => q.1 = tN then none
    else
      let a := if 3 ≤ used.length && oldest + 1000000 ≤ tN then
          let lim := F32.rat p.aMax * 1000000
          let raw := (fitAccel pts).getD (Config.freeAccel used)
          max (-lim) (min lim raw)
        else 0
      let (s0, v) := fitLine (pts.map fun q => (q.1, q.2 - a * q.1 * q.1 / 2))
      let r := fitSum pts fun x y => (y - (s0 + v * x + a * x * x / 2)) * (y - (s0 + v * x + a * x * x / 2))
      some { tN := tN, s0 := Config.fp64 s0, v := Config.fp64 v, a := Config.fp64 a,
             meanSq := Config.fp64 (r / (used.length : Rat)) }

/-- Whether a message's tag holds under a tenant's job key or the previous one (R219, R317, R318). -/
def State.tagHolds (s : State) (tenant label object iv : Nat) (message : List Byte) (tag : Nat) : Bool :=
  let ok := fun j : Option (Nat × Nat) => match j with
    | some (secret, gen) => Config.authTag (jobKey secret gen label object tenant) iv message = tag
    | none => false
  ok (s.job tenant) || ok (s.oldJob tenant)

/-- The job key under which a message's tag holds: the present one's, else the previous one's (R317, R318). -/
def State.keyHolding (s : State) (tenant label object iv : Nat) (message : List Byte) (tag : Nat) : Option Nat :=
  ([s.job tenant, s.oldJob tenant].filterMap id).findSome? fun j =>
    let k := jobKey j.1 j.2 label object tenant
    if Config.authTag k iv message = tag then some k else none

/-- Bytes 0 to 31 of an encoder frame body (Table 08-5). -/
def encBody (f : EncFrame) : List Byte :=
  beBytes 1 f.ftype ++ beBytes 1 f.version ++ beBytes 1 (bit f.auth) ++ beBytes 1 0 ++ beBytes 2 f.sourceId ++
    beBytes 2 0 ++ beBytes 4 f.sequence ++ beBytes 4 0 ++ beBytes 8 f.tSample ++ beBytes 8 (twos 64 f.position)

/-- Whether a track accepts an encoder frame from a port; PORTS and AUTH of a redefinition judge the next frame (R219, R220). A
frame whose RSVD bits are not all 0 is dropped: the spec lists no such cause, DESIGN CHOICE log 131. -/
def State.acceptsFrame (s : State) (n : Nat) (t : Track) (port : Nat) (f : EncFrame) : Bool :=
  f.ftype = 2 && f.version = 1 && f.rsvdZero && f.sourceId = t.params.sourceId && bitOf t.nextParams.ports port &&
    (match t.lastSeq with | some q => serialNewer f.sequence q | none => true) &&
    (!t.nextParams.auth || (f.auth && s.tagHolds t.tenant labelTR n
      (f.sourceId * 2 ^ 64 + f.sequence * 2 ^ 32 + 2) (encBody f) f.tag))

/-! ## The ledger (R225 to R229, R240, R241) -/

/-- An action stream. -/
def State.stream (s : State) (n : Nat) : Option ActionStream := Map.get? s.mls.streams n

/-- An action stream set. -/
def State.setStream (s : State) (n : Nat) (st : ActionStream) : State :=
  { s with mls := { s.mls with streams := Map.set s.mls.streams n st } }

/-- The entry of a stream and sequence. -/
def State.entry (s : State) (stream seq : Nat) : Option LedgerEntry :=
  s.mls.ledger.find? fun e => e.stream = stream && e.sequence = seq

/-- The entry has launched and its pulse is still in progress (R234, R240). -/
def State.inPulse (s : State) (e : LedgerEntry) : Bool :=
  s.mls.pulses.any fun p => p.entry.stream = e.stream && p.entry.sequence = e.sequence

/-- An entry set in place. -/
def State.setEntry (s : State) (e : LedgerEntry) : State :=
  { s with mls := { s.mls with ledger := s.mls.ledger.map fun x =>
    if x.stream = e.stream && x.sequence = e.sequence then e else x } }

/-- The SEQUENCE after `q` (R225). -/
def nextSequence (q : Nat) : Nat := if q = 2 ^ 32 - 1 then 1 else q + 1

/-- Final status of POST_LAUNCH for an outcome (Table 08-15). -/
def outcomeStatus (code : Nat) : Nat :=
  match code with
  | 0 => Status.done
  | 1 => Status.done
  | 2 => Status.cancelled
  | 3 => Status.expiredInHold
  | 4 => Status.late
  | 8 => Status.tenantRevoked
  | _ => Status.fenced

/-- A tenant's removal has begun (R241, R329). -/
def State.revoking (s : State) (tenant : Nat) : Bool := (Map.get? s.customs.tenants tenant).map (·.state) = some 2

/-- The outcome record of R241 on the stream's ring. -/
def State.writeOutcome (s : State) (e : LedgerEntry) (code : Nat) : State :=
  match s.stream e.stream with
  | none => s
  | some st =>
    if st.params.ringEntries = 0 || (code = 0 && !st.params.reportAll) || s.revoking st.tenant || !s.writesRings then s
    else
      let (consumer, s) := s.hostConsumer st.params.ringEntries
      match ringPlace st.producer consumer st.params.ringEntries 1 with
      | none => s.count 0x0009 0 0 0 e.stream 96 1
      | some place =>
        if !s.canWriteTenant st.tenant then s.count 0x0009 0 0 0 e.stream 96 1
        else
          (s.setStream e.stream { st with producer := place.2.2 }).writeRecord st.tenant st.params.ringBase st.producer
            place
            (.outcome e.request e.sequence (e.tPred16 / 16) s.now e.stream code)

/-- An entry leaves the ledger with one outcome: its counter, its ring record, its POST_LAUNCH reply, and for a recall or a
tenant removal its LEDGER_REMOVE record (R229, R240, R241, R341). -/
def State.endEntry (s : State) (e : LedgerEntry) (code : Nat) : State :=
  let same := fun a b : Nat => a = e.stream && b = e.sequence
  let s := { s with mls := { s.mls with
    ledger := s.mls.ledger.filter fun x => !same x.stream x.sequence,
    slots := s.mls.slots.filter fun x => !same x.2.1 x.2.2,
    egress := s.mls.egress.filter fun x => !same x.2.1 x.2.2,
    launched := if code ≤ 1 then s.mls.launched ++ [(e.stream, e.sequence, e.request)] else s.mls.launched } }
  let s := s.count 0x0009 0 0 0 e.stream (8 + 8 * code) 1
  let s := s.writeOutcome e code
  let s := if code = 2 || code = 8 then s.sendRec (.ledgerRemove e.stream e.sequence code) 24 else s
  if e.posted && e.postRing < 8 then
    s.reply { fn := e.postFn, ring := e.postRing, tag := e.postTag, opcode := 0x0404, signal := e.postSignal,
              session := e.postSession, copied := false, spans := [] }
      (outcomeStatus code) (e.sequence + 2 ^ 32 * code) (e.tPred16 / 16)
  else s

/-- The ledger is dropped: every entry that has not launched ends DISCARDED (Table 08-15). -/
def State.discardLedger (s : State) : State :=
  (s.mls.ledger.filter fun e => !s.inPulse e).foldl (fun s e => s.endEntry e 7) s

/-- One more sequence value that can be released under a stream's key, with KEY_RENEWAL_DUE at 2^31 (R319). -/
def State.countRenewal (s : State) (n : Nat) : State :=
  match s.stream n with
  | none => s
  | some st =>
    if !st.params.encrypt then s
    else
      let c := min (st.renewal + 1) (2 ^ 32 - 1)
      let due := !st.renewalRaised && c ≥ 2 ^ 31
      let s := s.setStream n { st with renewal := c, renewalRaised := st.renewalRaised || due }
      if due then
        let slot := ((Map.get? s.customs.tenants st.tenant).map (·.slot)).getD 0
        let gen := ((Map.get? s.customs.slots slot).map (·.generation)).getD 0
        s.event2 st.tenant 0x0602 n (st.tenant + 256 * gen)
      else s

/-- The count of R319 restarts: the sequence values from the stream's oldest entry to its newest. -/
def State.recount (s : State) (n : Nat) : State :=
  { s with mls := { s.mls with streams := Map.modify s.mls.streams n fun st =>
    let seqs := (s.mls.ledger.filter fun e => e.stream = n).map (·.sequence)
    let c := match seqs.head?, seqs.getLast? with
      | some a, some b => (b + 2 ^ 32 - a) % 2 ^ 32 + (if b < a then 0 else 1)
      | _, _ => 0
    { st with renewal := c, renewalRaised := false } } }

/-- The count restarts on every stream of a tenant, or on all, at a change of GENERATION or epoch (R319). -/
def State.recountAll (s : State) (tenant : Option Nat) : State :=
  ((s.mls.streams.filter fun p => tenant.all fun t => p.2.tenant = t).map (·.1)).foldl State.recount s

/-- Number of entries in the ledger. -/
def State.ledgerFill (s : State) : Nat := s.mls.ledger.length

/-- The ledger is full (R226). -/
def State.ledgerFull (s : State) : Bool := s.ledgerFill ≥ 8192

/-- An entry inserted into a ledger that has room: HIGH_WATER, LEDGER_HIGH at 7,680, and the renewal count (R226, R245,
R319). -/
def State.insertEntry (s : State) (e : LedgerEntry) : State :=
  let n := s.ledgerFill + 1
  let s := { s with mls := { s.mls with ledger := s.mls.ledger ++ [e], highWater := max s.mls.highWater n } }
  let s := (s.writeCopies e).countRenewal e.stream
  if n = 7680 then s.mlsRaise 0x100 else s

/-- The next SEQUENCE of a stream taken (R225). -/
def State.takeSequence (s : State) (n : Nat) : State :=
  { s with mls := { s.mls with streams := Map.modify s.mls.streams n fun st =>
    { st with nextSeq := nextSequence st.nextSeq } } }

/-- Where a track-bound entry stands for what its track answers: state and T_PRED (R228). -/
def armOf (a : TimeAnswer) : Nat × Nat := match a with | .at t => (2, t) | _ => (1, 0)

/-- A new entry of an action stream for a target, before its tokens' origin is filled in (R225, R226). -/
def State.newEntry (s : State) (n : Nat) (st : ActionStream) (trackBound : Bool) (track : Nat) (when_ : Int)
    (lead : Nat) (tokens : List Nat) (request : Nat) : LedgerEntry :=
  let arm := if trackBound then
      armOf (((Map.get? s.mls.tracks track).map fun t => t.timeAt when_).getD .unreached)
    else (2, 16 * when_.toNat)
  { state := arm.1, trackBound := trackBound, line := st.params.kind = 1, posted := false, stream := n,
    sequence := st.nextSeq, request := request, track := if trackBound then track else 0, tokens := tokens.take 64,
    tenant := st.tenant, when_ := when_, tPred16 := arm.2, lead := lead,
    expiry := if trackBound then s.now + st.params.maxWait * 1000000 else 0, loadedPorts := 0, postFn := 0,
    postRing := 255, postTag := 0, postSession := 0, postSignal := false }

/-! ## Loading and re-timing (R228) -/

/-- A gate is closed for an entry's stream. -/
def State.entryGateClosed (s : State) (e : LedgerEntry) : Bool :=
  match s.stream e.stream with
  | some st => s.gateClosed st.params.holdInput
  | none => s.mls.hold

/-- The launch lines a stream names, with 16 lines. -/
def maskLines (mask : Nat) : List Nat := (List.range 16).filter fun l => bitOf mask l

/-- The Ethernet ports a stream names. -/
def maskPorts (mask : Nat) : List Nat := (List.range 4).filter fun p => bitOf mask p

/-- A load deferred for want of a slot: SLOT_FULL and COLLISION (R228, Table 08-22). -/
def State.slotFull (s : State) (n : Nat) : State := (s.count 0x0009 0 0 0 n 88 1).mlsRaise 0x80

/-- An ARMED entry tested against its load point (R228). -/
def State.loadTest (s : State) (e : LedgerEntry) : State :=
  match s.stream e.stream with
  | none => s
  | some st =>
    let now16 := 16 * s.now
    if e.line then
      if e.tPred16 > now16 + 16 * 12000 then s
      else if e.tPred16 < now16 + 16 * 100 then s.endEntry e 4
      else
        let ls := maskLines st.params.lineMask
        if ls.any fun l => (s.mls.slots.filter fun x => x.1 = l).length ≥ 4 then s.slotFull e.stream
        else
          let s := { s with mls := { s.mls with
            slots := s.mls.slots ++ ls.map fun l => (l, e.stream, e.sequence) } }
          s.setEntry { e with state := 3 }
    else
      if e.tPred16 > now16 + 16 * (12000 + e.lead) then s
      else if e.tPred16 < now16 + 16 * 2000 then s.endEntry e 4
      else
        let ps := maskPorts st.params.ports
        if ps.any fun p => (s.mls.egress.filter fun x => x.1 = p).length ≥ 256 then s.slotFull e.stream
        else
          let s := { s with mls := { s.mls with
            egress := s.mls.egress ++ ps.map fun p => (p, e.stream, e.sequence) } }
          s.setEntry { e with state := 3, loadedPorts := st.params.ports }

/-- What a track answers for an entry. -/
def State.entryTime (s : State) (e : LedgerEntry) : TimeAnswer :=
  ((Map.get? s.mls.tracks e.track).map fun t => t.timeAt e.when_).getD .unreached

/-- The ARMED entries of a track return to WAITING (R228). -/
def State.waitEntries (s : State) (n : Nat) : State :=
  { s with mls := { s.mls with ledger := s.mls.ledger.map fun e =>
    if e.trackBound && e.track = n && e.state = 2 then { e with state := 1, tPred16 := 0 } else e } }

/-- A track-bound entry re-timed under its track's model: PASSED ends it LATE (R228). -/
def State.retime (s : State) (e : LedgerEntry) : State :=
  match s.entryTime e with
  | .passed => s.endEntry e 4
  | a => s.setEntry { e with state := (armOf a).1, tPred16 := (armOf a).2 }

/-- The horizon of an entry's track in nanoseconds. -/
def State.horizonNs (s : State) (e : LedgerEntry) : Nat :=
  ((Map.get? s.mls.tracks e.track).map fun t => t.params.horizon * 1000000).getD 0

/-- A track-bound entry past its EXPIRY and not loaded: LATE, or EXPIRED_IN_HOLD with a gate closed (R228). -/
def State.expire (s : State) (e : LedgerEntry) : State := s.endEntry e (if s.entryGateClosed e then 3 else 4)

/-- Whether an entry has reached its EXPIRY unloaded. -/
def State.expired (s : State) (e : LedgerEntry) : Bool := e.trackBound && e.state ≠ 3 && e.expiry ≤ s.now

/-- One entry at a tick: its copies read, expiry, re-time, load test; one whose copies both fail ends DISCARDED (R228, R261). -/
def State.tickEntry (s : State) (e : LedgerEntry) : State :=
  let (s, lost) := s.readCopies e
  if lost then (if s.inPulse e then s else s.endEntry e 7)
  else if e.state = 3 then s
  else if s.expired e then s.expire e
  else
    let s := if e.trackBound && (e.state = 1 || e.tPred16 ≤ 16 * (s.now + s.horizonNs e)) then s.retime e else s
    match s.entry e.stream e.sequence with
    | some e => if e.state = 2 then s.loadTest e else s
    | none => s

/-! ## Lines (R234 to R236) -/

/-- Match cycle [ns] and delay-line code of a line's edge (R235), in half picoseconds. -/
def lineFire (tPred16 : Nat) (offset skew : Int) : Nat × Nat :=
  let fire : Int := ((tPred16 : Int) + offset) * 125 - 2 * skew - 40000
  let cycle := fire / 8000
  let code := rheDiv (fire - cycle * 8000) 125
  if code = 64 then (((cycle + 1) * 4).toNat, 0) else ((cycle * 4).toNat, code.toNat)

/-- The earliest match cycle among the lines of an entry (R235). -/
def earliestMatch (tPred16 : Nat) (offset : Int) (lines : List Nat) : Nat :=
  match lines.map fun l => (lineFire tPred16 offset (Config.skewPs l)).1 with
  | [] => tPred16 / 16
  | m :: r => r.foldl min m

/-- Line `l` is held at its active level by a SET, or by a pulse whose leading edge lies no later than a time in 1/16 ns. -/
def State.lineRisen (s : State) (l t16 : Nat) : Bool :=
  (s.mls.pulses.any fun p => p.lines.contains l && p.start16 ≤ t16) || s.mls.setLines.any fun p => p.1 = l

/-- Levels of lines that were active and no longer are leave at the pins. -/
def State.emitFalls (s : State) (before : List Nat) (t16 : Nat) : State :=
  (before.filter fun l => !s.lineRisen l t16).foldl (fun s l => s.emit (.line l false t16)) s

/-- Lines that are at their active level. -/
def State.activeLines (s : State) : List Nat := (List.range 16).filter fun l => s.lineActive l

/-- Lines forced inactive by a hold, a disable or a fence: pulses on them are cut short, SET levels fall, and an entry whose
last pulse ends is TRUNCATED (R234, R236). -/
def State.cutLines (s : State) (ls : List Nat) : State :=
  let before := s.activeLines
  let cut := s.mls.pulses.map fun p =>
    if p.lines.any ls.contains then { p with lines := p.lines.filter fun l => !ls.contains l, cut := true } else p
  let s := { s with mls := { s.mls with
    pulses := cut.filter fun p => !p.lines.isEmpty,
    setLines := s.mls.setLines.filter fun x => !ls.contains x.1 } }
  let s := s.emitFalls before (16 * s.now)
  (cut.filter fun p => p.lines.isEmpty).foldl (fun s p => s.endEntry p.entry 1) s

/-- Reasons of FENCED set; a change of FENCED raises FENCE_CHANGE, and newly fenced lines fall (R234, R245). -/
def State.setFences (s : State) (brk self leave : Bool) : State :=
  let old := s.linesFenced
  let s := { s with mls := { s.mls with fenceBreakout := brk, fenceSelf := self, fenceLeave := leave } }
  if s.linesFenced = old then s
  else if s.linesFenced then (s.cutLines (List.range 16)).mlsRaise 0x40
  else s.mlsRaise 0x40

/-- Streams that name an input as their hold input. -/
def State.inputNamed (s : State) (i : Nat) : Bool := s.mls.streams.any fun p => p.2.params.holdInput = i

/-- Lines of the streams that a hold input stops (R237). -/
def State.inputLines (s : State) (i : Nat) : List Nat :=
  (List.range 16).filter fun l => s.mls.streams.any fun p =>
    p.2.params.holdInput = i && p.2.params.kind = 1 && bitOf p.2.params.lineMask l

/-! ## Discipline (R211 to R218) -/

/-- A discipline state entered: STATE_CHANGE, and HOLDOVER_LIMIT for FREE (Table 08-22). -/
def State.setDisc (s : State) (d : Nat) : State :=
  if s.mls.disc = d then s
  else
    ({ s with mls := { s.mls with disc := d, holdoverSince := if d = 3 then some s.up else none } } : State).mlsRaise
      (if d = 4 then 3 else 1)

/-- The last offset measured against a source: 1 bus, 2 PTP. -/
def State.sourceOffset (s : State) (src : Nat) : Int := if src = 1 then s.mls.busOffset else s.mls.ptpOffset.getD 0

/-- Enabled and qualified sources, preferred first (R214). -/
def State.readySources (s : State) : List Nat :=
  (if s.mls.cfg.preferPtp then [2, 1] else [1, 2]).filter fun src =>
    if src = 1 then s.mls.cfg.bus && s.mls.busPresent else s.mls.cfg.ptp && s.mls.ptpPresent && s.mls.ptpOffset.isSome

/-- The PTP servo has stayed within 100 ns for 10 s (Table 08-1). -/
def State.ptpSettled (s : State) : Bool :=
  match s.mls.settledSince with | some t => s.elapsed t (10 * giga) | none => false

/-- The one step of module time of state ACQUIRE (R211, R212): both sources' offsets move with it. -/
def State.firstStep (s : State) (off : Int) : State :=
  let time := ((s.now : Int) - off).toNat / 4 * 4
  let moved : Int := (time : Int) - (s.now : Int)
  { s with mls := { s.mls with time := time, stepped := true, busOffset := s.mls.busOffset + moved,
                               ptpOffset := s.mls.ptpOffset.map (· + moved) } }

/-- Source selection and the discipline state after a measurement or a change of qualification (R212, R214). -/
def State.discipline (s : State) : State :=
  match s.readySources with
  | [] =>
    let s := { s with mls := { s.mls with source := 0 } }
    if s.mls.disc = 1 || s.mls.disc = 2 then s.setDisc 3 else s
  | src :: _ =>
    let s := if s.mls.disc = 0 && !s.mls.stepped then s.firstStep (s.sourceOffset src) else s
    let off := s.sourceOffset src
    let far := decide (off.natAbs > 1000000)
    let s := { s with mls := { s.mls with source := src, offset := off, stepNeeded := far } }
    let s := if far then s.mlsRaise 0x20 else s
    let bounded := if src = 1 then decide (off.natAbs ≤ 20) else decide (off.natAbs ≤ 100) && s.ptpSettled
    if bounded then s.setDisc src
    else if s.mls.disc = 1 || s.mls.disc = 2 then s.setDisc 3
    else s

/-- A PTP message is for this clock: its port, domain, transport and VLAN are those of SET_TIMEBASE (R216). -/
def State.ptpMatches (s : State) (port domain transport vlan : Nat) : Bool :=
  s.mls.cfg.ptp && bitOf s.mls.cfg.ptpPorts port && domain = s.mls.cfg.ptpDomain && transport = s.mls.cfg.transport &&
    vlan = s.mls.cfg.ptpVlan

/-- The PTP source and what was learnt from it dropped. -/
def State.dropPtp (s : State) : State :=
  { s with mls := { s.mls with ptpMaster := none, ptpPresent := false, ptpOffset := none, settledSince := none } }

end Sys2Proof.Machine
end

