-- ==== Sys2Proof/Machine/Wire.lean ====
section
/-! DEFINITION. The bytes of what leaves the module: little-endian in host memory, big-endian on Ethernet and on the escort link
(R9). -/

namespace Sys2Proof.Machine

/-- A reply as it stands in the reply ring (Table 10-16). -/
def Reply.bytes (r : Reply) (phase : Bool) (time : Nat) : List Byte :=
  leBytes 2 r.tag ++ leBytes 2 r.status ++ leBytes 2 r.opcode ++
    leBytes 1 (bit phase + 2 * bit r.final + 4 * bit r.crcFailed + 8 * bit r.dupTag + 16 * bit r.dmaError) ++ leBytes 1 0 ++
    leBytes 8 r.result0 ++ leBytes 8 r.result1 ++ leBytes 8 time

/-- An event as it stands in the event queue (Table 10-24). -/
def eventBytes (phase : Bool) (code object detail time : Nat) : List Byte :=
  leBytes 2 code ++ leBytes 1 (bit phase) ++ leBytes 1 0 ++ leBytes 4 object ++ leBytes 8 time ++ leBytes 16 detail

/-- Bytes followed by zeros up to a multiple of `u`. -/
def padTo (u : Nat) (l : List Byte) : List Byte := l ++ List.replicate (ceilDiv l.length u * u - l.length) 0

/-- The bytes of a ring record: a skip marker, a report with its tokens padded to 64 bytes, an outcome, and the header of an encode
entry (Table 06-4, R151, R188, R241). -/
def RingRec.bytes (r : RingRec) : List Byte :=
  match r with
  | .skip => leBytes 4 0xFFFFFFFF
  | .report request route status tLaunch sequence suspect steps flags tokens =>
    padTo 64 (leBytes 4 request ++ leBytes 2 route ++ leBytes 2 status ++ leBytes 8 tLaunch ++ leBytes 4 sequence ++
      leBytes 2 suspect ++ leBytes 2 tokens.length ++ leBytes 2 flags ++ leBytes 2 steps ++ leBytes 4 0 ++
      tokens.flatMap (leBytes 4))
  | .outcome request sequence tPred time stream code =>
    leBytes 4 request ++ leBytes 4 sequence ++ leBytes 8 tPred ++ leBytes 8 time ++ leBytes 2 stream ++ leBytes 1 code ++
      leBytes 5 0
  | .encode bytes tCapture flags => leBytes 4 bytes ++ leBytes 8 tCapture ++ leBytes 4 flags

/-- Bytes 0 to 39 of an Action Frame's body (Table 08-10). -/
def ActionFrame.head (f : ActionFrame) : List Byte :=
  beBytes 1 1 ++ beBytes 1 1 ++
    beBytes 1 (bit f.trackBound + 2 * bit f.encrypted + 4 * bit f.timeUnlocked + 8 * f.source) ++
    beBytes 1 f.tokens.length ++ beBytes 2 f.stream ++ beBytes 2 f.keyGen ++ beBytes 4 f.epoch ++ beBytes 4 f.sequence ++
    beBytes 4 f.request ++ beBytes 1 f.track ++ beBytes 3 0 ++ beBytes 8 (f.tLaunch16 / 16) ++ beBytes 8 (twos 64 f.sLaunch)

/-- The tokens of an Action Frame. -/
def ActionFrame.tokenBytes (f : ActionFrame) : List Byte := f.tokens.flatMap (beBytes 4)

/-- An Action Frame as it enters the MAC: addresses, the 802.1Q tag with priority code point 6 where VLAN is not 0, EtherType 0x88B5,
and the body, padded to 60 bytes before the frame check sequence, PRESUMED log 130 (R230). -/
def ActionFrame.bytes (f : ActionFrame) : List Byte :=
  let tag := if f.vlan = 0 then [] else beBytes 2 0x8100 ++ beBytes 2 (6 * 2 ^ 13 + f.vlan % 2 ^ 12)
  let l := beBytes 6 f.destMac ++ beBytes 6 f.srcMac ++ tag ++ beBytes 2 0x88B5 ++ f.head ++ f.tokenBytes ++
    (match f.tag with | some t => beBytes 16 t | none => [])
  l ++ List.replicate (60 - l.length) 0

/-- The header of a cell (Table 12-3). -/
def cellHeader (c : Cell) : List Byte :=
  beBytes 1 c.ctype ++ beBytes 1 c.format ++
    beBytes 1 (bit (c.source ≠ 0) + 2 * bit c.poison + 4 * bit (c.attempt ≠ 0) + 8 * c.attempt) ++ beBytes 1 c.key ++
    beBytes 2 c.keyGen ++ beBytes 2 c.recordStart ++ beBytes 8 c.seq ++ beBytes 8 c.ack

/-- A box record (Table 07-10). -/
def BoxRec.bytes (b : BoxRec) : List Byte :=
  leBytes 4 b.x0.toNat ++ leBytes 4 b.y0.toNat ++ leBytes 4 b.x1.toNat ++ leBytes 4 b.y1.toNat ++ leBytes 4 b.score.toNat ++
    leBytes 2 b.cls ++ leBytes 2 b.flags ++ leBytes 4 b.candidate ++ leBytes 4 b.frame

/-- The bytes of an output whose layout the spec gives; none of a pin, a register read, or a message whose layout it does not give. -/
def Output.bytes (o : Output) : Option (List Byte) :=
  match o with
  | .reply _ _ _ phase r time => some (r.bytes phase time)
  | .event _ _ phase code object detail time => some (eventBytes phase code object detail time)
  | .payload _ _ b => some b
  | .ringRecord _ _ _ r => some r.bytes
  | .producer _ _ n => some (leBytes 4 n)
  | .frame f => some f.bytes
  | _ => none

end Sys2Proof.Machine
end

