-- ==== Sys2Proof/Machine/Launch.lean ====
section
/-! DEFINITION. Meanings of the time base, track, ledger and launch commands and events (R211 to R245). -/

namespace Sys2Proof.Machine

/-! ## Host commands -/

/-- Range checks of Table 08-4. -/
def timebaseOk (p : TimebaseParams) : Bool :=
  p.ptpDomain ≤ 127 && p.ptpPorts ≤ 15 && p.transport ≤ 2 && p.ptpVlan ≤ 4095 && p.holdoverLimit ≤ 3600

/-- Settings replaced; a master that the new settings do not select is dropped. -/
def State.setTimebaseCfg (s : State) (p : TimebaseParams) : State :=
  let old := s.mls.cfg
  let same := old.ptpDomain = p.ptpDomain && old.transport = p.transport && old.ptpVlan = p.ptpVlan && p.ptp &&
    (match s.mls.ptpMaster with | some (_, port, _) => bitOf p.ptpPorts port | none => true)
  let p := { p with holdoverLimit := if p.holdoverLimit = 0 then 60 else p.holdoverLimit, step := false, stepNs := 0 }
  let s := { s with mls := { s.mls with cfg := p } }
  if same then s else s.dropPtp

/-- STEP adds STEP_NS to module time and to the offsets (R217). -/
def State.stepTime (s : State) (ns : Int) : State :=
  let time := ((s.now : Int) + ns).toNat / 4 * 4
  { s with mls := { s.mls with time := time, busOffset := s.mls.busOffset + ns, offset := s.mls.offset + ns,
                               ptpOffset := s.mls.ptpOffset.map (· + ns) } }

/-- SET_TIMEBASE once started (R217). -/
def setTimebaseRun (p : TimebaseParams) (c : CmdRef) (s : State) : State :=
  if !timebaseOk p then s.reply c Status.badParam 0 0
  else if p.step && (s.ledgerFill ≠ 0 || !s.reqs.routes.isEmpty) then s.reply c Status.notPermitted 0 0
  else
    let s := s.setTimebaseCfg p
    let s := if p.step then s.stepTime p.stepNs else s
    let s := s.discipline
    s.reply c Status.done s.mls.disc (twos 64 s.mls.offset)

/-- SET_TIMEBASE (R217, Table 08-4). -/
def execSetTimebase (h : Hdr) (p : TimebaseParams) (s : State) : Host.Outcome State Fault Refusal :=
  .next (s.cmd 0x0401 h (setTimebaseRun p))

/-- Range checks of Table 08-6. -/
def trackOk (p : TrackParams) : Bool :=
  p.track ≤ 255 && (p.window = 0 || within p.window 3 64) && p.ports ≤ 15 && p.horizon ≤ 10000 &&
    (p.span = 0 || within p.span 2 10000) && p.timeout ≤ 1000 &&
    (F32.isZero p.aMax || (!F32.neg p.aMax && F32.exp p.aMax < 255))

/-- The defaults of Table 08-6 filled in. -/
def trackDefaults (p : TrackParams) : TrackParams :=
  { p with window := orDefault p.window 16, horizon := orDefault p.horizon 100, span := orDefault p.span 200,
           timeout := orDefault p.timeout 5, vStop := orDefault p.vStop 1000,
           aMax := if F32.isZero p.aMax then 0x41A00000 else p.aMax, residMax := orDefault p.residMax 500 }

/-- A track set. -/
def State.setTrack (s : State) (n : Nat) (t : Track) : State :=
  { s with mls := { s.mls with tracks := Map.set s.mls.tracks n t } }

/-- A track as a first definition leaves it: EMPTY. -/
def Track.fresh (tenant : Nat) (p : TrackParams) : Track :=
  { tenant := tenant, params := p, nextParams := p, state := 0, samples := [], lastSeq := none, lastAccept := none,
    model := none }

/-- DEFINE_TRACK once started: entries of a track that is EMPTY from now on wait (R220, R228). -/
def defineTrackRun (h : Hdr) (p : TrackParams) (c : CmdRef) (s : State) : State :=
  match Map.get? s.mls.tracks p.track with
  | some t =>
    if t.tenant ≠ h.fn then s.reply c Status.notPermitted 0 0
    else if !trackOk p then s.reply c Status.badParam 0 0
    else
      let p := trackDefaults p
      let t := if t.params.sourceId = p.sourceId then
          { t with params := { t.params with timeout := p.timeout }, nextParams := p }
        else Track.fresh h.fn p
      let s := s.setTrack p.track t
      (if t.state = 0 then s.waitEntries p.track else s).reply c Status.done 0 0
  | none =>
    if !trackOk p then s.reply c Status.badParam 0 0
    else (s.setTrack p.track (Track.fresh h.fn (trackDefaults p))).reply c Status.done 0 0

/-- DEFINE_TRACK (R220, Table 08-6). -/
def execDefineTrack (h : Hdr) (p : TrackParams) (s : State) : Host.Outcome State Fault Refusal :=
  .next (s.cmd 0x0402 h (defineTrackRun h p))

/-- Something names a track: a route, a ledger entry, or a live request with a track-bound target (R220). -/
def State.trackNamed (s : State) (n : Nat) : Bool :=
  (s.reqs.routes.any fun r => r.2.params.track = n) ||
  (s.mls.ledger.any fun e => e.trackBound && e.track = n) ||
  (s.reqs.slot.any fun r => r.2.target = 2 && r.2.track = n)

/-- DEFINE_TRACK with DELETE once started (R220). -/
def defineTrackDeleteRun (h : Hdr) (n : Nat) (c : CmdRef) (s : State) : State :=
  match Map.get? s.mls.tracks n with
  | none => s.reply c Status.badParam 0 0
  | some t =>
    if t.tenant ≠ h.fn || s.trackNamed n then s.reply c Status.notPermitted 0 0
    else
      ({ s with mls := { s.mls with tracks := Map.erase s.mls.tracks n } } : State).reply c Status.done 0 0

/-- DEFINE_TRACK with DELETE set (R220). -/
def execDefineTrackDelete (h : Hdr) (track : Nat) (s : State) : Host.Outcome State Fault Refusal :=
  .next (s.cmd 0x0402 h (defineTrackDeleteRun h track))

/-- A record ring's entry count: a power of two from 16 to 65,536 (R151, R224). -/
def ringEntriesOk (e : Nat) : Bool := ((List.range 13).map fun i => 2 ^ (i + 4)).contains e

/-- Range checks of Table 08-7: fields that do not apply to KIND are not checked (R224). -/
def actionStreamOk (p : ActionParams) : Bool :=
  p.stream ≤ 4095 && p.kind ≤ 1 && (p.holdInput ≤ 6 || p.holdInput = 255) && within p.lead 1000 1000000000 &&
    (p.kind = 1 || (p.ports ≤ 15 && p.vlan ≤ 4095)) &&
    (p.kind = 0 || (p.lineMode ≤ 2 && within p.pulseWidth 8 1000000000)) &&
    (p.ringEntries = 0 || ringEntriesOk p.ringEntries)

/-- Another stream already names one of the lines (R224). -/
def State.lineTaken (s : State) (p : ActionParams) : Bool :=
  p.kind = 1 && s.mls.streams.any fun q => q.1 ≠ p.stream && q.2.params.kind = 1 &&
    (List.range 16).any fun l => bitOf p.lineMask l && bitOf q.2.params.lineMask l

/-- DEFINE_ACTION_STREAM once started (R224); a partner defines no ring (R345). -/
def defineActionStreamRun (h : Hdr) (p : ActionParams) (c : CmdRef) (s : State) : State :=
  let old := s.stream p.stream
  if (old.map fun o => decide (o.tenant ≠ h.fn)).getD false then s.reply c Status.notPermitted 0 0
  else if !actionStreamOk p then s.reply c Status.badParam 0 0
  else if s.lineTaken p then s.reply c Status.notPermitted 0 0
  else
    let p := { p with maxWait := orDefault p.maxWait 10000,
                      ringEntries := if c.copied then 0 else p.ringEntries }
    let st : ActionStream := match old with
      | some o => { o with params := p, producer := 0 }
      | none => { tenant := h.fn, params := p, nextSeq := 1, renewal := 0, renewalRaised := false, producer := 0 }
    (s.setStream p.stream st).reply c Status.done 0 0

/-- DEFINE_ACTION_STREAM (R224, Table 08-7). -/
def execDefineActionStream (h : Hdr) (p : ActionParams) (s : State) : Host.Outcome State Fault Refusal :=
  .next (s.cmd 0x0403 h (defineActionStreamRun h p))

/-- The refusal of POST_LAUNCH, in the order of R229, or none. -/
def postRefusal (h : Hdr) (p : PostParams) (s : State) : Option Nat :=
  match s.stream p.stream with
  | none => some Status.badParam
  | some st =>
    let lead := if p.lead = 0 then st.params.lead else p.lead
    let t := Map.get? s.mls.tracks p.track
    if st.tenant ≠ h.fn || s.mls.disc = 0 || (p.target = 2 && (t.map fun t => decide (t.tenant ≠ h.fn)).getD false)
    then some Status.notPermitted
    else if p.stream > 4095 || !(p.target = 1 || p.target = 2) || p.tokenCount > 64 ||
        p.tokens.length < p.tokenCount || (p.target = 2 && t.isNone) then some Status.badParam
    else if p.target = 1 && p.when_ > (s.now : Int) + 3600 * giga then some Status.badParam
    else if p.target = 1 && p.when_ < (s.now : Int) + lead then some Status.late
    else if p.target = 2 && (t.map fun t => t.timeAt p.when_) = some .passed then some Status.late
    else if s.ledgerFull then some Status.ledgerFull
    else none

/-- The entry POST_LAUNCH inserts (R229). -/
def postEntry (p : PostParams) (c : CmdRef) (s : State) (st : ActionStream) : LedgerEntry :=
  { s.newEntry p.stream st (p.target = 2) p.track p.when_ (if p.lead = 0 then st.params.lead else p.lead)
      (p.tokens.take p.tokenCount) 0xFFFFFFFF with
    posted := true, postFn := c.fn, postRing := if c.copied then 255 else c.ring, postTag := c.tag,
    postSession := c.session, postSignal := c.signal }

/-- POST_LAUNCH once started (R229). -/
def postLaunchRun (h : Hdr) (p : PostParams) (c : CmdRef) (s : State) : State :=
  match postRefusal h p s, s.stream p.stream with
  | none, some st =>
    let e := postEntry p c s st
    ((s.takeSequence p.stream).insertEntry e).accept c e.sequence (e.tPred16 / 16)
  | some r, _ => s.reply c r 0 0
  | none, none => s.reply c Status.badParam 0 0

/-- POST_LAUNCH (R229, Table 08-9). -/
def execPostLaunch (h : Hdr) (p : PostParams) (s : State) : Host.Outcome State Fault Refusal :=
  .next (s.cmd 0x0404 h (postLaunchRun h p))

/-- Whether a recall names an entry: a sequence among COUNT from KEY in serial order, or a request (R242). -/
def recallMatches (stream : Nat) (byRequest : Bool) (key count : Nat) (st seq req : Nat) : Bool :=
  st = stream && (if byRequest then req = key else
    let d := (seq + 2 ^ 32 - key) % 2 ^ 32
    decide ((if seq < key then d - 1 else d) < count))

/-- The module launches no ledger of its own as SHADOW or DETACHED (Table 12-1). -/
def State.launchesNothing (s : State) : Bool := s.escort.role = 3 || s.escort.role = 4

/-- GENERATION of a tenant's key slot (R309). -/
def State.generation (s : State) (tenant : Nat) : Nat :=
  ((Map.get? s.customs.slots (((Map.get? s.customs.tenants tenant).map (·.slot)).getD 0)).map (·.generation)).getD 0

/-- An encrypted stream may release: job keys installed and sequences left under them (R318, R319). -/
def State.mayRelease (s : State) (st : ActionStream) : Bool :=
  !st.params.encrypt || ((s.job st.tenant).isSome && st.renewal < 2 ^ 32 - 1)

/-- Ports of an entry that are up at its release. -/
def State.upPorts (s : State) (e : LedgerEntry) : List Nat := (maskPorts e.loadedPorts).filter s.mls.portsUp.contains

/-- A LOADED entry's match cycle or release instant has come (R232, R235). -/
def State.launchDue (s : State) (e : LedgerEntry) (st : ActionStream) : Bool :=
  e.state = 3 && (if e.line then decide (earliestMatch e.tPred16 st.params.lineOffset (maskLines st.params.lineMask) ≤ s.now)
    else decide (e.tPred16 ≤ 16 * (s.now + e.lead)))

/-- An entry counts as launched: its pulse is in progress, or in the present TB cycle it passes its gate, or its first byte enters a
MAC (R240, Table 08-16). -/
def State.hasLaunched (s : State) (e : LedgerEntry) : Bool :=
  s.inPulse e || (match s.stream e.stream with
    | some st => s.launchDue e st && !s.launchesNothing && !s.gateClosed st.params.holdInput &&
        (if e.line then (maskLines st.params.lineMask).any s.lineOpen
         else !s.mls.egressClosed && s.mayRelease st && !(s.upPorts e).isEmpty)
    | none => false)

/-- Entries that match are removed with outcome RECALLED; the counts removed and already launched (R161, R240). -/
def State.recall (s : State) (f : Nat → Nat → Nat → Bool) : State × Nat × Nat :=
  let hit := s.mls.ledger.filter fun e => f e.stream e.sequence e.request
  let gone := hit.filter fun e => !s.hasLaunched e
  let launched := (s.mls.launched.filter fun x => f x.1 x.2.1 x.2.2).length + (hit.filter fun e => s.hasLaunched e).length
  (gone.foldl (fun s e => s.endEntry e 2) s, gone.length, launched)

/-- RESULT0 of a recall, its two counts saturating at 16 bits (R161). -/
def recallResult (removed launched : Nat) : Nat := min removed 65535 + 65536 * min launched 65535

/-- RECALL_LAUNCH once started (R242). -/
def recallLaunchRun (h : Hdr) (stream : Nat) (byRequest : Bool) (key count : Nat) (c : CmdRef) (s : State) : State :=
  match s.stream stream with
  | none => s.reply c Status.badParam 0 0
  | some st =>
    if st.tenant ≠ h.fn then s.reply c Status.notPermitted 0 0
    else if !byRequest && count > 8192 then s.reply c Status.badParam 0 0
    else
      let (s, removed, launched) := s.recall (recallMatches stream byRequest key (orDefault count 1))
      s.replyAfterAck c (recallResult removed launched) true

/-- RECALL_LAUNCH (R242). -/
def execRecallLaunch (h : Hdr) (stream : Nat) (byRequest : Bool) (key count : Nat) (s : State) :
    Host.Outcome State Fault Refusal :=
  .next (s.cmd 0x0405 h (recallLaunchRun h stream byRequest key count))

/-! ## Registers -/

/-- MLS_LINE_CTRL.ENABLE written: disabled lines are cut and their SET levels fall (R234). -/
def State.writeLineEnable (s : State) (value : Nat) : State :=
  let off := (List.range 16).filter fun l => bitOf s.mls.lineEnable l && !bitOf value l
  let s := { s with mls := { s.mls with lineEnable := value % 65536 } }
  if off.isEmpty then s else s.cutLines off

/-- A write of MLS_LINE_CTRL.ENABLE (R234). -/
def execLineEnableWrite (value : Nat) (s : State) : Host.Outcome State Fault Refusal := .next (s.writeLineEnable value)

/-! ## Holds (R236 to R238) -/

/-- HOLD_n falls: gates close, every line falls, HOLD_COUNT and HOLD_ASSERT (R236). -/
def execHoldAssert (s : State) : Host.Outcome State Fault Refusal :=
  if !s.mls.holdPin then .next s
  else
    let s := { s with mls := { s.mls with holdPin := false, hold := true, holdRose := none,
                                          holdCount := satAdd 16 1 s.mls.holdCount } }
    .next ((s.cutLines (List.range 16)).mlsRaise 0x04)

/-- HOLD_n rises: the release delay starts (R238). -/
def execHoldRelease (s : State) : Host.Outcome State Fault Refusal :=
  if s.mls.holdPin then .next s
  else
    let s := { s with mls := { s.mls with holdPin := true, holdRose := some s.up } }
    .next (s.mlsRaise 0x08)

/-- A release delay has run out. -/
def State.delayOver (s : State) (rose : Nat) : Bool := s.elapsed rose (s.mls.releaseDelay * 1000)

/-- RELEASE_DELAY after a rise the gates reopen: of HOLD_n with no input named, else of a stream hold (R238). -/
def execReleaseDelayEnd (input : Option Nat) (s : State) : Host.Outcome State Fault Refusal :=
  match input with
  | none =>
    match s.mls.holdRose with
    | some t =>
      if s.delayOver t then .next { s with mls := { s.mls with hold := false, holdRose := none } } else .next s
    | none => .next s
  | some i =>
    match s.mls.inputRose.find? fun p => p.1 = i with
    | some p =>
      if s.delayOver p.2 then
        .next { s with mls := { s.mls with closedInputs := s.mls.closedInputs.filter fun j => j != i,
                                           inputRose := s.mls.inputRose.filter fun q => q.1 != i } }
      else .next s
    | none => .next s

/-- A stream hold input that a stream names falls: its streams' gates close and their lines fall (R237). -/
def execStreamHoldAssert (input : Nat) (s : State) : Host.Outcome State Fault Refusal :=
  if input > 6 then .next s
  else
    let s := { s with mls := { s.mls with inputs := clearBit s.mls.inputs input } }
    if !s.inputNamed input then .next s
    else
      let s := { s with mls := { s.mls with
        closedInputs := input :: s.mls.closedInputs.filter fun j => j != input,
        inputRose := s.mls.inputRose.filter fun q => q.1 != input } }
      .next (s.cutLines (s.inputLines input))

/-- A stream hold input rises: its release delay starts (R238). -/
def execStreamHoldRelease (input : Nat) (s : State) : Host.Outcome State Fault Refusal :=
  if input > 6 then .next s
  else
    let s := { s with mls := { s.mls with inputs := setBit s.mls.inputs input } }
    if s.mls.closedInputs.contains input then
      .next { s with mls := { s.mls with
        inputRose := (input, s.up) :: s.mls.inputRose.filter fun q => q.1 != input } }
    else .next s

/-- An edge on an input that no stream names is timestamped and reported; a rise starts the release delay of a gate that the input
still closes from the time a stream named it (R237, R238, Table 10-25). -/
def execInputEdge (input : Nat) (rising : Bool) (fraction : Nat) (s : State) : Host.Outcome State Fault Refusal :=
  if input > 6 then .next s
  else
    let s := { s with mls := { s.mls with
      inputs := if rising then setBit s.mls.inputs input else clearBit s.mls.inputs input } }
    if s.inputNamed input then .next s
    else
      let rose := s.mls.inputRose.filter fun q => q.1 != input
      let s := { s with mls := { s.mls with
        inputRose := if rising && s.mls.closedInputs.contains input then (input, s.up) :: rose else rose } }
      .next (s.event 0 0x0403 input (bit rising + 256 * (fraction % 64)))

/-! ## Time sources -/

/-- How far a pulse may move against the last one and still agree: 20 ns, and what the servo slews meanwhile (R212, R214). -/
def State.pulseBound (s : State) : Nat :=
  20 + if s.mls.stepped then (match s.mls.lastPulse with | some t => (s.up - t) / 5000 | none => 200) else 0

/-- A pulse on the time bus (R214): one with a good time code frame is measured, three in a row that agree qualify the bus,
and the PLL's lock is noted. -/
def execMilestonePulse (pllLocked : Bool) (s : State) : Host.Outcome State Fault Refusal :=
  if !s.power.railsOn then .next s
  else
    match s.mls.nextCode with
    | none =>
      let s := { s with mls := { s.mls with pllLocked := pllLocked, goodPulses := 0,
                                            busPresent := s.mls.busPresent && pllLocked } }
      .next s.discipline
    | some t =>
      let off : Int := (s.now : Int) - t
      let agree := s.mls.goodPulses = 0 || decide ((off - s.mls.busOffset).natAbs ≤ s.pulseBound)
      let good := if !pllLocked then 0 else if agree then min 3 (s.mls.goodPulses + 1) else 1
      let s := { s with mls := { s.mls with
        pllLocked := pllLocked, nextCode := none, goodPulses := good, busOffset := off,
        lastPulse := if pllLocked && agree then some s.up else s.mls.lastPulse,
        busPresent := pllLocked && (s.mls.busPresent || good = 3) } }
      .next s.discipline

/-- A time code frame with the right preamble and CRC (Table 08-2). -/
def timeCodeGood (bytes : List Byte) : Bool :=
  bytes.length = 12 && bytes.getD 0 0 = 0x5A && crc8 (slice 1 10 bytes) = (bytes.getD 11 0).toNat

/-- A serial time code frame carrying the next pulse's time (R215). -/
def execTimeCodeFrame (bytes : List Byte) (s : State) : Host.Outcome State Fault Refusal :=
  .next { s with mls := { s.mls with nextCode := if timeCodeGood bytes then some (beNat (slice 2 8 bytes)) else none } }

/-- The bus is lost after 3 ms without a valid pulse, or on PLL unlock (R214). -/
def execBusLoss (pllUnlocked : Bool) (s : State) : Host.Outcome State Fault Refusal :=
  let silent := match s.mls.lastPulse with | some t => s.elapsed t 3000000 | none => true
  if s.mls.busPresent && (pllUnlocked || silent) then
    let s := { s with mls := { s.mls with busPresent := false, goodPulses := 0,
                                          pllLocked := s.mls.pllLocked && !pllUnlocked } }
    .next s.discipline
  else .next s

/-- A PTP message feeds master selection and the servo; management messages are ignored (R216). -/
def execPtpMessage (m : PtpMsg) (s : State) : Host.Outcome State Fault Refusal :=
  match m with
  | .announce port domain transport vlan master interval better =>
    if !s.ptpMatches port domain transport vlan then .next s
    else
      let same := (s.mls.ptpMaster.map fun p => decide (p.1 = master && p.2.1 = port)).getD false
      if same then
        .next { s with mls := { s.mls with ptpMaster := some (master, port, interval), lastAnnounce := some s.up } }
      else if s.mls.ptpMaster.isNone || better then
        let s := s.dropPtp
        let s := { s with mls := { s.mls with
          ptpMaster := some (master, port, interval), lastAnnounce := some s.up, ptpPresent := true } }
        .next s.discipline
      else .next s
  | .event port domain transport vlan master peerDelay offset =>
    let same := (s.mls.ptpMaster.map fun p => decide (p.1 = master && p.2.1 = port)).getD false
    if !s.ptpMatches port domain transport vlan || !same || peerDelay != s.mls.cfg.peerDelay then .next s
    else
      let near := decide (offset.natAbs ≤ 100)
      let s := { s with mls := { s.mls with
        ptpOffset := some offset,
        settledSince := if near then some (s.mls.settledSince.getD s.up) else none } }
      .next s.discipline
  | .management _ => .next s

/-- Three announce intervals without an announce message lose the PTP source (R214). -/
def execPtpAnnounceTimeout (s : State) : Host.Outcome State Fault Refusal :=
  match s.mls.ptpMaster, s.mls.lastAnnounce with
  | some (_, _, interval), some t => if s.elapsed t (3 * interval) then .next s.dropPtp.discipline else .next s
  | _, _ => .next s

/-- The servo has stayed within 100 ns for 10 s (Table 08-1). -/
def execPtpSettled (s : State) : Host.Outcome State Fault Refusal := if s.ptpSettled then .next s.discipline else .next s

/-- HOLDOVER longer than HOLDOVER_LIMIT enters FREE (Table 08-1). -/
def execHoldoverLimit (s : State) : Host.Outcome State Fault Refusal :=
  match s.mls.disc, s.mls.holdoverSince with
  | 3, some t => if t + s.mls.cfg.holdoverLimit * giga < s.up then .next (s.setDisc 4) else .next s
  | _, _ => .next s

/-! ## Encoder frames and tracks -/

/-- The state a track takes with a model: DEGRADED while the residual is above RESID_MAX (R223). -/
def modelState (p : TrackParams) (m : TrackModel) : Nat :=
  if m.meanSq > (p.residMax : Rat) * p.residMax then 2 else 1

/-- A track with an accepted frame: samples, parameters in force from it, the fit, and the state (R220, R221, R223). -/
def Track.accept (t : Track) (f : EncFrame) (now : Nat) : Track :=
  let p := t.nextParams
  let samples := ((f.tSample, f.position) :: t.samples).take 64
  let t := { t with params := p, samples := samples, lastSeq := some f.sequence, lastAccept := some now }
  match fitTrack p samples with
  | some m => { t with model := some m, state := modelState p m }
  | none =>
    if t.state = 3 then { t with state := match t.model with | some m => modelState p m | none => 0 } else t

/-- Entries of a track re-timed at an accepted frame: those WAITING, and those beyond HORIZON (R228). -/
def State.frameRetime (s : State) (n : Nat) : State :=
  (s.mls.ledger.filter fun e => e.trackBound && e.track = n &&
      (e.state = 1 || (e.state = 2 && decide (e.tPred16 > 16 * (s.now + s.horizonNs e))))).foldl State.retime s

/-- One track takes an encoder frame (R219). -/
def State.trackFrame (s : State) (port : Nat) (f : EncFrame) (n : Nat) : State :=
  match Map.get? s.mls.tracks n with
  | none => s
  | some t =>
    if !s.acceptsFrame n t port f then s
    else
      let t' := t.accept f s.up
      let s := s.setTrack n t'
      let s := if t'.state = 2 && t.state ≠ 2 then s.event t.tenant 0x0402 n 1 else s
      s.frameRetime n

/-- An encoder frame is accepted or dropped by each track of its SOURCE_ID, and the models refitted (R219, R221). -/
def execEncoderFrame (port : Nat) (f : EncFrame) (s : State) : Host.Outcome State Fault Refusal :=
  .next ((s.mls.tracks.map (·.1)).foldl (fun s n => s.trackFrame port f n) s)

/-- A track goes STALE: its ARMED entries return to WAITING, and both records are raised (R223, R228, Table 10-25). -/
def State.goStale (s : State) (n : Nat) (t : Track) : State :=
  let s := (s.setTrack n { t with state := 3 }).waitEntries n
  (s.mlsRaise 0x10).event t.tenant 0x0402 n 2

/-- TIMEOUT without an accepted frame makes a track STALE (R223). -/
def execTrackStale (track : Nat) (s : State) : Host.Outcome State Fault Refusal :=
  match Map.get? s.mls.tracks track with
  | some t =>
    match t.lastAccept with
    | some a =>
      if (t.state = 1 || t.state = 2) && s.elapsed a (t.params.timeout * 1000000) then .next (s.goStale track t)
      else .next s
    | none => .next s
  | none => .next s

/-! ## The ledger's own events -/

/-- Module time is on the grid of ticks (R228). -/
def State.onTick (s : State) : Bool := s.now % 10000 = 0

/-- Every 10 µs: expiry, re-timing and load tests, in ledger order (R228). -/
def execMilestoneTick (s : State) : Host.Outcome State Fault Refusal :=
  if !s.onTick then .next s else .next (s.mls.ledger.foldl State.tickEntry s)

/-- A track-bound entry not LOADED by its EXPIRY ends at the tick (R228). -/
def execEntryExpiry (stream sequence : Nat) (s : State) : Host.Outcome State Fault Refusal :=
  match s.entry stream sequence with
  | some e => if s.onTick && s.expired e then .next (s.expire e) else .next s
  | none => .next s

/-- Line `l` is active at a time in 1/16 ns, pulses that have ended by then left out. -/
def State.lineUp (s : State) (l t16 : Nat) : Bool :=
  (s.mls.pulses.any fun p => p.lines.contains l && p.start16 ≤ t16 && t16 ≤ p.end16) || s.mls.setLines.any fun p => p.1 = l

/-- A LINE entry fires on its open lines (R234, R235). -/
def State.fireLines (s : State) (e : LedgerEntry) (st : ActionStream) (ls : List Nat) : State :=
  let t16 := ((e.tPred16 : Int) + st.params.lineOffset).toNat
  let s := { s with mls := { s.mls with
    slots := s.mls.slots.filter fun x => !(x.2.1 = e.stream && x.2.2 = e.sequence) } }
  match st.params.lineMode with
  | 0 =>
    let end16 := t16 + 16 * st.params.pulseWidth
    let hits := (ls.filter fun l => s.mls.pulses.any fun p => p.lines.contains l && t16 < p.end16 && p.start16 < end16).length
    let rises := ls.filter fun l => !s.lineUp l t16
    let p : Pulse := { entry := e, lines := ls, start16 := t16, end16 := end16, cut := false }
    let s := { s with mls := { s.mls with pulses := s.mls.pulses ++ [p] } }
    let s := rises.foldl (fun s l => s.emit (.line l true t16)) s
    if hits = 0 then s else (s.count 0x0009 0 0 0 e.stream 80 hits).mlsRaise 0x80
  | 1 =>
    let rises := ls.filter fun l => !s.lineUp l t16
    let held := (s.mls.setLines.filter fun x => !ls.contains x.1) ++ ls.map fun l => (l, e.stream)
    let s := { s with mls := { s.mls with setLines := held } }
    (rises.foldl (fun s l => s.emit (.line l true t16)) s).endEntry e 0
  | _ =>
    let before := s.activeLines
    let s := { s with mls := { s.mls with setLines := s.mls.setLines.filter fun x => !ls.contains x.1 } }
    (s.emitFalls before t16).endEntry e 0

/-- Module time reaches a LINE entry's earliest match cycle: the gate is sampled once and the edge fired (R235, R240). -/
def execLineMatch (stream sequence : Nat) (s : State) : Host.Outcome State Fault Refusal :=
  match s.entry stream sequence, s.stream stream with
  | some e, some st =>
    let ls := maskLines st.params.lineMask
    if !e.line || s.inPulse e || !s.launchDue e st then .next s
    else if s.launchesNothing then .next (s.endEntry e 7)
    else if s.gateClosed st.params.holdInput then .next (s.endEntry e 3)
    else if (ls.filter s.lineOpen).isEmpty then .next (s.endEntry e 5)
    else .next (s.fireLines e st (ls.filter s.lineOpen))
  | _, _ => .next s

/-- The Action Frame of an entry from a port (R230, R231). -/
def State.actionFrame (s : State) (e : LedgerEntry) (st : ActionStream) (port : Nat) : ActionFrame :=
  let gen := if st.params.encrypt then s.generation st.tenant else 0
  let source := if s.escort.role = 0 then 0 else s.escort.position
  let unlocked := s.mls.disc = 4
  let sLaunch : Int := if e.trackBound then e.when_ else 0
  let iv := s.escort.epoch * 2 ^ 64 + e.sequence * 2 ^ 32 + source
  let key := match s.job st.tenant with
    | some (secret, g) => jobKey secret g labelAF e.stream st.tenant
    | none => 0
  let f : ActionFrame :=
    { port := port, srcMac := Config.macAddress port, destMac := st.params.destMac, vlan := st.params.vlan,
      trackBound := e.trackBound, encrypted := st.params.encrypt, timeUnlocked := unlocked, source := source,
      stream := e.stream, keyGen := gen, epoch := s.escort.epoch, sequence := e.sequence, request := e.request,
      track := e.track, tLaunch16 := e.tPred16, sLaunch := sLaunch, tokens := e.tokens, tag := none }
  if !st.params.encrypt then f
  else
    let f := { f with tokens := Config.encryptTokens key iv e.tokens }
    { f with tag := some (Config.authTag key iv (f.head ++ f.tokenBytes)) }

/-- Another frame due at the same instant on a port of an entry leaves before it: the one with the lower T_PRED, then the lower
SEQUENCE (R232). -/
def State.frameBefore (s : State) (e : LedgerEntry) : Bool :=
  s.mls.ledger.any fun x => !x.line && x.state = 3 && (x.tPred16 : Int) - 16 * x.lead = (e.tPred16 : Int) - 16 * e.lead &&
    (maskPorts x.loadedPorts).any (maskPorts e.loadedPorts).contains &&
    (x.tPred16 < e.tPred16 || (x.tPred16 = e.tPred16 && x.sequence < e.sequence))

/-- At T_PRED − LEAD a FRAME entry leaves as an Action Frame on each port that is up, or ends without launching (R232,
R238, R240, R318, R319). -/
def execFrameRelease (stream sequence : Nat) (s : State) : Host.Outcome State Fault Refusal :=
  match s.entry stream sequence, s.stream stream with
  | some e, some st =>
    if e.line || !s.launchDue e st || s.frameBefore e then .next s
    else if s.launchesNothing then .next (s.endEntry e 7)
    else if s.gateClosed st.params.holdInput then .next (s.endEntry e 3)
    else if s.mls.egressClosed || !s.mayRelease st then .next (s.endEntry e 5)
    else if (s.upPorts e).isEmpty then .next (s.endEntry e 6)
    else
      let s := (s.upPorts e).foldl (fun s p => s.emit (.frame (s.actionFrame e st p))) s
      .next (s.endEntry e 0)
  | _, _ => .next s

/-- PULSE_WIDTH after its edge the pulse ends and its entry's outcome is written (R234). -/
def execPulseEnd (stream sequence : Nat) (s : State) : Host.Outcome State Fault Refusal :=
  match s.mls.pulses.find? fun p => p.entry.stream = stream && p.entry.sequence = sequence with
  | none => .next s
  | some p =>
    if 16 * s.now < p.end16 then .next s
    else
      let before := s.activeLines
      let rest := s.mls.pulses.filter fun q => !(q.entry.stream = stream && q.entry.sequence = sequence)
      let s := { s with mls := { s.mls with pulses := rest } }
      .next ((s.emitFalls before p.end16).endEntry p.entry (if p.cut then 1 else 0))

/-- An Ethernet port goes down or trains up (R367). -/
def execEthernetLinkChange (port : Nat) (up : Bool) (s : State) : Host.Outcome State Fault Refusal :=
  if port > 3 then .next s
  else
    let rest := s.mls.portsUp.filter fun p => p != port
    .next { s with mls := { s.mls with portsUp := if up then port :: rest else rest } }

end Sys2Proof.Machine
end

