-- ==== Sys2Proof/Machine/Contexts.lean ====
section
/-! DEFINITION. Page frames, their counts and quotas, contexts, and the parts of the context commands that act on a context
whose state allows them (R120 to R142, R267, R268, R311). -/

namespace Sys2Proof.Machine

/-! ## Frames (R122, R124, R130, R131) -/

/-- A frame record. -/
def State.frame (s : State) (page : Nat) : Option Frame := Map.get? s.ctxs.frames page

/-- The frame records set. -/
def State.setFrames (s : State) (m : Map Frame) : State := { s with ctxs := { s.ctxs with frames := m } }

/-- A frame record changed. -/
def State.modFrame (s : State) (page : Nat) (f : Frame → Frame) : State :=
  s.setFrames (Map.modify s.ctxs.frames page f)

/-- Frames a tenant holds in a tier, reservations included (R311). -/
def State.held (s : State) (tenant tier : Nat) : Nat :=
  (s.ctxs.frames.filter fun p => p.1 / 2 ^ 30 = tier && p.2.tenant = tenant && p.2.state ≠ 5).length

/-- A tenant's quota in a tier; 0 is no limit (R310). -/
def State.quota (s : State) (tenant tier : Nat) : Nat :=
  match Map.get? s.customs.tenants tenant with
  | some t => if tier = 0 then t.hbmQuota else t.wayQuota
  | none => 0

/-- The lowest free frame of a tier from `page` on that is not retired (log 20). -/
def State.freeFrame (s : State) (page fuel : Nat) : Option Nat :=
  match fuel with
  | 0 => none
  | n + 1 =>
    if !pageOk page then none
    else if Map.has s.ctxs.frames page || s.bankRetired page then s.freeFrame (page + 1) n
    else some page

/-- How many candidates a search for a free frame may need. -/
def State.searchFuel (s : State) (tier : Nat) : Nat :=
  s.ctxs.frames.length + (s.mem.banks.map fun b => bankFrames b.1 b.2.1 b.2.2).sum + tier + 1

/-- A byte range of a memory cleared, with its poison and flips. -/
def State.zeroRange (s : State) (cls unit addr len : Nat) : State :=
  let key := memKey cls unit
  let out := fun a : Nat => !(addr ≤ a && a < addr + len)
  let s := s.setMemory cls unit ((s.memory cls unit).filter fun c => out c.1)
  { s with mem := { s.mem with poison := s.mem.poison.filter fun p => !(p.1 = key) || out p.2,
                               flipped := s.mem.flipped.filter fun f => !(f.1 = key) || out f.2.1 } }

/-- One frame allocated to a tenant in a tier, with count 1, or none without room or quota (R130, R311). -/
def State.allocFrame (s : State) (tenant tier st family : Nat) : Option (Nat × State) :=
  if s.quota tenant tier ≠ 0 && s.held tenant tier ≥ s.quota tenant tier then none
  else
    (s.freeFrame (pageId tier 0) (s.searchFuel tier)).map fun page =>
      (page, s.setFrames (Map.set s.ctxs.frames page
        { refs := 1, tenant := tenant, state := st, family := family, retireDue := false, poisoned := false }))

/-- `n` frames allocated, or none. -/
def State.allocFrames (s : State) (tenant tier st family n : Nat) : Option (List Nat × State) :=
  match n with
  | 0 => some ([], s)
  | k + 1 =>
    match s.allocFrame tenant tier st family with
    | none => none
    | some (p, s) => (s.allocFrames tenant tier st family k).map fun r => (p :: r.1, r.2)

/-- A retired frame recorded in library flash (R268). -/
def State.recordRetired (s : State) (page : Nat) : State :=
  if s.persist.retiredFrames.contains page then s
  else { s with persist := { s.persist with retiredFrames := s.persist.retiredFrames ++ [page] } }

/-- A frame returns to the pool, its contents scrubbed; one marked for retirement retires now (R130, R267). -/
def State.freeNow (s : State) (page : Nat) : State :=
  match s.frame page with
  | none => s
  | some f =>
    let s := s.zeroRange (page / 2 ^ 30) 0 (65536 * (page % 2 ^ 30)) 65536
    if f.retireDue && !s.bankRetired page then
      (s.setFrames (Map.set s.ctxs.frames page
        { refs := 0, tenant := 0, state := 5, family := 0, retireDue := false, poisoned := false })).recordRetired page
    else s.setFrames (Map.erase s.ctxs.frames page)

/-- A reference given up; a pinned frame ignores it (R130, R131). -/
def State.dropRef (s : State) (page : Nat) : State :=
  match s.frame page with
  | none => s
  | some f =>
    if f.state = 2 || f.state = 5 then s
    else if f.refs ≤ 1 then s.freeNow page
    else s.modFrame page fun f => { f with refs := f.refs - 1 }

/-- References given up on a list of frames. -/
def State.dropRefs (s : State) (pages : List Nat) : State := pages.foldl State.dropRef s

/-- A reference taken; past 0xFFFF the frame is pinned (R131). -/
def State.addRef (s : State) (page : Nat) : State :=
  s.modFrame page fun f => if f.refs ≥ 65535 then { f with state := 2 } else { f with refs := f.refs + 1 }

/-- References taken on a list of frames. -/
def State.addRefs (s : State) (pages : List Nat) : State := pages.foldl State.addRef s

/-- The bytes of a frame copied to another, poison with them: the source is read, so its flips are met, and the copy is a data
write of the whole destination (R132, R136, R259, R260, R262). -/
def State.copyFrame (s : State) (src dst : Nat) : State :=
  let sc := src / 2 ^ 30
  let dc := dst / 2 ^ 30
  let sa := 65536 * (src % 2 ^ 30)
  let da := 65536 * (dst % 2 ^ 30)
  let s := s.readRange sc 0 sa 65536 false
  let cells := (s.memory sc 0).filter fun c => sa ≤ c.1 && c.1 < sa + 65536
  let clear := (s.memory dc 0).filter fun c => !(da ≤ c.1 && c.1 < da + 65536)
  let m := cells.foldl (fun m c => Memory.write m (c.1 - sa + da) c.2) clear
  let here := fun (k a : Nat) => k = memKey dc 0 && da ≤ a && a < da + 65536
  let bad := s.mem.poison.filter fun p => p.1 = memKey sc 0 && sa ≤ p.2 && p.2 < sa + 65536
  let moved := (bad.flatMap fun p => (codewordsOf dc (p.2 - sa + da) (codewordBytes sc)).map fun a => (memKey dc 0, a))
  let s := s.setMemory dc 0 m
  let s : State := { s with mem := { s.mem with
    poison := ((s.mem.poison.filter fun p => !here p.1 p.2) ++ moved).dedup,
    flipped := s.mem.flipped.filter fun f => !here f.1 f.2.1 } }
  let s := s.flipMeets dc 0 da 65536 (((s.frame dst).map (·.tenant)).getD 0)
  s.modFrame dst fun f => { f with poisoned := ((s.frame src).map (·.poisoned)).getD false }

/-- A frame's record and bytes move to another frame (R136, R137). -/
def State.moveFrame (s : State) (src dst : Nat) : State :=
  let s := s.copyFrame src dst
  match s.frame src with
  | none => s
  | some f => (s.modFrame dst fun g => { f with retireDue := false, poisoned := g.poisoned }).freeNow src

/-! ## Contexts (R123, R133, R134) -/

/-- A context. -/
def State.ctx (s : State) (n : Nat) : Option Ctx := Map.get? s.ctxs.ctx n

/-- A context set. -/
def State.setCtx (s : State) (n : Nat) (x : Ctx) : State := { s with ctxs := { s.ctxs with ctx := Map.set s.ctxs.ctx n x } }

/-- Positions per frame (R120). -/
def npf (kvHeads headDim : Nat) : Nat :=
  if kvHeads * headDim = 0 then 1024 else 2 ^ Nat.log2 (65536 / (2 * kvHeads * headDim))

/-- Positions per frame of a context's geometry. -/
def geomNpf (g : Option (Nat × Nat × Nat × Nat)) : Nat := match g with | some (_, h, d, _) => npf h d | none => 1024

/-- 4 KiB blocks that page tables and kind maps take from the pool (R123, R248). -/
def State.tableBlocks (s : State) : Nat :=
  (s.ctxs.ctx.map fun p => max 1 (ceilDiv (p.2.pages.map List.length).sum 1024) + ceilDiv p.2.kinds.length 16384).sum

/-- Blocks of the page-table pool and of the frames divided for it (R248). -/
def State.tableCapacity (s : State) : Nat := 1464843 + 16 * s.ctxs.tableFrames.length

/-- Room for one more page-table block, dividing a free HBM frame of the tenant when the pool is empty (R248). -/
def State.tableRoom (s : State) (tenant : Nat) : Option State :=
  if s.tableBlocks < s.tableCapacity then some s
  else (s.allocFrame tenant 0 1 0).map fun r =>
    { r.2 with ctxs := { r.2.ctxs with tableFrames := r.2.ctxs.tableFrames ++ [r.1] } }

/-- The next context ID from the free list: IDs never used first, then freed ones in order (R133). -/
def State.takeCtxId (s : State) : Nat × State :=
  if s.ctxs.nextId ≤ 0xFFFFFF then
    (s.ctxs.nextId, { s with ctxs := { s.ctxs with nextId := s.ctxs.nextId + 1 } })
  else (s.ctxs.freedIds.headD 0, { s with ctxs := { s.ctxs with freedIds := s.ctxs.freedIds.tail } })

/-- The context table is full (R133). -/
def State.ctxFull (s : State) : Bool := s.ctxs.ctx.length ≥ 1048576

/-- One more live context or branch of a family. -/
def State.joinFamily (s : State) (root : Nat) : State :=
  { s with ctxs := { s.ctxs with families := Map.set s.ctxs.families root (((Map.get? s.ctxs.families root).getD 0) + 1) } }

/-- One fewer; with none left, the family's pinned frames are freed and the root's ID is free once closed (R131). -/
def State.leaveFamily (s : State) (root : Nat) : State :=
  let n := (Map.get? s.ctxs.families root).getD 0 - 1
  if n = 0 then
    let pinned := (s.ctxs.frames.filter fun p => p.2.state = 2 && p.2.family = root).map (·.1)
    let s := pinned.foldl State.freeNow s
    let s := { s with ctxs := { s.ctxs with families := Map.erase s.ctxs.families root } }
    if Map.has s.ctxs.ctx root then s
    else { s with ctxs := { s.ctxs with freedIds := s.ctxs.freedIds ++ [root] } }
  else { s with ctxs := { s.ctxs with families := Map.set s.ctxs.families root n } }

/-- A context as OPEN_CONTEXT leaves it: open and empty (R134). -/
def Ctx.fresh (tenant limit root : Nat) : Ctx :=
  { tenant := tenant, state := 0, limit := limit, length := 0, geometry := none, writer := 0, pages := [], kinds := [], family := root,
    ttl := 0, ttlEnd := none, ttlLeft := none, move := none, unmoved := [], flush := none, poisoned := false,
    waiters := [] }

/-- An EXTEND request of a context occupies a slot (R139, R140). -/
def State.extendHeld (s : State) (ctx : Nat) : Bool := s.reqs.slot.any fun r => r.2.context = ctx && r.2.branch.isNone

/-- A defined route names a context (R139). -/
def State.routeNames (s : State) (ctx : Nat) : Bool := s.reqs.routes.any fun r => r.2.params.context = ctx

/-- All frames a context's page table names. -/
def Ctx.allPages (x : Ctx) : List Nat := x.pages.flatten

/-- A command joins those that wait on a context. -/
def State.waitOn (s : State) (n : Nat) (w : Waiter) : State :=
  match s.ctx n with
  | some x => s.setCtx n { x with waiters := x.waiters ++ [w] }
  | none => s

/-- FORK_CONTEXT on an open context with no flush (R135). -/
def State.forkNow (s : State) (c : CmdRef) (position : Nat) (x : Ctx) : State :=
  if position > x.length then s.reply c Status.badParam 0 0
  else if s.ctxFull then s.reply c Status.noPages 0 0
  else
    match s.tableRoom x.tenant with
    | none => s.reply c Status.noPages 0 0
    | some s =>
      let (id, s) := s.takeCtxId
      let pages := x.pages.map fun l => l.take (ceilDiv position (geomNpf x.geometry))
      let child : Ctx := { Ctx.fresh x.tenant x.limit x.family with
        length := position, geometry := x.geometry, writer := x.writer, pages := pages, kinds := x.kinds.take position }
      let s := (s.addRefs pages.flatten).setCtx id child
      let s := (s.joinFamily x.family).clearRecord 0x0004 0 0 id 0
      s.reply c Status.done id 0

/-- PAUSE_CONTEXT begins on an open context (R136). -/
def State.pauseNow (s : State) (c : CmdRef) (n ttl : Nat) (x : Ctx) : State :=
  s.setCtx n { x with state := 1, ttl := ttl, move := some c }

/-- The end of a time to live; 0xFFFF_FFFF never ends. -/
def State.ttlFrom (s : State) (ttl : Nat) : Option Nat := if ttl = 0xFFFFFFFF then none else some (s.up + ttl * giga)
where
  /-- Nanoseconds of a second. -/
  giga : Nat := 1000000000

/-- Frames of a context in a tier. -/
def Ctx.inTier (x : Ctx) (tier : Nat) : List Nat := x.allPages.filter fun p => p / 2 ^ 30 = tier

/-- RESUME_CONTEXT begins on a paused context: the time to live stops (R137). -/
def State.resumeNow (s : State) (c : CmdRef) (n : Nat) (x : Ctx) : State :=
  s.setCtx n { x with state := 3, ttlLeft := x.ttlEnd.map fun t => t - s.up, ttlEnd := none, move := some c }

/-- A context's references given up, its table freed; the count of frames freed at once (R130, R139). -/
def State.releaseCtx (s : State) (x : Ctx) : State × Nat :=
  let before := s.ctxs.frames.length
  let s := s.dropRefs x.allPages
  (s, before - s.ctxs.frames.length)

/-- CLOSE_CONTEXT where R139 allows it. -/
def State.closeNow (s : State) (c : CmdRef) (n : Nat) (x : Ctx) : State :=
  if s.extendHeld n || s.routeNames n then s.reply c Status.notPermitted 0 0
  else
    let before := s.ctxs.frames.length
    let s := (s.releaseCtx x).1
    let s := { s with ctxs := { s.ctxs with ctx := Map.erase s.ctxs.ctx n,
                                            freedIds := if x.family = n then s.ctxs.freedIds else s.ctxs.freedIds ++ [n] } }
    let s := (s.leaveFamily x.family).clearRecord 0x0004 0 0 n 0
    s.reply c Status.done (before - s.ctxs.frames.length) 0

/-- FORK_CONTEXT by the context's state (Table 05-8). -/
def State.doFork (s : State) (c : CmdRef) (n position : Nat) : State :=
  match s.ctx n with
  | none => s.reply c Status.badParam 0 0
  | some x =>
    match x.state with
    | 0 => if x.flush.isSome then s.waitOn n (.fork c position) else s.forkNow c position x
    | 3 => s.waitOn n (.fork c position)
    | 4 => s.reply c Status.contextExpired 0 0
    | _ => s.reply c Status.notPermitted 0 0

/-- PAUSE_CONTEXT by the context's state (Table 05-8). -/
def State.doPause (s : State) (c : CmdRef) (n ttl : Nat) : State :=
  match s.ctx n with
  | none => s.reply c Status.badParam 0 0
  | some x =>
    match x.state with
    | 0 =>
      if s.extendHeld n then s.reply c Status.notPermitted 0 0
      else if x.flush.isSome then s.waitOn n (.pause c ttl)
      else s.pauseNow c n ttl x
    | 1 => s.waitOn n (.pause c ttl)
    | 2 =>
      (s.setCtx n { x with ttl := ttl, ttlEnd := s.ttlFrom ttl }).reply c Status.done 0 (x.inTier 0).length
    | 3 => s.reply c Status.notPermitted 0 0
    | _ => s.reply c Status.contextExpired 0 0

/-- RESUME_CONTEXT by the context's state (Table 05-8). -/
def State.doResume (s : State) (c : CmdRef) (n : Nat) : State :=
  match s.ctx n with
  | none => s.reply c Status.badParam 0 0
  | some x =>
    match x.state with
    | 0 => s.reply c Status.done 0 0
    | 1 => s.waitOn n (.resume c)
    | 2 => s.resumeNow c n x
    | 3 => s.waitOn n (.resume c)
    | _ => s.reply c Status.contextExpired 0 0

/-- CLOSE_CONTEXT by the context's state (Table 05-8). -/
def State.doClose (s : State) (c : CmdRef) (n : Nat) : State :=
  match s.ctx n with
  | none => s.reply c Status.badParam 0 0
  | some x =>
    if x.state = 1 || x.state = 3 then s.waitOn n (.close c)
    else if x.state = 0 && x.flush.isSome then s.waitOn n (.close c)
    else s.closeNow c n x

/-! ## Moves (R136, R137) -/

/-- The page table of a context with one page replaced. -/
def Ctx.replacePage (x : Ctx) (old new : Nat) : Ctx :=
  { x with pages := x.pages.map fun l => l.map fun p => if p = old then new else p }

/-- One frame of a context moved to a tier, or none without room (R136, R137). -/
def State.movePage (s : State) (n page tier : Nat) : Option State :=
  match s.ctx n, s.frame page with
  | some x, some f =>
    (s.allocFrame f.tenant tier f.state f.family).map fun r =>
      (r.2.moveFrame page r.1).setCtx n (x.replacePage page r.1)
  | _, _ => none

/-- Every frame of a list moved where there is room: the state, those moved and those that had no room. -/
def State.movePages (s : State) (n tier : Nat) (pages : List Nat) : State × List Nat × List Nat :=
  pages.foldl (fun a p =>
    match a.1.movePage n p tier with
    | some s => (s, a.2.1 ++ [p], a.2.2)
    | none => (a.1, a.2.1, a.2.2 ++ [p])) (s, [], [])

/-- The pause's move has ended: frames with count 1 are in the waystation where there was room, and the time to live runs
(R136). -/
def State.pauseEnds (s : State) (n : Nat) (x : Ctx) (c : CmdRef) : State :=
  let own := (x.inTier 0).filter fun p => match s.frame p with | some f => f.refs = 1 && f.state ≠ 2 | none => false
  let (s, moved, stuck) := s.movePages n 1 own
  match s.ctx n with
  | none => s
  | some y =>
    (s.setCtx n { y with state := 2, move := none, unmoved := stuck, ttlEnd := s.ttlFrom x.ttl }).reply c Status.done
      moved.length (y.inTier 0).length

/-- The resume's move has ended: every waystation frame is back in HBM, or NO_PAGES and the context stays paused with its
time to live resumed (R137). -/
def State.resumeEnds (s : State) (n : Nat) (x : Ctx) (c : CmdRef) : State :=
  let way := x.inTier 1
  let (t, moved, stuck) := s.movePages n 0 way
  if stuck.isEmpty then
    match t.ctx n with
    | none => t
    | some y => (t.setCtx n { y with state := 0, move := none, unmoved := [], ttlLeft := none }).reply c Status.done
        moved.length 0
  else
    (s.setCtx n { x with state := 2, move := none, ttlLeft := none, ttlEnd := x.ttlLeft.map fun l => s.up + l }).reply c
      Status.noPages 0 0

/-- The waystation mover is barred by a toll fence (Table 09-4). -/
def State.moverFenced (s : State) : Bool := bitOf s.mem.fence 13

/-- A context's time to live has run out: its references and table go, and the ID stays expired (R138). -/
def State.expireCtx (s : State) (n : Nat) (x : Ctx) : State :=
  let s := (s.releaseCtx x).1
  (s.setCtx n { x with state := 4, pages := [], kinds := [], ttlEnd := none, unmoved := [] }).event x.tenant 0x0201 n 0

/-! ## Retirement (R267, R268) -/

/-- Frames of a tier in the record, which holds 65,536 (R268). -/
def State.retirements (s : State) (tier : Nat) : Nat :=
  (s.persist.retiredFrames.filter fun p => p / 2 ^ 30 = tier).length

/-- A RETIRED entry of the log, with the owner of the frame's data (Table 09-18). -/
def State.logRetired (s : State) (page atOnce pending : Nat) : State :=
  s.logAdd 0x08 (page / 2 ^ 30) (errorUnit (page / 2 ^ 30) 0 (65536 * (page % 2 ^ 30)))
    (s.dataOwner (page / 2 ^ 30) 0 (65536 * (page % 2 ^ 30))) false
    (leBytes 4 page ++ leBytes 4 atOnce ++ leBytes 4 pending)

/-- RETIRE_PAGE once started: the retirement is recorded at once, also of a frame in use, which stays retired after a power-on
reset even where its count had not yet fallen to zero (R267, R268). -/
def retirePageRun (page : Nat) (c : CmdRef) (s : State) : State :=
  if !pageOk page then s.reply c Status.badParam 0 0
  else if s.frameRetired page then s.reply c Status.done 0 0
  else if ((s.frame page).map (·.retireDue)).getD false then s.reply c Status.done 0 1
  else if s.retirements (page / 2 ^ 30) ≥ 65536 then s.reply c Status.noPages 0 0
  else
    match s.frame page with
    | none =>
      let s := (s.setFrames (Map.set s.ctxs.frames page
        { refs := 0, tenant := 0, state := 5, family := 0, retireDue := false, poisoned := false })).recordRetired page
      (s.logRetired page 1 0).reply c Status.done 1 0
    | some _ =>
      (((s.modFrame page fun f => { f with retireDue := true }).recordRetired page).logRetired page 0 1).reply c
        Status.done 0 1

/-- RETIRE_PAGE with BANK once started: free frames of the bank retire at once, those in use when their count falls to zero
(R267, R268). -/
def retirePageBankRun (page : Nat) (c : CmdRef) (s : State) : State :=
  let tier := page / 2 ^ 30
  let (group, bank) := granulePlace tier (16 * (page % 2 ^ 30))
  if !pageOk page then s.reply c Status.badParam 0 0
  else if s.mem.banks.contains (tier, group, bank) then s.reply c Status.done 0 0
  else if (s.mem.banks.filter fun b => b.1 = tier).length ≥ 32 then s.reply c Status.noPages 0 0
  else
    let here := s.ctxs.frames.filter fun p => frameInBank p.1 tier group bank
    let used := here.filter fun p => p.2.state ≠ 5
    let atOnce := bankFrames tier group bank - here.length - s.retiredBefore tier group bank
    let mark := fun (p : Nat × Frame) => if frameInBank p.1 tier group bank && p.2.state ≠ 5 then
        (p.1, { p.2 with retireDue := true }) else p
    let s := s.setFrames (s.ctxs.frames.map mark)
    let banks := s.mem.banks ++ [(tier, group, bank)]
    let s := { s with mem := { s.mem with banks := banks }, persist := { s.persist with retiredBanks := banks } }
    (s.logRetired page atOnce used.length).reply c Status.done atOnce used.length

/-- RETIRE_PAGE (R267). -/
def execRetirePage (h : Hdr) (page : Nat) (s : State) : Host.Outcome State Fault Refusal :=
  .next (s.cmd 0x0503 h (retirePageRun page))

/-- RETIRE_PAGE with BANK set (R267). -/
def execRetirePageBank (h : Hdr) (page : Nat) (s : State) : Host.Outcome State Fault Refusal :=
  .next (s.cmd 0x0503 h (retirePageBankRun page))

/-! ## Context commands that need no request (R134 to R139) -/

/-- A command on a context of another function, or of no context (R133). -/
def State.onCtx (s : State) (h : Hdr) (n : Nat) (c : CmdRef) (k : State → State) : State :=
  match s.ctx n with
  | none => s.reply c Status.badParam 0 0
  | some x => if x.tenant ≠ h.fn then s.reply c Status.notPermitted 0 0 else k s

/-- OPEN_CONTEXT once started (R133, R134). -/
def openContextRun (h : Hdr) (limit : Nat) (c : CmdRef) (s : State) : State :=
  if limit > 65536 then s.reply c Status.badParam 0 0
  else if s.ctxFull then s.reply c Status.noPages 0 0
  else
    match s.tableRoom h.fn with
    | none => s.reply c Status.noPages 0 0
    | some s =>
      let (id, s) := s.takeCtxId
      let s := (s.setCtx id (Ctx.fresh h.fn (if limit = 0 then 65536 else limit) id)).joinFamily id
      (s.clearRecord 0x0004 0 0 id 0).reply c Status.done id 0

/-- OPEN_CONTEXT (R134). -/
def execOpenContext (h : Hdr) (limit : Nat) (s : State) : Host.Outcome State Fault Refusal :=
  .next (s.cmd 0x0201 h (openContextRun h limit))

/-- FORK_CONTEXT (R135). -/
def execForkContext (h : Hdr) (parent position : Nat) (s : State) : Host.Outcome State Fault Refusal :=
  .next (s.cmd 0x0207 h fun c s => s.onCtx h parent c fun s => s.doFork c parent position)

/-- PAUSE_CONTEXT (R136). -/
def execPauseContext (h : Hdr) (context ttl : Nat) (s : State) : Host.Outcome State Fault Refusal :=
  .next (s.cmd 0x0204 h fun c s => s.onCtx h context c fun s =>
    if ttl = 0 then s.reply c Status.badParam 0 0 else s.doPause c context ttl)

/-- RESUME_CONTEXT (R137). -/
def execResumeContext (h : Hdr) (context : Nat) (s : State) : Host.Outcome State Fault Refusal :=
  .next (s.cmd 0x0205 h fun c s => s.onCtx h context c fun s => s.doResume c context)

/-- CLOSE_CONTEXT (R139). -/
def execCloseContext (h : Hdr) (context : Nat) (s : State) : Host.Outcome State Fault Refusal :=
  .next (s.cmd 0x0206 h fun c s => s.onCtx h context c fun s => s.doClose c context)

/-- A shared frame of a paused context whose count has fallen to 1 moves to the waystation, where there is room (R136). -/
def execPausedFrameMove (context page : Nat) (s : State) : Host.Outcome State Fault Refusal :=
  match s.ctx context, s.frame page with
  | some x, some f =>
    if x.state ≠ 2 || s.moverFenced || !(x.inTier 0).contains page || f.refs ≠ 1 || f.state = 2 ||
        x.unmoved.contains page then .next s
    else
      match s.movePage context page 1 with
      | some s => .next s
      | none => .next (s.setCtx context { x with unmoved := x.unmoved ++ [page] })
  | _, _ => .next s

/-- The once-a-second check finds a paused context's time to live ended (R138). -/
def execContextExpired (context : Nat) (s : State) : Host.Outcome State Fault Refusal :=
  match s.ctx context with
  | some x =>
    match x.state, x.ttlEnd with
    | 2, some t => if t ≤ s.up then .next (s.expireCtx context x) else .next s
    | _, _ => .next s
  | none => .next s

end Sys2Proof.Machine
end

