-- ==== Sys2Proof/Machine/Vector.lean ====
section
/-! DEFINITION. The vector unit and the score unit: the functions of Table 02-9 within their error bounds, sums over a vector,
requantisation, and dot products in FP8 and bfloat16 (R47, R53, R54, R55). -/

namespace Sys2Proof.Machine

/-! ## Results with their counts -/

/-- The counts of further operations joined to a result. -/
def Fp.plus (a : Fp) (sat flu : Nat) : Fp := { a with sat := a.sat + sat, flu := a.flu + flu }

/-- A result followed by an operation on it: the counts of both. -/
def Fp.thenDo (a : Fp) (f : F32 → Fp) : Fp := (f a.v).plus a.sat a.flu

/-- Saturations of a list of results. -/
def satSum (l : List Fp) : Nat := (l.map (·.sat)).sum

/-- Flushes of a list of results. -/
def fluSum (l : List Fp) : Nat := (l.map (·.flu)).sum

/-! ## Real functions to 256 bits -/

/-- Fraction bits of the approximations below. -/
def realBits : Nat := 256

/-- A rational cut to 256 fraction bits. -/
def cutReal (x : Rat) : Rat := mkRat (x * (2 ^ realBits : Nat)).floor (2 ^ realBits)

/-- ln 2. -/
def ln2 : Rat := mkRat 80260960185991308862233904206310070533990667611589946606122867505419956976171 (2 ^ 256)

/-- π. -/
def piReal : Rat := mkRat 363771576891766324280234942777729862653393377328392429958772151117938894466185 (2 ^ 256)

/-- √(2/π), of GELU's tanh form. -/
def sqrt2OverPi : Rat := mkRat 92388720265562225100004042351473451001048276763068025688572742865826802514525 (2 ^ 256)

/-- The sum of a power series from its first term: each next term is the last one times `step i`. -/
def seriesSum (step : Nat → Rat) (term : Rat) (i fuel : Nat) : Rat :=
  match fuel with
  | 0 => 0
  | k + 1 => term + seriesSum step (cutReal (term * step i)) (i + 1) k

/-- An argument held to −200 to 200, beyond which every exponential saturates or is flushed. -/
def holdArg (x : Rat) : Rat := max (-200) (min 200 x)

/-- e^x. -/
def expReal (x : Rat) : Rat :=
  let x := holdArg x
  let k := (x / ln2).floor
  let r := x - k * ln2
  let s := seriesSum (fun i => r / ((i + 1 : Nat) : Rat)) 1 0 60
  if k ≥ 0 then s * (2 ^ k.toNat : Nat) else s / (2 ^ (-k).toNat : Nat)

/-- 1 / (1 + e^−x). -/
def sigmoidReal (x : Rat) : Rat := 1 / (1 + expReal (-x))

/-- x / (1 + e^−x). -/
def siluReal (x : Rat) : Rat := x * sigmoidReal x

/-- tanh x; near 0 by its series. -/
def tanhReal (x : Rat) : Rat :=
  if x.abs < mkRat 1 (2 ^ 40) then x - x * x * x / 3 else 1 - 2 / (expReal (2 * x) + 1)

/-- GELU in its tanh form, x · (1 + tanh(√(2/π) (x + 0.044715 x³))) / 2. -/
def geluReal (x : Rat) : Rat :=
  let y := max (-100) (min 100 x)
  x * sigmoidReal (2 * sqrt2OverPi * (y + mkRat 44715 1000000 * y * y * y))

/-- sin of an argument brought to −π to π. -/
def sinReal (x : Rat) : Rat :=
  let k := ((x / (2 * piReal)) + mkRat 1 2).floor
  let r := x - 2 * k * piReal
  seriesSum (fun i => -(r * r) / (((2 * i + 2) * (2 * i + 3) : Nat) : Rat)) r 0 60

/-- cos of an argument brought to −π to π. -/
def cosReal (x : Rat) : Rat :=
  let k := ((x / (2 * piReal)) + mkRat 1 2).floor
  let r := x - 2 * k * piReal
  seriesSum (fun i => -(r * r) / (((2 * i + 1) * (2 * i + 2) : Nat) : Rat)) 1 0 60

/-- 1 / √x of a positive value. -/
def rsqrtReal (x : Rat) : Rat := mkRat (Nat.sqrt ((1 / x) * (2 ^ 800 : Nat)).floor.toNat) (2 ^ 400)

/-! ## Rounding with a bounded error (R47, R53; log 9) -/

/-- A rational as sign, mantissa of at least 64 bits with a sticky bit, and exponent. -/
def Dyadic.ofRat (x : Rat) : Dyadic :=
  let s := 64 + bitLength x.den
  let n := x.num.natAbs * 2 ^ s
  { neg := x.num < 0, m := 2 * (n / x.den) + (if n % x.den = 0 then 0 else 1), e := -(s : Int) - 1 }

/-- The unit in the last place of a value in the normal range. -/
def ulpOf (x : Rat) : Rat :=
  let d := Dyadic.ofRat x
  let e := max (-149) (d.e + (bitLength d.m : Int) - 24)
  if e ≥ 0 then ((2 ^ e.toNat : Nat) : Rat) else mkRat 1 (2 ^ (-e).toNat)

/-- A result within `k` ulp of the exact value `x`: the value rounded to nearest, moved by a free number of ulps where that
keeps it within the bound (R53; log 9); saturation and flush as in R47. -/
def nearUlps (k : Nat) (x : Rat) (err : Int) : Fp :=
  let r := round32 (Dyadic.ofRat x)
  if F32.isZero r.v || r.sat + r.flu > 0 then r
  else
    let c : F32 := BitVec.ofInt 32 ((r.v.toNat : Int) + clampInt err (-(k : Int)) k)
    if !F32.isZero c && F32.exp c < 255 && F32.neg c = F32.neg r.v && (F32.rat c - x).abs ≤ k * ulpOf x then Fp.pure c
    else r

/-- The functions of the vector unit with a bounded error (Table 02-9). -/
inductive VecFn where
  | recip | rsqrt | exp | sigmoid | silu | tanh | gelu | sin | cos
  deriving DecidableEq, Repr

/-- The number under which `Config.vectorError` knows a function. -/
def VecFn.code (f : VecFn) : Nat :=
  match f with
  | .recip => 0 | .rsqrt => 1 | .exp => 2 | .sigmoid => 3 | .silu => 4 | .tanh => 5 | .gelu => 6 | .sin => 7 | .cos => 8

/-- The error bound of a function in ulp (Table 02-9). -/
def VecFn.bound (f : VecFn) : Nat := match f with | .recip => 1 | .rsqrt => 1 | _ => 2

/-- A function's exact value at a finite argument other than a pole. -/
def VecFn.real (f : VecFn) (x : Rat) : Rat :=
  match f with
  | .recip => 1 / x
  | .rsqrt => rsqrtReal x
  | .exp => expReal x
  | .sigmoid => sigmoidReal x
  | .silu => siluReal x
  | .tanh => tanhReal x
  | .gelu => geluReal x
  | .sin => sinReal x
  | .cos => cosReal x

/-- A function at ±∞ and at its poles as IEEE 754 has it; none where it has an ordinary value. A reciprocal square root of a
negative value and sin and cos of an infinity are NaN, and so is a finite angle beyond ±2^20, for which the spec states no
result: its value is free (Table 02-9; log 9). -/
def VecFn.special (f : VecFn) (x : F32) : Option F32 :=
  let inf := fun neg : Bool => F32.mk neg 255 0
  match f with
  | .recip =>
    if F32.isInf x then some (F32.mk (F32.neg x) 0 0) else if F32.isZero x then some (inf (F32.neg x)) else none
  | .rsqrt =>
    if F32.isZero x then some (inf (F32.neg x))
    else if F32.neg x then some F32.qnan
    else if F32.isInf x then some F32.zero
    else none
  | .exp => if F32.isInf x then some (if F32.neg x then F32.zero else x) else none
  | .sigmoid => if F32.isInf x then some (if F32.neg x then F32.zero else F32.one) else none
  | .silu => if F32.isInf x then some (if F32.neg x then F32.mk true 0 0 else x) else none
  | .gelu => if F32.isInf x then some (if F32.neg x then F32.mk true 0 0 else x) else none
  | .tanh => if F32.isInf x then some (F32.mk (F32.neg x) 127 0) else none
  | .sin => if F32.isInf x then some F32.qnan else if (F32.rat x).abs > 2 ^ 20 then some (Config.angle 7 x) else none
  | .cos => if F32.isInf x then some F32.qnan else if (F32.rat x).abs > 2 ^ 20 then some (Config.angle 8 x) else none

/-- A function of the vector unit at a value: NaN propagates, and the error within the bound is free but the same for the same
operand (R47, R53, R55). An exact zero keeps its operand's sign. -/
def VecFn.eval (f : VecFn) (x : F32) : Fp :=
  if F32.isNaN x then Fp.pure (F32.quiet x)
  else
    match VecFn.special f x with
    | some v => Fp.pure v
    | none =>
      let y := VecFn.real f (F32.rat x)
      if y = 0 then Fp.pure (F32.mk (F32.neg x) 0 0) else nearUlps (VecFn.bound f) y (Config.vectorError (VecFn.code f) x)

/-- Fused multiply-add: x · y + z rounded once (Table 02-9). -/
def F32.fma (x y z : F32) : Fp :=
  if F32.isNaN x then Fp.pure (F32.quiet x)
  else if F32.isNaN y then Fp.pure (F32.quiet y)
  else if F32.isNaN z then Fp.pure (F32.quiet z)
  else if F32.isInf x || F32.isInf y || F32.isInf z then
    (F32.mul x y).thenDo fun p => F32.add p z
  else round32 (((F32.dyadic x).mul (F32.dyadic y)).add (F32.dyadic z))

/-! ## Sums over a vector (Table 02-9) -/

/-- Neighbours added. -/
def addPairs (l : List Fp) : List Fp :=
  match l with
  | a :: b :: r => (F32.add a.v b.v).plus (a.sat + b.sat) (a.flu + b.flu) :: addPairs r
  | l => l

/-- The pairwise sum of a block. -/
def pairSum (fuel : Nat) (l : List Fp) : Fp :=
  match fuel with
  | 0 => l.headD (Fp.pure F32.zero)
  | n + 1 => pairSum n (addPairs l)

/-- Blocks of `2^k` values summed pairwise, and the sums of the blocks added in ascending order from +0. -/
def blockSum (k : Nat) (l : List F32) : Fp :=
  ((List.range (ceilDiv l.length (2 ^ k))).map fun i =>
      pairSum k ((slice (2 ^ k * i) (2 ^ k) l).map Fp.pure)).foldl
    (fun a x => (F32.add a.v x.v).plus (a.sat + x.sat) (a.flu + x.flu)) (Fp.pure F32.zero)

/-- The vector unit's sum over a vector: a pairwise tree of 512 lanes, and then what each pass of the 512 lanes gave, in
ascending order (Table 02-9; DEDUCED log 105). -/
def vectorSum (l : List F32) : Fp := blockSum 9 l

/-! ## Requantisation with its counts (R54) -/

/-- A vector as bfloat16, little-endian, with the results saturated and flushed. -/
def bfloatRow (xs : List F32) : List Byte × Nat × Nat :=
  let rs := xs.map bfloat
  (rs.flatMap fun r => leBytes 2 (r.v.toNat / 65536), satSum rs, fluSum rs)

/-- A list cut into pieces of `n`, at most `fuel` of them. -/
def chunks {α : Type} (n fuel : Nat) (l : List α) : List (List α) :=
  match fuel with
  | 0 => []
  | k + 1 => if l.isEmpty then [] else l.take n :: chunks n k (l.drop n)

/-- The group record of eight blocks of values (R38, R54). -/
def recordOf (xs : List F32) : List Byte :=
  let blocks := (chunks 32 8 xs).map requantBlock
  groupRecord (blocks.flatMap (·.2)) (blocks.map (·.1))

/-- An MXINT8 vector as consecutive group records (R38, R54). -/
def recordsOf (xs : List F32) : List Byte := (chunks 256 xs.length xs).flatMap recordOf

/-! ## The score unit (R54) -/

/-- The value of an E5M2 byte as binary32. -/
def e5m2Float (b : Nat) : F32 :=
  let neg := decide (b % 256 ≥ 128)
  let e := b / 4 % 32
  let f := b % 4
  if e = 31 then (if f = 0 then F32.mk neg 255 0 else F32.qnan)
  else if e = 0 then
    if f = 0 then F32.mk neg 0 0 else (round32 { neg := neg, m := f, e := -16 }).v
  else F32.mk neg (e + 112) (f * 2 ^ 21)

/-- An operand of the score unit as binary32. -/
def ScoreFormat.value (f : ScoreFormat) (x : Nat) : F32 :=
  match f with
  | .e4m3 => e4m3Float x
  | .e5m2 => e5m2Float x
  | .bfloat16 => BitVec.ofNat 32 (x % 65536 * 65536)

/-- The score unit's multiply and accumulate of two operand rows in ascending order, in FP32 (R54, R55). -/
def ScoreFormat.dot (f : ScoreFormat) (x y : List Nat) : Fp :=
  (x.zip y).foldl (fun (a : Fp) p =>
    let m := F32.mul (ScoreFormat.value f p.1) (ScoreFormat.value f p.2)
    (a.addTo m.v).plus m.sat m.flu) (Fp.pure F32.zero)

end Sys2Proof.Machine
end

