-- ==== Sys2Proof/Machine/Attention.lean ====
section
/-! DEFINITION. Attention: operand conversion, visibility, the three passes over group-rows held in the score store or in spill
frames, and the key and value bytes of tail and page frames (R107 to R121). -/

namespace Sys2Proof.Machine

/-! ## Slices and cores -/

/-- The slices of a bay, ascending: stage i + 1 holds the i-th (R97). -/
def Bay.slices (b : Bay) : List Nat := (List.range 8).filter fun i => bitOf b.sliceMask i

/-- The core that carries a slice and is in service. -/
def State.sliceCore (s : State) (slice : Nat) : Option Nat :=
  (s.cores.core.find? fun p => p.2.slice = some slice && p.2.role = 0).map (·.1)

/-- The stage, from 0, of a bale's layer (R24). -/
def Bale.stageOf (b : Bale) (layer : Nat) : Nat := ((b.segments.find? fun g => g.layer = layer).map (·.stage)).getD 0

/-- The core of a stage of a bay. -/
def State.stageCore (s : State) (b : Bay) (stage : Nat) : Nat := (s.sliceCore (b.slices.getD stage 0)).getD 0

/-- FP32 saturations and flushes of a core counted (R47, Table 02-11). -/
def State.countFp (s : State) (core sat flu : Nat) : State :=
  (s.count 0x0001 core 0 0 0 40 sat).count 0x0001 core 0 0 0 48 flu

/-! ## Operands (R108, R109) -/

/-- 448 in binary32. -/
def f448 : F32 := 0x43E00000

/-- The magnitude of a value. -/
def F32.abs (x : F32) : F32 := x &&& 0x7FFFFFFF

/-- The scale σ_q of one query head (R108). -/
def queryScale (q : List F32) : Fp :=
  if q.any F32.isNaN then Fp.pure F32.one
  else
    let a := q.foldl (fun m x => F32.max m (F32.abs x)) F32.zero
    if F32.isZero a then Fp.pure F32.one else F32.div a f448

/-- The E4M3 elements of one query head (R108). -/
def queryElements (q : List F32) : List Nat :=
  if q.any F32.isNaN then q.map fun _ => 127
  else if q.all F32.isZero then q.map fun _ => 0
  else q.map fun x => (e4m3Quot x (queryScale q).v).1

/-- K or V elements of one position to E4M3 under their static scale, with the number that saturated (R109). -/
def kvConvert (sigma : F32) (xs : List F32) : List Byte × Nat :=
  let rs := xs.map fun x => e4m3Quot x sigma
  (rs.map fun r => BitVec.ofNat 8 r.1, (rs.filter fun r => r.2).length)

/-- Whether a query at position `p` sees the key at `k` of a kind (R112). -/
def visible (p k w mask kind : Nat) : Bool := k ≤ p && (w = 0 || p - k < w) && bitOf mask kind

/-- The attention constants of a layer of a bale (R107, R112). -/
def Bale.params (b : Bale) (layer : Nat) : Option LayerParams := b.vectorParams.find? fun p => p.layer = layer

/-- G, the query heads that share one KV head of a segment's layer (R118, R120). -/
def Bale.groupHeads (b : Bale) (g : SegCost) : Nat := g.queryHeads / max 1 b.kvHeads

/-- KV heads that a segment carries: all of the layer's, or those of its h query heads (R24). -/
def Bale.segHeads (b : Bale) (g : SegCost) : Nat :=
  if g.heads = 0 then b.kvHeads else g.heads / max 1 (Bale.groupHeads b g)

/-- The first KV head of a stage's segment of a layer: those of the layer's earlier segments lie before it (R24). -/
def Bale.kvFirst (b : Bale) (stage layer : Nat) : Nat :=
  ((b.segments.filter fun g => g.layer = layer && g.stage < stage).map (Bale.segHeads b)).sum

/-! ## The passes (R115 to R117) -/

/-- One score: FP32 products summed, scaled and rounded to bfloat16 (R110, R115). -/
def scoreOf (f : ScoreFormat) (q k : List Nat) (sq sk c : F32) : Fp :=
  let scale := ((Fp.pure sq).mulTo sk).mulTo c
  (((ScoreFormat.dot f q k).mulTo scale.v).plus scale.sat scale.flu).thenDo bfloat

/-- −∞ as a score, 0xFF80 in bfloat16. -/
def negInf : F32 := 0xFF800000

/-- e of a score less the row maximum, at most 1 (R116). -/
def expUnit (x mx : F32) : Fp :=
  let e := (F32.sub x mx).thenDo (VecFn.eval .exp)
  { e with v := F32.min F32.one e.v }

/-- What pass 2 gives for one row: the E4M3 probabilities and the row scale ρ, its saturations and flushes, and whether the row is
fully masked. -/
structure Softmax where
  probs : List Nat
  rho : F32
  sat : Nat
  flu : Nat
  masked : Bool
  deriving DecidableEq, Repr

/-- Pass 2 of one row: a sum pairwise within blocks of 2,048 keys; a row with a NaN gives NaN, a fully masked one zeros (R114,
R116). -/
def rowSoftmax (scores : List F32) : Softmax :=
  let mx := scores.foldl F32.max negInf
  if scores.any F32.isNaN then
    { probs := scores.map fun _ => 127, rho := F32.qnan, sat := 0, flu := 0, masked := false }
  else if mx = negInf then { probs := scores.map fun _ => 0, rho := F32.zero, sat := 0, flu := 0, masked := true }
  else
    let e := scores.map fun x => expUnit x mx
    let p := e.map fun x => F32.mul f448 x.v
    let l := blockSum 11 (e.map (·.v))
    let rho := (F32.mul f448 l.v).thenDo (VecFn.eval .recip)
    { probs := p.map fun x => (e4m3Quot x.v F32.one).1, rho := rho.v, sat := satSum (l :: rho :: e ++ p),
      flu := fluSum (l :: rho :: e ++ p), masked := false }

/-- Pass 3 of one query head: the sum over the visible keys in ascending order, times ρ × σ_v once (R110, R117; log 21). -/
def headOutput (f : ScoreFormat) (p : List Nat) (rho sigmaV : F32) (values : List (List Nat)) (d : Nat) : List Fp :=
  let scale := F32.mul rho sigmaV
  (List.range d).map fun i =>
    let sum := (p.zip values).foldl (fun (a : Fp) x =>
      let m := F32.mul (e4m3Float x.1) (ScoreFormat.value f (x.2.getD i 0))
      (a.addTo m.v).plus m.sat m.flu) (Fp.pure F32.zero)
    (sum.mulTo scale.v).plus scale.sat scale.flu

/-! ## Keys and values in frames (R120, R121) -/

/-- Memory class and class address of a byte of a page frame. -/
def pageAddr (page off : Nat) : Nat × Nat := (page / 2 ^ 30, 65536 * (page % 2 ^ 30) + off)

/-- `n` bytes of a page frame. -/
def State.pageRead (s : State) (page off n : Nat) : List Byte :=
  let a := pageAddr page off
  (s.memory a.1 0).readBytes a.2 n

/-- Bytes written to a page frame by its tenant. -/
def State.pageWrite (s : State) (page off : Nat) (bytes : List Byte) : State :=
  let a := pageAddr page off
  s.memWrite a.1 0 a.2 bytes (((s.frame page).map (·.tenant)).getD 0)

/-- Bytes per position per layer (Table 05-3). -/
def positionBytes (g : Nat × Nat × Nat × Nat) : Nat := 2 * g.2.1 * g.2.2.1

/-- Tail frame and offset of position `j` of a step at a layer (log 21). -/
def tailPlace (g : Nat × Nat × Nat × Nat) (tails : List Nat) (j layer : Nat) : Nat × Nat :=
  let o := (j * g.2.2.2 + layer) * positionBytes g
  (tails.getD (o / 65536) 0xFFFFFFFF, o % 65536)

/-- The K and V bytes of position `j` of a step at a layer; a position that runs into the next tail frame goes on there. -/
def State.tailRead (s : State) (g : Nat × Nat × Nat × Nat) (tails : List Nat) (j layer : Nat) : List Byte :=
  let (page, off) := tailPlace g tails j layer
  let b := positionBytes g
  let first := min b (65536 - off)
  let next := tails.getD (((j * g.2.2.2 + layer) * b) / 65536 + 1) 0xFFFFFFFF
  s.pageRead page off first ++ s.pageRead next 0 (b - first)

/-- Bytes of position `j` of a step at a layer stored in its tail frames, from byte `sub` of its K and V bytes on. -/
def State.tailWrite (s : State) (g : Nat × Nat × Nat × Nat) (tails : List Nat) (j layer sub : Nat) (bytes : List Byte) :
    State :=
  let o := (j * g.2.2.2 + layer) * positionBytes g + sub
  let first := min bytes.length (65536 - o % 65536)
  let s := s.pageWrite (tails.getD (o / 65536) 0xFFFFFFFF) (o % 65536) (bytes.take first)
  if first < bytes.length then s.pageWrite (tails.getD (o / 65536 + 1) 0xFFFFFFFF) 0 (bytes.drop first) else s

/-- The K and V bytes of a committed position at a layer, from its page frame (R121). -/
def State.committedRead (s : State) (g : Nat × Nat × Nat × Nat) (pages : List (List Nat)) (k layer : Nat) : List Byte :=
  let n := npf g.2.1 g.2.2.1
  let page := (pages.getD layer []).getD (k / n) 0xFFFFFFFF
  let row := g.2.1 * g.2.2.1
  s.pageRead page (k % n * row) row ++ s.pageRead page (32768 + k % n * row) row

/-- The operands of KV head `h` in a position's K and V bytes. -/
def headBytes (g : Nat × Nat × Nat × Nat) (bytes : List Byte) (h : Nat) (isV : Bool) : List Nat :=
  (slice ((if isV then g.2.1 * g.2.2.1 else 0) + h * g.2.2.1) g.2.2.1 bytes).map (·.toNat)

/-! ## Group-rows (R115 to R119) -/

/-- A group-row: the query heads of one position that share a KV head, over the keys up to its length-bucket bound, on the core
of its stage. `keys` and `values` are the visible ones, ascending. -/
structure GroupRow where
  core : Nat
  tenant : Nat
  request : Option Nat
  context : Nat
  format : ScoreFormat
  bound : Nat
  sigmaK : F32
  sigmaV : F32
  factor : F32
  queries : List (Fp × List Nat)
  keys : List (Nat × List Nat)
  values : List (List Nat)
  width : Nat
  deriving DecidableEq, Repr

/-- Bytes of one half of the score store, and the most that the group-rows of a tile take (R118). -/
def tileLimit : Nat := 16777216

/-- Score bytes of a group-row (R118). -/
def rowBytes (heads bound : Nat) : Nat := heads * bound * 2

/-- Where a group-row's scores lie: at an address of the core's score store, or in spill frames (R118, R119). -/
structure RowPlace where
  addr : Nat
  frames : List Nat
  deriving DecidableEq, Repr

/-- The pieces of a byte range in a run of frames: frame, offset in it, offset in the range, and length. -/
def framePieces (frames : List Nat) (off len : Nat) : List (Nat × Nat × Nat × Nat) :=
  (frames.zipIdx.map fun p =>
    let lo := max off (65536 * p.2)
    (p.1, lo - 65536 * p.2, lo - off, min (off + len) (65536 * (p.2 + 1)) - lo)).filter fun p => p.2.2.2 > 0

/-- Bytes stored at an offset of a group-row's place. -/
def State.rowWrite (s : State) (x : GroupRow) (p : RowPlace) (off : Nat) (bytes : List Byte) : State :=
  if p.frames.isEmpty then s.memWrite 2 x.core (p.addr + off) bytes x.tenant
  else (framePieces p.frames off bytes.length).foldl (fun s q => s.pageWrite q.1 q.2.1 (slice q.2.2.1 q.2.2.2 bytes)) s

/-- The first poisoned codeword of a range. -/
def State.poisonIn (s : State) (cls unit addr len : Nat) : Option Nat :=
  (s.mem.poison.find? fun p => p.1 = memKey cls unit && p.2 + codewordBytes cls > addr && p.2 < addr + len).map (·.2)

/-- A request of an ID consumes poison: the entry is written, and the request ends POISONED at its commit (R261, Table 09-11). -/
def State.tagRequest (s : State) (request : Option Nat) (context cls unit addr row tenant : Nat) : State :=
  let s := s.poisonConsumed cls unit addr (request.getD 0xFFFFFFFF) context row tenant
  match request with
  | none => s
  | some id => { s with reqs := { s.reqs with slot := s.reqs.slot.map fun p =>
      if p.2.id = id then (p.1, { p.2 with poisoned := true }) else p } }

/-- A byte range of a group-row's scores is read: flips are met, and poison tags its request (R259 to R261, Table 09-11). -/
def State.rowMeets (s : State) (x : GroupRow) (cls unit addr len : Nat) : State :=
  let s := s.readRange cls unit addr len false
  match s.poisonIn cls unit addr len with
  | some a => s.tagRequest x.request x.context cls unit a 2 x.tenant
  | none => s

/-- Bytes read at an offset of a group-row's place. -/
def State.rowRead (s : State) (x : GroupRow) (p : RowPlace) (off len : Nat) : List Byte × State :=
  if p.frames.isEmpty then
    let s := s.rowMeets x 2 x.core (p.addr + off) len
    ((s.memory 2 x.core).readBytes (p.addr + off) len, s)
  else
    let pieces := framePieces p.frames off len
    let s := pieces.foldl (fun s q => s.rowMeets x (q.1 / 2 ^ 30) 0 (pageAddr q.1 q.2.1).2 q.2.2.2) s
    (pieces.flatMap fun q => s.pageRead q.1 q.2.1 q.2.2.2, s)

/-- Scores as they are held, bfloat16 (Table 05-1). -/
def scoreBytes (l : List F32) : List Byte := l.flatMap fun v => leBytes 2 (v.toNat / 65536)

/-- The scores that bytes of the score store hold. -/
def scoresOf (n : Nat) (bytes : List Byte) : List F32 :=
  (List.range n).map fun k => BitVec.ofNat 32 (leNat (slice (2 * k) 2 bytes) * 65536)

/-- Pass 1 of a group-row: the scores of its query heads, −∞ at keys that are not visible, written to its place (R115). -/
def State.passOne (s : State) (x : GroupRow) (p : RowPlace) : State :=
  x.queries.zipIdx.foldl (fun s q =>
    let scores := x.keys.map fun k => (k.1, scoreOf x.format q.1.2 k.2 q.1.1.v x.sigmaK x.factor)
    let row := (List.range x.bound).map fun k => ((scores.find? fun r => r.1 = k).map (·.2.v)).getD negInf
    let all := q.1.1 :: scores.map (·.2)
    (s.countFp x.core (satSum all) (fluSum all)).rowWrite x p (2 * x.bound * q.2) (scoreBytes row)) s

/-- Pass 2 of one query head of a group-row: its scores read back, its probabilities written over the row's first bytes (R116). -/
def State.passTwo (s : State) (x : GroupRow) (p : RowPlace) (head : Nat) : Softmax × State :=
  let off := 2 * x.bound * head
  let (bytes, s) := s.rowRead x p off (2 * x.bound)
  let m := rowSoftmax (scoresOf x.bound bytes)
  (m, (s.countFp x.core m.sat m.flu).rowWrite x p off (m.probs.map (BitVec.ofNat 8)))

/-- Pass 3 of one query head of a group-row: its probabilities read back against V (R114, R117). -/
def State.passThree (s : State) (x : GroupRow) (p : RowPlace) (head : Nat) (m : Softmax) : List F32 × State :=
  let (bytes, s) := s.rowRead x p (2 * x.bound * head) x.bound
  if m.masked then (List.replicate x.width F32.zero, s)
  else
    let probs := x.keys.map fun k => (bytes.getD k.1 0).toNat
    let out := headOutput x.format probs m.rho x.sigmaV x.values x.width
    (out.map (·.v), s.countFp x.core (satSum out) (fluSum out))

/-- Passes 2 and 3 of a group-row: the outputs of its query heads, and how many of them were fully masked (R114, R116, R117). -/
def State.passRow (s : State) (x : GroupRow) (p : RowPlace) : List (List F32) × Nat × State :=
  (List.range x.queries.length).foldl (fun a head =>
    let (m, t) := a.2.2.passTwo x p head
    let (out, t) := t.passThree x p head m
    (a.1 ++ [out], a.2.1 + bit m.masked, t)) ([], 0, s)

end Sys2Proof.Machine
end

