-- ==== Sys2Proof/Machine/Sampling.lean ====
section
/-! DEFINITION. Penalties, sampling, the Philox generator, verification of drafts and the depth rule (R163 to R168). -/

namespace Sys2Proof.Machine

/-! ## Philox-4×32-10 (R165) -/

/-- The high and low halves of a 32 by 32 bit product. -/
def mulHiLo (a b : Nat) : Nat × Nat := (a * b / 2 ^ 32, a * b % 2 ^ 32)

/-- One round on the four counter words. -/
def philoxRound (k0 k1 : Nat) (c : Nat × Nat × Nat × Nat) : Nat × Nat × Nat × Nat :=
  let p0 := mulHiLo 0xD2511F53 c.1
  let p1 := mulHiLo 0xCD9E8D57 c.2.2.1
  (Nat.xor (Nat.xor p1.1 c.2.1) k0, p1.2, Nat.xor (Nat.xor p0.1 c.2.2.2) k1, p0.2)

/-- `n` rounds; the key words are bumped between rounds. -/
def philoxRounds (n k0 k1 : Nat) (c : Nat × Nat × Nat × Nat) : Nat × Nat × Nat × Nat :=
  match n with
  | 0 => c
  | k + 1 => philoxRounds k ((k0 + 0x9E3779B9) % 2 ^ 32) ((k1 + 0xBB67AE85) % 2 ^ 32) (philoxRound k0 k1 c)

/-- The random number u of position `j` of sampling step `n` (R165). -/
def sampleU (seed n j : Nat) : F32 :=
  let x := (philoxRounds 10 (seed % 2 ^ 32) (seed / 2 ^ 32 % 2 ^ 32) (n % 2 ^ 32, j, 0, 0)).1
  (round32 { neg := false, m := x / 256, e := -24 }).v

/-! ## One position (R163, R164) -/

/-- A candidate token with its logit or weight. -/
abbrev Weighted := Nat × Fp

/-- A count of a vocabulary entry. -/
def countOf (counts : Map Nat) (t : Nat) : Nat := (Map.get? counts t).getD 0

/-- One more of a token; 0xFFFF sticks (R163). -/
def countToken (counts : Map Nat) (t : Nat) : Map Nat := Map.set counts t (min (countOf counts t + 1) 65535)

/-- NaN read as −∞ (R164). -/
def cleanLogit (z : F32) : F32 := if F32.isNaN z then negInf else z

/-- −x with the counts kept. -/
def Fp.subBy (a : Fp) (x : F32) : Fp :=
  let r := F32.sub a.v x
  { v := r.v, sat := a.sat + r.sat, flu := a.flu + r.flu }

/-- A quotient with the counts kept. -/
def Fp.divBy (a : Fp) (x : F32) : Fp :=
  let r := F32.div a.v x
  { v := r.v, sat := a.sat + r.sat, flu := a.flu + r.flu }

/-- Steps 1 to 3 on one logit (R164). -/
def penalise (t : TemplateRec) (count : Nat) (z : F32) : Fp :=
  let z := Fp.pure z
  let z := if count = 0 then z
    else if F32.lt F32.zero z.v then z.divBy t.theta else z.mulTo t.theta
  let m := F32.mul t.alpha (F32.ofInt count)
  let z := z.subBy m.v
  let z := { z with sat := z.sat + m.sat, flu := z.flu + m.flu }
  if count = 0 then z else z.subBy t.beta

/-- The greatest logit; the lowest token on a tie. -/
def argmax (l : List Weighted) : Nat :=
  match l with
  | [] => 0
  | h :: r => (r.foldl (fun b x => if F32.lt b.2.v x.2.v then x else b) h).1

/-- A candidate put into a list sorted by descending logit, lowest token first on ties. -/
def insertDesc (x : Weighted) (l : List Weighted) : List Weighted :=
  match l with
  | [] => [x]
  | y :: r => if F32.lt x.2.v y.2.v || (!F32.lt y.2.v x.2.v && y.1 < x.1) then y :: insertDesc x r else x :: y :: r

/-- Candidates by descending logit. -/
def sortDesc (l : List Weighted) : List Weighted := l.foldl (fun a x => insertDesc x a) []

/-- Running sums of weights in sorted order (R164). -/
def runningSums (acc : Fp) (l : List Weighted) : List (Nat × Fp) :=
  match l with
  | [] => []
  | x :: r =>
    let a : Fp := { v := (F32.add acc.v x.2.v).v, sat := acc.sat + (F32.add acc.v x.2.v).sat,
                    flu := acc.flu + (F32.add acc.v x.2.v).flu }
    (x.1, a) :: runningSums a r

/-- The list up to and with the first element that meets a test; all of it where none does. -/
def takeThrough {α : Type} (f : α → Bool) (l : List α) : List α :=
  match l with
  | [] => []
  | x :: r => if f x then [x] else x :: takeThrough f r

/-- One sampled position: token, whether a NaN logit was met with none finite, saturations and flushes (R164). -/
def samplePosition (t : TemplateRec) (counts : Map Nat) (logits : List F32) (u : F32) : Nat × Bool × Nat × Nat :=
  let nan := logits.any F32.isNaN
  let clean := logits.map cleanLogit
  if clean.all fun z => z = negInf then (0, nan, 0, 0)
  else
    let z := clean.zipIdx.map fun p => (p.2, penalise t (countOf counts p.2) p.1)
    let tally := fun l : List Weighted => ((l.map fun x => x.2.sat).sum, (l.map fun x => x.2.flu).sum)
    if F32.isZero t.temperature then
      let c := tally z
      (argmax z, false, c.1, c.2)
    else
      let z := z.map fun x => (x.1, x.2.divBy t.temperature)
      let c := tally z
      let kept := if t.topK = 0 then sortDesc z else (sortDesc z).take t.topK
      let zmax := (kept.map fun x => x.2.v).headD negInf
      let p := kept.map fun x => (x.1, expUnit x.2.v zmax)
      let sums := runningSums (Fp.pure F32.zero) p
      let last := ((sums.getLast?).map (·.2)).getD (Fp.pure F32.zero)
      let bound := F32.mul t.topP last.v
      let prefixSums := takeThrough (fun x => F32.le bound.v x.2.v) sums
      let share := F32.mul u (((prefixSums.getLast?).map fun x => x.2.v).getD F32.zero)
      let r := takeThrough (fun x => F32.le share.v x.2.v) prefixSums
      let w := tally p
      ((r.getLast?.map (·.1)).getD 0, false, c.1 + w.1 + last.sat + bound.sat + share.sat,
        c.2 + w.2 + last.flu + bound.flu + share.flu)

/-! ## A step (R166, R168) -/

/-- What verification found: tokens emitted, drafts matched, NAN_SAMPLES, saturations and flushes. -/
structure Verified where
  tokens : List Nat
  matched : Nat
  nans : Nat
  sat : Nat
  flu : Nat
  deriving DecidableEq, Repr

/-- Verification in order from position `j`: `drafts` are those left (R166). -/
def verifyFrom (t : TemplateRec) (seed n : Nat) (counts : Map Nat) (drafts : List Nat) (logits : List (List F32)) (j : Nat) :
    Verified :=
  let (tok, nan, sat, flu) := samplePosition t counts (logits.headD []) (sampleU seed n j)
  match drafts with
  | [] => { tokens := [tok], matched := 0, nans := bit nan, sat := sat, flu := flu }
  | d :: r =>
    if tok = d then
      let v := verifyFrom t seed n (countToken counts d) r logits.tail (j + 1)
      { tokens := tok :: v.tokens, matched := v.matched + 1, nans := v.nans + bit nan, sat := v.sat + sat,
        flu := v.flu + flu }
    else { tokens := [tok], matched := 0, nans := bit nan, sat := sat, flu := flu }

/-- Tokens of a step that are kept: up to `room` of them, and none after a stop token (R158). -/
def keepTokens (room stop : Nat) (l : List Nat) : List Nat :=
  takeThrough (fun t => stop ≠ 0xFFFFFFFF && t = stop) (l.take room)

/-- Depth and its two counters after a decode step that ran at depth `d` with `m` drafts accepted: new depth, zero-acceptance
run, full-acceptance run (R168). -/
def nextDepth (depth d m zeroRun fullRun limit zeroLimit fullLimit : Nat) : Nat × Nat × Nat :=
  if d > 0 && m = 0 then
    if zeroRun + 1 ≥ zeroLimit then (depth - 1, 0, 0) else (depth, zeroRun + 1, 0)
  else if m = d then
    if fullRun + 1 ≥ fullLimit then (if depth ≥ limit then depth else depth + 1, 0, 0) else (depth, 0, fullRun + 1)
  else (depth, 0, 0)

end Sys2Proof.Machine
end

