-- ==== Sys2Proof/Machine/Requests.lean ====
section
/-! DEFINITION. Request slots, binding to bales, creation, delivery, the end of a request, page reservations and the scatter
(R20, R101, R104, R125 to R132, R143 to R151, R155): operations that the commands, the convoys and the escort share. -/

namespace Sys2Proof.Machine

/-! ## Bays and bales -/

/-- A bay. -/
def State.bay (s : State) (n : Nat) : Option Bay := Map.get? s.bays.bay n

/-- A bay set. -/
def State.setBay (s : State) (n : Nat) (b : Bay) : State := { s with bays := { s.bays with bay := Map.set s.bays.bay n b } }

/-- A bay changed. -/
def State.modBay (s : State) (n : Nat) (f : Bay → Bay) : State :=
  { s with bays := { s.bays with bay := Map.modify s.bays.bay n f } }

/-- A staged bale. -/
def State.stagedBale (s : State) (handle : Nat) : Option Staged := Map.get? s.bays.staged handle

/-- A defined token bay of a tenant (R145). -/
def State.tokenBay (s : State) (n tenant : Nat) : Bool :=
  match s.bay n with | some b => b.kind = 0 && b.owner = tenant | none => false

/-- The seating under way in a bay, once step 1 has begun (R98). -/
def Bay.seating (b : Bay) : Option SeatJob := b.jobs.find? fun j => j.stopped

/-- The bale a request is bound to at its creation (R101); none: the next bale seated in its bay. -/
def State.bindBale (s : State) (t : TemplateRec) : Option Nat :=
  if t.named then some t.handle
  else
    match s.bay t.bay with
    | some b =>
      (match b.seating with
       | some j => (match j.handle with | some h => some h | none => b.seated)
       | none => b.seated)
    | none => none

/-- A bale by handle, as seated in a bay or staged. -/
def State.baleOf (s : State) (bay : Nat) (handle : Option Nat) : Option Bale :=
  match handle with
  | none => none
  | some h =>
    match s.bay bay with
    | some b => if b.seated = some h then b.bale else (s.stagedBale h).map (·.bale)
    | none => (s.stagedBale h).map (·.bale)

/-- KV_COMPAT, KV_HEADS, HEAD_DIM and LAYERS of a bale (R104, R134). -/
def Bale.geometry (b : Bale) : Nat × Nat × Nat × Nat := (b.kvCompat, b.kvHeads, b.headDim, b.layers)

/-- KV of a geometry and of a bale's DIGEST may be extended under a bale: the same bale, or one with the same non-zero KV_COMPAT
and the same KV_HEADS, HEAD_DIM and LAYERS (R104). -/
def kvFits (g : Option (Nat × Nat × Nat × Nat)) (writer : Nat) (b : Option Bale) : Bool :=
  match g, b with
  | some g, some b => writer = b.digest || (g = Bale.geometry b && g.1 ≠ 0)
  | _, _ => true

/-! ## Slots (R143, R144) -/

/-- Slot of a request ID. -/
def slotOf (id : Nat) : Nat := id % 65536

/-- The request of an ID while it occupies its slot. -/
def State.request (s : State) (id : Nat) : Option Req :=
  match Map.get? s.reqs.slot (slotOf id) with
  | some r => if r.id = id then some r else none
  | none => none

/-- A request set in its slot. -/
def State.setReq (s : State) (r : Req) : State :=
  { s with reqs := { s.reqs with slot := Map.set s.reqs.slot (slotOf r.id) r } }

/-- Every request that occupies a slot, in the order of creation. -/
def insertByOrder (r : Req) (l : List Req) : List Req :=
  match l with
  | [] => [r]
  | x :: t => if r.order < x.order then r :: x :: t else x :: insertByOrder r t

/-- The requests in the order of creation. -/
def State.liveReqs (s : State) : List Req := s.reqs.slot.foldl (fun a p => insertByOrder p.2 a) []

/-- A slot is free. -/
def State.slotFree (s : State) : Bool := s.reqs.nextSlot < 16384 || !s.reqs.freed.isEmpty

/-- The slot of an ID taken, as the active has taken it: the slots before it that were never used join the freed ones
(R341). -/
def State.takeSlotOf (s : State) (id : Nat) : State :=
  let slot := id % 65536
  let r := s.reqs
  let skipped := (List.range (slot - r.nextSlot)).map fun i => r.nextSlot + i
  { s with reqs := { r with
    nextSlot := max r.nextSlot (slot + 1), freed := (r.freed ++ skipped).filter fun n => n != slot,
    reuse := Map.set r.reuse slot (id / 65536), ended := r.ended.filter fun p => p.1 % 65536 != slot } }

/-- The next slot in the first-in, first-out order, and its request ID (R143, R144). -/
def State.takeSlot (s : State) : Nat × State :=
  match s.reqs.slotHint with
  | some id => (id, s.takeSlotOf id)
  | none =>
    let id := s.reqs.nextId
    let r := if s.reqs.nextSlot < 16384 then { s.reqs with nextSlot := s.reqs.nextSlot + 1 }
      else { s.reqs with freed := s.reqs.freed.tail }
    (id, { s with reqs := { r with ended := r.ended.filter fun p => p.1 % 65536 != id % 65536 } })

/-- A slot returns to the list, with its reuse count one higher (R144). -/
def State.returnSlot (s : State) (r : Req) : State :=
  let slot := slotOf r.id
  { s with reqs := { s.reqs with
    slot := Map.erase s.reqs.slot slot, freed := s.reqs.freed ++ [slot],
    reuse := Map.set s.reqs.reuse slot ((((Map.get? s.reqs.reuse slot).getD 0) + 1) % 65536),
    ended := Map.set s.reqs.ended r.id r.tenant } }

/-! ## Creation (R101, R125, R146, R163, R168) -/

/-- Mean tokens per decode step of a bay; 1 with no step yet (R155, R169; log 27). -/
def Bay.aMean (b : Bay) : Rat :=
  if b.accepts.isEmpty then 1 else ((b.accepts.sum : Nat) : Rat) / (b.accepts.length : Nat)

/-- What a creation is given. -/
structure NewReq where
  tenant : Nat
  route : Option Nat
  context : Nat
  branch : Bool
  template : Nat
  tmpl : TemplateRec
  nAct : Nat
  prefill : List (Nat × Nat)
  target : Nat
  stream : Nat
  track : Nat
  when_ : Int
  unformed : Option (Nat × Rat)
  lead : Nat
  tLaunch16 : Option Nat
  deadline : Option Int
  seed : Option Nat
  concealed : Bool
  priority : Nat
  ref : Option CmdRef
  spans : List (Nat × Nat)
  deriving DecidableEq, Repr

/-- Prompt counts under COUNT_PROMPT; visual positions carry no token ID (R163). -/
def promptCounts (t : TemplateRec) (prefill : List (Nat × Nat)) : Map Nat :=
  if t.countPrompt then (prefill.filter fun p => p.2 ≠ 1).foldl (fun m p => countToken m p.1) [] else []

/-- A request created in a free slot; a BRANCH takes its references (R125, R130, R146). -/
def State.createReq (s : State) (n : NewReq) : Nat × State :=
  let (id, s) := s.takeSlot
  let x := s.ctx n.context
  let branch : Option Branch := if n.branch then x.map fun x =>
      { length := x.length, limit := x.limit, family := x.family, geometry := x.geometry,
        writer := x.writer, pages := x.pages, kinds := x.kinds } else none
  let s := match branch with | some b => (s.addRefs b.pages.flatten).joinFamily b.family | none => s
  let bale := s.bindBale n.tmpl
  let maxDepth := match s.baleOf n.tmpl.bay bale with | some b => min n.tmpl.maxDepth b.maxDepth | none => n.tmpl.maxDepth
  let r : Req :=
    { id := id, state := 0, suspendedFrom := 0, tenant := n.tenant, route := n.route, context := n.context,
      branch := branch, template := n.template, tmpl := n.tmpl, bay := n.tmpl.bay, bale := bale, prefill := n.prefill,
      nAct := n.nAct, target := n.target, stream := n.stream, track := n.track, when_ := n.when_,
      unformed := n.unformed, lead := n.lead, tLaunch16 := n.tLaunch16, deadline := n.deadline,
      seed := n.seed.getD id, created := s.up, lastCommit := none, sampled := [],
      counts := promptCounts n.tmpl n.prefill, drafts := [], depth := maxDepth, zeroRun := 0, fullRun := 0,
      aMean := ((s.bay n.tmpl.bay).map Bay.aMean).getD 1, sampleStep := 0, steps := 0, delivered := 0, suspect := 0,
      ttftMiss := false, tbtMiss := false, concealed := n.concealed, priority := n.priority, waited := 0,
      toScatter := [], tails := [], reserved := [], scattering := [], scatTails := [], scatReserved := [], layersDone := [],
      copied := n.route.isNone, poisoned := false, order := s.reqs.created, ref := n.ref,
      spans := n.spans, inputCount := n.prefill.length }
  (id, ({ s with reqs := { s.reqs with created := s.reqs.created + 1 } } : State).setReq r)

/-! ## History of a request (R125, R129) -/

/-- Length, page table and kinds of the context or branch a request extends. -/
def State.history (s : State) (r : Req) : Nat × List (List Nat) × List Nat :=
  match r.branch with
  | some b => (b.length, b.pages, b.kinds)
  | none => match s.ctx r.context with | some x => (x.length, x.pages, x.kinds) | none => (0, [], [])

/-- The LIMIT of a request's history. -/
def State.historyLimit (s : State) (r : Req) : Nat :=
  match r.branch with
  | some b => b.limit
  | none => ((s.ctx r.context).map (·.limit)).getD 0

/-- The family of a request's history. -/
def State.historyFamily (s : State) (r : Req) : Nat :=
  match r.branch with
  | some b => b.family
  | none => ((s.ctx r.context).map (·.family)).getD 0

/-- The geometry of a request's history: that of its first scatter, else its bale's. -/
def State.historyGeometry (s : State) (r : Req) : Nat × Nat × Nat × Nat :=
  let own := match r.branch with | some b => b.geometry | none => ((s.ctx r.context).map (·.geometry)).getD none
  match own with
  | some g => g
  | none => ((s.baleOf r.bay r.bale).map Bale.geometry).getD (0, 0, 0, 0)

/-- A history set; the first scatter fixes its geometry and its bale (R134). -/
def State.setHistory (s : State) (r : Req) (g : Nat × Nat × Nat × Nat) (length : Nat) (pages : List (List Nat))
    (kinds : List Nat) : State × Req :=
  let d := ((s.baleOf r.bay r.bale).map (·.digest)).getD 0
  match r.branch with
  | some b =>
    (s, { r with branch := some { b with
      length := length, geometry := some g, writer := if b.geometry.isSome then b.writer else d, pages := pages,
      kinds := kinds } })
  | none =>
    match s.ctx r.context with
    | some x => (s.setCtx r.context { x with
      length := length, geometry := some g, writer := if x.geometry.isSome then x.writer else d, pages := pages,
      kinds := kinds }, r)
    | none => (s, r)

/-! ## Scatter and reservations (R126, R127, R132) -/

/-- A frame for a scatter: a reserved one, or one from the pool (log 30). -/
def State.takeFrame (s : State) (tenant family : Nat) (reserved : List Nat) : Option (Nat × List Nat × State) :=
  match reserved with
  | p :: r => some (p, r, s.modFrame p fun f => { f with family := family })
  | [] => (s.allocFrame tenant 0 1 family).map fun x => (x.1, [], x.2)

/-- A frame is shared or pinned (R126, R132). -/
def State.sharedFrame (s : State) (page : Nat) : Bool :=
  match s.frame page with | some f => f.refs > 1 || f.state = 2 | none => false

/-- The frame of index `i` of a layer made ready for a write: a copy where it is shared or pinned, a new one where there is
none (R127, R132). -/
def State.readyFrame (s : State) (tenant family ctx : Nat) (reserved pages : List Nat) (i : Nat) :
    Option (List Nat × List Nat × State) :=
  if i < pages.length then
    let page := pages.getD i 0
    if s.sharedFrame page then
      (s.takeFrame tenant family reserved).map fun x =>
        let s := (x.2.2.copyFrame page x.1).dropRef page
        (pages.set i x.1, x.2.1, s.count 0x0004 0 0 ctx 0 56 1)
    else some (pages, reserved, s)
  else (s.takeFrame tenant family reserved).map fun x => (pages ++ [x.1], x.2.1, x.2.2)

/-- The frames of one layer made ready from index `i` on, `n` of them. -/
def State.readyFrames (s : State) (tenant family ctx : Nat) (reserved pages : List Nat) (i n : Nat) :
    Option (List Nat × List Nat × State) :=
  match n with
  | 0 => some (pages, reserved, s)
  | k + 1 =>
    match s.readyFrame tenant family ctx reserved pages i with
    | none => none
    | some (p, r, s) => s.readyFrames tenant family ctx r p (i + 1) k

/-- Committed length of a request: scattered positions and those still to scatter, where its step's positions begin (R112,
R153). -/
def State.committedLength (s : State) (r : Req) : Nat :=
  (s.history r).1 + r.scattering.length + r.toScatter.length

/-- Every context that references a poisoned frame, and the reader's own, is marked poisoned (Tables 09-11 and 09-22). -/
def State.poisonReaders (s : State) (page own : Nat) : State :=
  { s with ctxs := { s.ctxs with ctx := s.ctxs.ctx.map fun x =>
    if x.1 = own || x.2.allPages.contains page then (x.1, { x.2 with poisoned := true }) else x } }

/-- Who reads KV bytes: a request's ID, or 0xFFFF_FFFF for a flush, its context and its tenant. -/
structure KvReader where
  id : Nat
  context : Nat
  tenant : Nat
  deriving DecidableEq, Repr

/-- Bytes of a KV frame are read: flips are met, and poison is consumed, which the answer says (R259 to R261, Table 09-11). -/
def State.readKv (s : State) (r : KvReader) (page off n : Nat) : State × Bool :=
  let a := pageAddr page off
  let t := s.readRange a.1 0 a.2 n false
  match t.poisonIn a.1 0 a.2 n with
  | some p => ((t.poisonConsumed a.1 0 p r.id r.context 1 r.tenant).poisonReaders page r.context, true)
  | none => (t, false)

/-- The K and V bytes of position `j` of a step at a layer are read from its tail frames (R127, R259). -/
def State.readTail (s : State) (r : KvReader) (g : Nat × Nat × Nat × Nat) (tails : List Nat) (layer j : Nat) : State × Bool :=
  let (page, off) := tailPlace g tails j layer
  let b := positionBytes g
  let first := min b (65536 - off)
  let (s, bad) := s.readKv r page off first
  if first < b then
    let (s, more) := s.readKv r (tails.getD (((j * g.2.2.2 + layer) * b) / 65536 + 1) 0xFFFFFFFF) 0 (b - first)
    (s, bad || more)
  else (s, bad)

/-- The first `n` positions of a step at a layer are read from its tail frames. -/
def State.readTails (s : State) (r : KvReader) (g : Nat × Nat × Nat × Nat) (tails : List Nat) (layer n : Nat) : State × Bool :=
  (List.range n).foldl (fun a j => let x := a.1.readTail r g tails layer j; (x.1, a.2 || x.2)) (s, false)

/-- One committed position of a layer copied from the tail to its frame (R121, R127). -/
def State.scatterOne (s : State) (g : Nat × Nat × Nat × Nat) (tails pages : List Nat) (length layer j : Nat) : State :=
  let bytes := s.tailRead g tails j layer
  let row := g.2.1 * g.2.2.1
  let n := npf g.2.1 g.2.2.1
  let k := length + j
  let page := pages.getD (k / n) 0
  (s.pageWrite page (k % n * row) (bytes.take row)).pageWrite page (32768 + k % n * row) (bytes.drop row)

/-- The scatter of `n` positions at one layer: frames made ready, and the positions copied (R127). -/
def State.scatterAt (s : State) (g : Nat × Nat × Nat × Nat) (tenant family ctx : Nat) (tails reserved : List Nat)
    (mine : List Nat) (length n layer : Nat) : Option (List Nat × List Nat × State) :=
  let per := npf g.2.1 g.2.2.1
  let first := length / per
  (s.readyFrames tenant family ctx reserved mine first (ceilDiv (length + n) per - first)).map fun x =>
    (x.1, x.2.1, (List.range n).foldl (fun s j => s.scatterOne g tails x.1 length layer j) x.2.2)

/-- The scatter of `n` positions over the layers from `layer` on, `fuel` of them. -/
def State.scatterLayers (s : State) (g : Nat × Nat × Nat × Nat) (tenant family ctx : Nat) (tails reserved : List Nat)
    (pages : List (List Nat)) (length n layer fuel : Nat) : Option (List (List Nat) × List Nat × State) :=
  match fuel with
  | 0 => some ([], reserved, s)
  | k + 1 =>
    match s.scatterAt g tenant family ctx tails reserved (pages.getD layer []) length n layer with
    | none => none
    | some (mine, reserved, s) =>
      (s.scatterLayers g tenant family ctx tails reserved pages length n (layer + 1) k).map fun r => (mine :: r.1, r.2)

/-- Room in the page-table pool for what the tables have become, HBM frames divided for more (R248). -/
def State.growTables (s : State) (tenant fuel : Nat) : Option State :=
  if s.tableBlocks ≤ s.tableCapacity then some s
  else
    match fuel with
    | 0 => none
    | k + 1 =>
      match s.allocFrame tenant 0 1 0 with
      | none => none
      | some (p, s) => ({ s with ctxs := { s.ctxs with tableFrames := s.ctxs.tableFrames ++ [p] } } : State).growTables
          tenant k

/-- Frames of a list returned to the pool. -/
def State.freeFrames (s : State) (pages : List Nat) : State := pages.foldl State.freeNow s

/-- A page table with the frames of one layer replaced. -/
def setLayer (pages : List (List Nat)) (layers layer : Nat) (mine : List Nat) : List (List Nat) :=
  (List.range (max layers pages.length)).map fun i => if i = layer then mine else pages.getD i []

/-- The scatter has advanced every layer: the positions are the history's, and the tail frames and what is left of the
reservation return to the pool (R126, R127). -/
def State.scatterEnds (s : State) (r : Req) : State × Req :=
  let g := s.historyGeometry r
  let (len, pages, kinds) := s.history r
  let s := s.freeFrames (r.scatTails ++ r.scatReserved)
  s.setHistory { r with scattering := [], scatTails := [], scatReserved := [], layersDone := [] } g
    (len + r.scattering.length) pages (kinds ++ r.scattering)

/-- The scatter of one layer of a request's step: its target frames made ready, its positions copied from the tail, its page table
and its scattered length advanced; after the last layer the scatter ends (R127). None: no frame is left for it. -/
def State.scatterLayer (s : State) (r : Req) (layer : Nat) : Option (State × Req) :=
  if r.scattering.isEmpty || r.layersDone.contains layer then some (s, r)
  else
    let g := s.historyGeometry r
    let (len, pages, kinds) := s.history r
    let n := r.scattering.length
    let (s, bad) := s.readTails { id := r.id, context := r.context, tenant := r.tenant } g r.scatTails layer n
    let r := { r with poisoned := r.poisoned || bad }
    match s.scatterAt g r.tenant (s.historyFamily r) r.context r.scatTails r.scatReserved (pages.getD layer []) len n layer with
    | none => none
    | some (mine, left, s) =>
      let (s, r) := s.setHistory { r with scatReserved := left, layersDone := r.layersDone ++ [layer] } g len
        (setLayer pages g.2.2.2 layer mine) kinds
      (s.growTables r.tenant 64).map fun s =>
        if (List.range g.2.2.2).all r.layersDone.contains then s.scatterEnds r else (s, r)

/-- The layers of a request's scatter from `layer` on, `fuel` of them. -/
def State.scatterFrom (s : State) (r : Req) (layer fuel : Nat) : Option (State × Req) :=
  match fuel with
  | 0 => some (s, r)
  | k + 1 =>
    match s.scatterLayer r layer with
    | none => none
    | some (s, r) => s.scatterFrom r (layer + 1) k

/-- What is left of a request's scatter carried out. -/
def State.finishScatter (s : State) (r : Req) : Option (State × Req) :=
  if r.scattering.isEmpty then some (s, r)
  else
    let n := (s.historyGeometry r).2.2.2
    if n = 0 then some (s.scatterEnds r) else s.scatterFrom r 0 n

/-- Frames that the scatter of `n` positions after a history of `len` takes: those of positions in frames not yet allocated, and
one copy for each layer whose last frame is shared or pinned (R127, R132). -/
def State.scatterNeeds (s : State) (g : Nat × Nat × Nat × Nat) (pages : List (List Nat)) (len n : Nat) : Nat :=
  let per := npf g.2.1 g.2.2.1
  g.2.2.2 * (ceilDiv (len + n) per - ceilDiv len per) +
    (if len % per = 0 then 0
     else (pages.filter fun l => match l.getLast? with | some p => s.sharedFrame p | none => false).length)

/-- The positions that a request's last step committed are to be scattered by the layers of its next step; frames that its
reservation lacks by now are taken from the pool (R127; log 30). Without such positions its tail and reservation return. -/
def State.beginScatter (s : State) (r : Req) : Option (State × Req) :=
  if r.toScatter.isEmpty then
    some (s.freeFrames (r.tails ++ r.reserved), { r with tails := [], reserved := [] })
  else
    let g := s.historyGeometry r
    let (len, pages, _) := s.history r
    let need := s.scatterNeeds g pages len r.toScatter.length
    (s.allocFrames r.tenant 0 1 (s.historyFamily r) (need - r.reserved.length)).map fun x =>
      (x.2, { r with scattering := r.toScatter, scatTails := r.tails, scatReserved := r.reserved ++ x.1, layersDone := [],
                     toScatter := [], tails := [], reserved := [] })

/-- Frames of a step of `q` positions reserved after a history of `len`, whose last frames a scatter still to come makes the
writer's own where `unshared`: tail frames, and destination and copy frames (R126). -/
def State.reserveStep (s : State) (tenant family : Nat) (g : Nat × Nat × Nat × Nat) (len : Nat)
    (pages : List (List Nat)) (unshared : Bool) (q : Nat) : Option (List Nat × List Nat × State) :=
  let per := npf g.2.1 g.2.2.1
  let dest := g.2.2.2 * (ceilDiv (len + q) per - ceilDiv len per)
  let copies := if unshared then 0
    else (pages.filter fun l => match l.getLast? with | some p => s.sharedFrame p | none => false).length
  match s.allocFrames tenant 0 3 family (ceilDiv (q * g.2.2.2 * positionBytes g) 65536) with
  | none => none
  | some (tails, s) => (s.allocFrames tenant 0 1 family (dest + copies)).map fun x => (tails, x.1, x.2)

/-! ## Delivery and reports (R149 to R151) -/

/-- The 4-byte form of a token: its ID in bits [29:0] and its kind in bits [31:30] (R148). -/
def tokenWord (kind id : Nat) : Nat := id % 2 ^ 30 + 2 ^ 30 * kind

/-- Sampled tokens of a request as they leave it, with the kind its template names (R111, R148, R150; DEDUCED log 124). -/
def Req.words (r : Req) (tokens : List Nat) : List Nat := tokens.map (tokenWord r.tmpl.outKind)

/-- Tokens written to a host request's output area with the new progress count, or counted for a route's report (R149). -/
def State.deliver (s : State) (r : Req) (tokens : List Nat) : State × Req :=
  if tokens.isEmpty then (s, r)
  else
    let n := r.delivered + tokens.length
    let r' := { r with delivered := n }
    if r.route.isSome || (match r.ref with | some c => c.copied | none => true) || !s.writesRings then (s, r')
    else
      ((s.writePayload r.tenant r.spans (64 + 4 * (r.inputCount + r.delivered)) ((r.words tokens).flatMap (leBytes 4))).writePayload
        r.tenant r.spans 0 (leBytes 4 n), r')

/-- The key of a report ring's producer index. -/
def reportRing (tenant base : Nat) : Nat := 2 ^ 64 * tenant + base

/-- The report record of a route request's end (R150, R151). -/
def State.writeReport (s : State) (r : Req) (route status tLaunch16 sequence : Nat) (tokens : List Nat) : State :=
  if r.tmpl.reportBase = 0 || r.tmpl.reportEntries = 0 || s.revoking r.tenant || !s.writesRings ||
      !(r.tmpl.reportAll || status ≠ Status.done || r.concealed) then s
  else
    let key := reportRing r.tenant r.tmpl.reportBase
    let producer := (Map.get? s.reqs.rings key).getD 0
    let (consumer, s) := s.hostConsumer r.tmpl.reportEntries
    match ringPlace producer consumer r.tmpl.reportEntries (ceilDiv (32 + 4 * tokens.length) 64) with
    | none => s.count 0x0008 0 0 0 route 40 1
    | some place =>
      if !s.canWriteTenant r.tenant then s.count 0x0008 0 0 0 route 40 1
      else
        ({ s with reqs := { s.reqs with rings := Map.set s.reqs.rings key place.2.2 } } : State).writeRecord r.tenant
          r.tmpl.reportBase producer place
          (.report r.id route status (tLaunch16 / 16) sequence (min r.suspect 65535) (min r.steps 65535)
            (bit r.concealed + 2 * bit r.ttftMiss + 4 * bit r.tbtMiss) (r.words tokens))

/-! ## The end of a request (R128, R149, R160) -/

/-- Result word 1 of a host request's final reply (R149). -/
def Req.result1 (r : Req) : Nat :=
  min r.delivered 65535 + 2 ^ 16 * min r.steps 65535 + 2 ^ 32 * min r.suspect 65535 +
    2 ^ 48 * (bit r.ttftMiss + 2 * bit r.tbtMiss)

/-- A request is cancelled, not finished: its pending scatter is skipped (R128, R160). -/
def isCancel (status : Nat) : Bool := status = Status.cancelled || status = Status.tenantRevoked

/-- Convoys of a bay that have not left its last stage, those in flight first. -/
def Bay.ahead (b : Bay) : List Convoy := b.stages.filterMap id ++ b.planned

/-- Every convoy of a bay that has not left its last stage changed. -/
def Bay.mapConvoys (b : Bay) (f : Convoy → Convoy) : Bay :=
  { b with stages := b.stages.map fun c => c.map f, planned := b.planned.map f }

/-- What an ended request holds is given up: its flush is posted, or its frames return; a branch releases its references
(R128, R130). The tail frames of a convoy in flight stay until it leaves the last stage (R160). -/
def State.releaseReq (s : State) (r : Req) (status : Nat) : State :=
  let inFlight := r.state = 1
  let rides := fun c : Convoy => c.members.any fun m => m.request = r.id
  let s := if inFlight then s.modBay r.bay fun b =>
      b.mapConvoys fun c => if rides c then { c with tails := c.tails ++ r.tails ++ r.scatTails } else c
    else s
  let kept := inFlight && (match s.bay r.bay with | some b => b.ahead.any rides | none => false)
  match r.branch with
  | some b =>
    let s := s.freeFrames (r.reserved ++ r.scatReserved ++ if kept then [] else r.tails ++ r.scatTails)
    (s.dropRefs b.pages.flatten).leaveFamily b.family
  | none =>
    let (s, r) := if isCancel status then (s, r) else (s.finishScatter r).getD (s, r)
    if isCancel status || r.toScatter.isEmpty || !r.scattering.isEmpty then
      s.freeFrames (r.reserved ++ r.scatReserved ++ if kept then [] else r.tails ++ r.scatTails)
    else
      match s.ctx r.context with
      | some x => s.setCtx r.context { x with
          flush := some { kinds := r.toScatter, tails := r.tails, reserved := r.reserved, geometry := s.historyGeometry r,
                          writer := ((s.baleOf r.bay r.bale).map (·.digest)).getD 0 } }
      | none => s.freeFrames (r.reserved ++ r.tails)

/-- A request ends: its slot is freed and its final reply or report written (R149, R150). -/
def State.endReq (s : State) (r : Req) (status tLaunch16 sequence : Nat) (tokens : List Nat) : State :=
  let s := (s.releaseReq r status).returnSlot r
  let s := if status = Status.late then s.count 0x0003 r.bay 0 0 0 32 1
    else if status = Status.cancelled then s.count 0x0003 r.bay 0 0 0 40 1 else s
  match r.route with
  | some n =>
    let s := if status = Status.late then s.count 0x0008 0 0 0 n 48 1 else s
    s.writeReport r n status tLaunch16 sequence tokens
  | none => match r.ref with | some c => s.reply c status r.id r.result1 | none => s

/-- A request taken out of every commit mask (R160). -/
def State.unmask (s : State) (r : Req) : State :=
  let out := fun c : Convoy => { c with mask := c.mask.filter fun i => i != r.id }
  s.modBay r.bay fun b => { b.mapConvoys out with commits := b.commits.map out }

/-- A request cancelled or revoked (R160, R329). -/
def State.cancelReq (s : State) (r : Req) (status : Nat) : State := (s.unmask r).endReq r status 0 0 []

/-! ## Deadlines (R18 to R20, R155) -/

/-- The deadline that a launch time gives, in whole nanoseconds (R18). The sixteenths of t_launch are dropped before the lead is taken
off, which the spec leaves open, DESIGN CHOICE log 134. -/
def deadlineAt (t16 lead : Nat) : Int := (t16 / 16 : Nat) - (lead : Int)

/-- What a track answers for a position, UNREACHED when it does not exist. -/
def State.trackAnswer (s : State) (track : Nat) (pos : Int) : TimeAnswer :=
  ((Map.get? s.mls.tracks track).map fun t => t.timeAt pos).getD .unreached

/-- The belt position that a track's newest model gives at a time (R20). -/
def State.trackPos (s : State) (track t : Nat) : Option Rat :=
  (((Map.get? s.mls.tracks track).map (·.model)).getD none).map fun m => m.pos t

/-- A launch position held in whole micrometres (R18; log 10). -/
def wholePos (x : Rat) : Int := x.floor + (if x = (x.floor : Rat) then 0 else if Config.posRoundsUp x then 1 else 0)

/-- The re-read of a request's launch time and deadline at a boundary (R19, R20). -/
def State.reread (s : State) (r : Req) : Req :=
  if r.target ≠ 2 then r
  else
    let r := match r.unformed with
      | some (cap, off) =>
        match s.trackPos r.track cap with
        | some p => { r with when_ := wholePos (p + off), unformed := none }
        | none => r
      | none => r
    if r.unformed.isSome then r
    else
      match s.trackAnswer r.track r.when_ with
      | .at t => { r with tLaunch16 := some t, deadline := some (deadlineAt t r.lead) }
      | _ => r

/-- The deadline of a request in module time, with those of R155 for a request that has none. -/
def State.deadlineOf (s : State) (r : Req) : Int :=
  match r.deadline with
  | some d => d
  | none =>
    let shift : Int := (s.now : Int) - (s.up : Int)
    let second := r.created + 1000000000
    let own := match r.lastCommit with
      | some t => if r.sampled.isEmpty then
          (if r.tmpl.ttftGoal = 0 then second else r.created + 1000 * r.tmpl.ttftGoal)
        else if r.tmpl.tbtGoal = 0 then second else t + 1000 * r.tmpl.tbtGoal
      | none => if r.tmpl.ttftGoal = 0 then second else r.created + 1000 * r.tmpl.ttftGoal
    (own : Int) + shift

end Sys2Proof.Machine
end

