-- ==== Sys2Proof/Machine/Submit.lean ====
section
/-! DEFINITION. Request and template commands, the creation of requests from boxes, and what waits on a context (R16 to R20,
R128, R140, R143 to R151, R160 to R162). -/

namespace Sys2Proof.Machine

/-! ## SUBMIT_REQUEST (R147 to R149) -/

/-- A submission with its packet's own fields: the tenant, priority class and payload. -/
structure Submission where
  p : SubmitParams
  inputs : List (Nat × Nat)
  tenant : Nat
  priority : Nat
  spans : List (Nat × Nat)
  deriving DecidableEq, Repr

/-- Tokens of a submission (Table 06-3). -/
def Submission.nAct (q : Submission) (t : TemplateRec) : Nat := if q.p.nAct = 0 then t.nAct else q.p.nAct

/-- The fields of a submission are in range and its payload is long enough (R148, Table 06-3). -/
def Submission.fieldsOk (q : Submission) (t : TemplateRec) : Bool :=
  !q.p.modeRsvd && q.p.target ≤ 2 && within q.p.inputCount 1 65535 && q.p.nAct ≤ 4096 &&
    q.inputs.length = q.p.inputCount && decide (64 + 4 * (q.p.inputCount + q.nAct t) ≤ spanBytes q.spans) &&
    q.inputs.all fun i => i.1 < 2 ^ 30 && i.2 < 4 && i.2 ≠ 1

/-- The targets of a submission exist, belong to its tenant and can carry its tokens (R147, R227). -/
def Submission.targetOk (q : Submission) (n : Nat) (s : State) : Bool :=
  q.p.target = 0 ||
    ((match s.stream q.p.stream with
      | some st => st.tenant = q.tenant && (st.params.kind = 1 || n ≤ 64)
      | none => false) &&
     (q.p.target = 1 || (match Map.get? s.mls.tracks q.p.track with | some t => t.tenant = q.tenant | none => false)))

/-- The refusal of a submission on a context and a template of its tenant, or none (R104, R129, R145, R147, Table 05-8,
Table 09-11). -/
def submitRefusal (q : Submission) (x : Ctx) (t : TemplateRec) (s : State) : Option Nat :=
  if !q.fieldsOk t || !s.tokenBay t.bay q.tenant || !q.targetOk (q.nAct t) s ||
      !kvFits x.geometry x.writer (s.baleOf t.bay (s.bindBale t)) then some Status.badParam
  else if x.length + q.p.inputCount > x.limit then some Status.contextFull
  else if x.state = 1 || x.state = 2 then some Status.notPermitted
  else if x.state = 4 then some Status.contextExpired
  else if x.poisoned then some Status.poisoned
  else if q.p.target ≠ 0 && s.mls.disc = 0 then some Status.notPermitted
  else none

/-- The request of an accepted submission. -/
def submitNew (q : Submission) (t : Template) (c : CmdRef) (s : State) : NewReq :=
  let lead := ((s.stream q.p.stream).map fun st => st.params.lead).getD 0
  let t16 : Option Nat := match q.p.target with
    | 1 => some (16 * q.p.when_.toNat)
    | 2 => (match s.trackAnswer q.p.track q.p.when_ with | .at t => some t | _ => none)
    | _ => none
  { tenant := q.tenant, route := none, context := q.p.context, branch := q.p.branch, template := q.p.template,
    tmpl := t.body, nAct := q.nAct t.body, prefill := q.inputs, target := q.p.target, stream := q.p.stream,
    track := q.p.track, when_ := q.p.when_, unformed := none, lead := lead, tLaunch16 := t16,
    deadline := match q.p.target with
      | 0 => if q.p.when_ = 0 then none else some q.p.when_
      | 1 => some (q.p.when_ - lead)
      | _ => t16.map fun t => deadlineAt t lead,
    seed := some q.p.seed, concealed := false, priority := q.priority, ref := some c, spans := q.spans }

/-- A submission that names its tenant's context and template: refused, waiting for the context, or created and ACCEPTED
(R128, R140, R143, R149). -/
def State.submit (s : State) (q : Submission) (c : CmdRef) (x : Ctx) (t : Template) : State :=
  match submitRefusal q x t.body s with
  | some r => s.reply c r 0 0
  | none =>
    if q.p.branch && (x.state = 3 || x.flush.isSome) then
      s.waitOn q.p.context (.branch c q.p q.inputs q.tenant q.priority q.spans)
    else if !s.slotFree then s.reply c Status.noRequestSlot 0 0
    else
      let (id, s) := s.createReq (submitNew q t c s)
      s.accept c id 0

/-- SUBMIT_REQUEST once started: the objects it names exist and are its tenant's (R147). -/
def State.doSubmit (s : State) (q : Submission) (c : CmdRef) : State :=
  match s.ctx q.p.context, Map.get? s.reqs.templates q.p.template with
  | some x, some t =>
    if x.tenant ≠ q.tenant || t.tenant ≠ q.tenant then s.reply c Status.notPermitted 0 0 else s.submit q c x t
  | _, _ => s.reply c Status.badParam 0 0

/-- SUBMIT_REQUEST (R147). -/
def execSubmitRequest (h : Hdr) (p : SubmitParams) (inputs : List (Nat × Nat)) (s : State) :
    Host.Outcome State Fault Refusal :=
  .next (s.cmd 0x0202 h fun c s => s.doSubmit
    { p := p, inputs := inputs, tenant := h.fn, priority := h.priority, spans := payloadSpans h } c)

/-! ## Requests from boxes (R16 to R20) -/

/-- One object that becomes no request (R30). -/
def State.dropObject (s : State) (route : Nat) : State := s.count 0x0008 0 0 0 route 24 1

/-- Visual tokens of a route's crops (R205). -/
def cropTokens (crops : List CropRec) : Nat :=
  (crops.map fun c => if c.patch = 0 then 0 else (c.outH / c.patch) * (c.outW / c.patch)).sum

/-- Prefill of a route request: visual tokens, then the template's eight state tokens, whose IDs are free (R17, R111;
log 32). -/
def routePrefill (crops : List CropRec) (n : Nat) : List (Nat × Nat) :=
  List.replicate (cropTokens crops) (0, 1) ++ (List.range 8).map fun i => (Config.freeNat (n + i) % 2 ^ 30, 2)

/-- s_obj + s_cell of a box (R18). -/
def boxOffset (p : RouteParams) (b : BoxRec) : Rat :=
  F32.rat p.k * ((F32.rat b.y0 + F32.rat b.y1) / 2 - (p.y0 : Nat)) + (p.sCell : Rat)

/-- The launch position of a box, or what is kept until its track has a model (R18, R20). -/
def State.boxPosition (s : State) (p : RouteParams) (capture : Nat) (b : BoxRec) : Int × Option (Nat × Rat) :=
  match s.trackPos p.track capture with
  | some x => (wholePos (x + boxOffset p b), none)
  | none => (0, some (capture, boxOffset p b))

/-- A kept box becomes one request of its route, or is counted as dropped; while its context resumes or a flush runs, it waits
(R18, R20, R30, R128, R140, R388). -/
def State.objectCreate (s : State) (n : Nat) (pic : Picture) (b : BoxRec) : State :=
  match Map.get? s.reqs.routes n with
  | none => s
  | some rt =>
    match Map.get? s.reqs.templates rt.params.template, s.ctx rt.params.context with
    | some t, some x =>
      let p := rt.params
      let fits := kvFits x.geometry x.writer (s.baleOf t.body.bay (s.bindBale t.body)) &&
        decide (x.length + cropTokens p.crops + 8 ≤ x.limit)
      let (pos, unformed) := s.boxPosition p pic.capture b
      let ans := if unformed.isSome then .unreached else s.trackAnswer p.track pos
      if s.mls.disc = 0 then s.dropObject n
      else if s.power.leaving.isSome || s.revoking rt.tenant || !s.tokenBay t.body.bay t.tenant || !fits || x.poisoned || x.state = 1 ||
          x.state = 2 || x.state = 4 || ans = .passed then s.dropObject n
      else if x.state = 3 || x.flush.isSome then s.waitOn p.context (.object n pic b)
      else if !s.slotFree then s.dropObject n
      else
        let t16 : Option Nat := match ans with | .at t => some t | _ => none
        let prefill := routePrefill p.crops s.free
        let s := { s with free := s.free + 8 }
        let (_, s) := s.createReq
          { tenant := rt.tenant, route := some n, context := p.context, branch := true, template := p.template,
            tmpl := t.body, nAct := t.body.nAct, prefill := prefill, target := 2, stream := p.actionStream,
            track := p.track, when_ := pos, unformed := unformed, lead := p.lead, tLaunch16 := t16,
            deadline := t16.map fun t => deadlineAt t p.lead, seed := none, concealed := pic.concealed,
            priority := t.body.priority, ref := none, spans := [] }
        s.count 0x0008 0 0 0 n 16 1
    | _, _ => s.dropObject n

/-! ## What waits on a context (R128, R140) -/

/-- One waiting command or object runs under its context's present state. -/
def State.runWaiter (s : State) (n : Nat) (w : Waiter) : State :=
  match w with
  | .fork c position => s.doFork c n position
  | .pause c ttl => s.doPause c n ttl
  | .resume c => s.doResume c n
  | .close c => s.doClose c n
  | .branch c p inputs tenant priority spans =>
    s.doSubmit { p := p, inputs := inputs, tenant := tenant, priority := priority, spans := spans } c
  | .object route pic b => s.objectCreate route pic b

/-- What waited on a context runs in arrival order; what must wait again joins the list again. -/
def State.runWaiters (s : State) (n : Nat) : State :=
  match s.ctx n with
  | none => s
  | some x => x.waiters.foldl (fun s w => s.runWaiter n w) (s.setCtx n { x with waiters := [] })

/-- The waystation mover finishes a pause (R136). -/
def execPauseMoveDone (context : Nat) (s : State) : Host.Outcome State Fault Refusal :=
  match s.ctx context with
  | some x =>
    match x.state, x.move with
    | 1, some c => if s.moverFenced then .next s else .next ((s.pauseEnds context x c).runWaiters context)
    | _, _ => .next s
  | none => .next s

/-- A resume's move ends (R137). -/
def execResumeMoveDone (context : Nat) (s : State) : Host.Outcome State Fault Refusal :=
  match s.ctx context with
  | some x =>
    match x.state, x.move with
    | 3, some c => if s.moverFenced then .next s else .next ((s.resumeEnds context x c).runWaiters context)
    | _, _ => .next s
  | none => .next s

/-- A flush reads its positions from their tail frames, layer by layer; poison there marks the context (R128, Table 09-11). -/
def State.readFlush (s : State) (context tenant : Nat) (f : Flush) : State :=
  (List.range f.geometry.2.2.2).foldl (fun s layer =>
    (s.readTails { id := 0xFFFFFFFF, context := context, tenant := tenant } f.geometry f.tails layer f.kinds.length).1) s

/-- The context after its flush, whose first scatter fixes geometry and writer (R128, R134). -/
def Ctx.flushed (x : Ctx) (f : Flush) (pages : List (List Nat)) : Ctx :=
  { x with
    flush := none, length := x.length + f.kinds.length, pages := pages, kinds := x.kinds ++ f.kinds,
    geometry := some f.geometry, writer := if x.geometry.isSome then x.writer else f.writer }

/-- The flush of a finished EXTEND request: its last committed positions reach their frames, its other frames return to the
pool, and what waited on the context runs (R128). While no frame can be had the flush goes on. -/
def execFlushScatterDone (context : Nat) (s : State) : Host.Outcome State Fault Refusal :=
  match s.ctx context with
  | none => .next s
  | some x =>
    match x.flush with
    | none => .next s
    | some f =>
      let g := f.geometry
      match (s.readFlush context x.tenant f).scatterLayers g x.tenant x.family context f.tails f.reserved x.pages x.length
          f.kinds.length 0 g.2.2.2 with
      | none => .next s
      | some (pages, left, t) =>
        let x := (t.ctx context).getD x
        match ((t.setCtx context (x.flushed f pages)).freeFrames (left ++ f.tails)).growTables x.tenant 64 with
        | some t => .next (t.runWaiters context)
        | none => .next s

/-! ## CANCEL_REQUEST (R160 to R162) -/

/-- A marker for the partner: sent at once, or owed until its next contact (R160, R162, R330). -/
def State.sendMarker (s : State) (r : CopyRec) : State :=
  if s.escort.role ≠ 1 then s
  else if s.escort.copying then s.sendRec r 16
  else { s with escort := { s.escort with owed := s.escort.owed ++ [r] } }

/-- The tenant that an ended request's ID belonged to, where it is still known (Table 06-7, log 33). -/
def State.requestTenant (s : State) (id : Nat) : Option Nat :=
  match s.request id with
  | some r => some r.tenant
  | none => Map.get? s.reqs.ended id

/-- CANCEL_REQUEST once started (R160, R161). -/
def cancelRequestRun (h : Hdr) (id : Nat) (withRecall : Bool) (c : CmdRef) (s : State) : State :=
  if slotOf id ≥ s.reqs.nextSlot then s.reply c Status.badParam 0 0
  else if (s.requestTenant id).any fun t => t ≠ h.fn then s.reply c Status.notPermitted 0 0
  else
    let s := match s.request id with | some r => s.cancelReq r Status.cancelled | none => s
    let mine := fun (st _ rq : Nat) => rq = id && ((s.stream st).map (·.tenant)) = some h.fn
    let (s, removed, launched) := if withRecall then s.recall mine else (s, 0, 0)
    (s.sendMarker (.cancel id withRecall)).replyAfterAck c (recallResult removed launched)
      (withRecall && !c.copied)

/-- CANCEL_REQUEST (R160). -/
def execCancelRequest (h : Hdr) (request : Nat) (withRecall : Bool) (s : State) : Host.Outcome State Fault Refusal :=
  .next (s.cmd 0x0203 h (cancelRequestRun h request withRecall))

/-! ## SET_SAMPLING (R145, R150, R151) -/

/-- The largest report record of a template, in bytes (R151). -/
def reportBytes (nAct : Nat) : Nat := 64 * ceilDiv (32 + 4 * nAct) 64

/-- A finite FP32 field. -/
def F32.finite (x : F32) : Bool := F32.exp x ≠ 255

/-- The fields of a template record are in range (Table 06-2, R151). -/
def templateOk (r : TemplateRec) : Bool :=
  r.rsvdZero && r.bay < 8 && r.outKind < 4 && r.maxDepth ≤ 4 && within r.nAct 1 4096 && r.priority ≤ 7 &&
    r.zeroLimit < 256 && r.fullLimit < 256 && r.stopToken < 2 ^ 32 && F32.lt F32.zero r.theta && F32.finite r.alpha &&
    F32.finite r.beta && F32.le F32.zero r.temperature && F32.lt F32.zero r.topP && F32.le r.topP F32.one &&
    r.topK ≤ 1024 && r.handle < 64 && (r.named || r.handle = 0) && r.ttftGoal < 2 ^ 32 && r.tbtGoal < 2 ^ 32 &&
    (r.reportBase = 0 || (ringEntriesOk r.reportEntries && decide (2 * reportBytes r.nAct ≤ 64 * r.reportEntries)))

/-- A named bale is a token bale of the tenant staged in HBM or the waystation (R145). -/
def State.namedBaleOk (s : State) (r : TemplateRec) (tenant : Nat) : Bool :=
  !r.named || (match s.stagedBale r.handle with
    | some b => b.tenant = tenant && b.tier < 2 && b.bale.kind = 0
    | none => false)

/-- A record as it is kept: 0 selects 8 zero-acceptance and 32 full-acceptance steps; a partner writes no ring (R145, R345). -/
def templateKept (r : TemplateRec) (copied : Bool) : TemplateRec :=
  { r with zeroLimit := orDefault r.zeroLimit 8, fullLimit := orDefault r.fullLimit 32,
           reportEntries := if copied then 0 else r.reportEntries }

/-- SET_SAMPLING that deletes, once started (R145). -/
def setSamplingDeleteRun (h : Hdr) (n : Nat) (c : CmdRef) (s : State) : State :=
  match Map.get? s.reqs.templates n with
  | none => s.reply c Status.badParam 0 0
  | some t =>
    if t.tenant ≠ h.fn || (s.reqs.routes.any fun r => r.2.params.template = n) then s.reply c Status.notPermitted 0 0
    else
      ({ s with reqs := { s.reqs with templates := Map.erase s.reqs.templates n } } : State).reply c Status.done 0 0

/-- SET_SAMPLING that defines or replaces, once started (R145). -/
def setSamplingDefineRun (h : Hdr) (n op : Nat) (r : TemplateRec) (c : CmdRef) (s : State) : State :=
  if op = 1 then setSamplingDeleteRun h n c s
  else if n > 1023 || op ≠ 0 then s.reply c Status.badParam 0 0
  else if ((Map.get? s.reqs.templates n).map (·.tenant)).any fun t => t ≠ h.fn then s.reply c Status.notPermitted 0 0
  else if payloadBytes h < 64 || !templateOk r || !s.tokenBay r.bay h.fn || !s.namedBaleOk r h.fn then
    s.reply c Status.badParam 0 0
  else
    let t : Template := { tenant := h.fn, body := templateKept r c.copied }
    let rings := if r.reportBase = 0 then s.reqs.rings else Map.set s.reqs.rings (reportRing h.fn r.reportBase) 0
    ({ s with reqs := { s.reqs with templates := Map.set s.reqs.templates n t, rings := rings } } : State).reply c
      Status.done 0 0

/-- SET_SAMPLING (R145). -/
def execSetSamplingDefine (h : Hdr) (template : Nat) (r : SamplingDef) (s : State) : Host.Outcome State Fault Refusal :=
  .next (s.cmd 0x0210 h (setSamplingDefineRun h template r.op r.record))

/-- SET_SAMPLING with OP delete (R145). -/
def execSetSamplingDelete (h : Hdr) (template : Nat) (s : State) : Host.Outcome State Fault Refusal :=
  .next (s.cmd 0x0210 h (setSamplingDeleteRun h template))

/-! ## SET_CONVOY_POLICY (R154) -/

/-- Whether a list is strictly ascending. -/
def ascending (l : List Nat) : Bool :=
  match l with
  | a :: b :: r => a < b && ascending (b :: r)
  | _ => true

/-- Bounds 1 to 7 in positions (Table 06-5). -/
def policyBounds (bytes : List Nat) : List Nat :=
  if bytes.all fun b => b = 0 then [256, 512, 1024, 2048, 4096, 8192, 16384] else bytes.map fun b => (b + 1) * 256

/-- A bay's policy at its definition and wherever 0 selects it (Table 06-5). -/
def PolicyParams.defaults (bay : Nat) : PolicyParams :=
  { bay := bay, maxRequests := 64, maxTokens := 2048, prefillChunk := 512, bounds := policyBounds [0, 0, 0, 0, 0, 0, 0] }

/-- The parameters as they are kept, bounds in positions. -/
def policyKept (p : PolicyParams) : PolicyParams :=
  { p with maxRequests := orDefault p.maxRequests 64, maxTokens := orDefault p.maxTokens 2048,
           prefillChunk := orDefault p.prefillChunk 512, bounds := policyBounds p.bounds }

/-- The parameters are in range (R154, Table 06-5). -/
def policyOk (p : PolicyParams) : Bool :=
  let k := policyKept p
  within k.maxRequests 1 256 && within k.maxTokens 64 4096 && within k.prefillChunk 16 4096 && p.bounds.length = 7 &&
    p.bounds.all (fun b => b < 255) && ascending k.bounds

/-- SET_CONVOY_POLICY once started (R154). -/
def setConvoyPolicyRun (h : Hdr) (p : PolicyParams) (c : CmdRef) (s : State) : State :=
  match s.bay p.bay with
  | none => s.reply c Status.badParam 0 0
  | some b =>
    if h.fn ≠ 0 && b.owner ≠ h.fn then s.reply c Status.notPermitted 0 0
    else if !policyOk p then s.reply c Status.badParam 0 0
    else (s.setBay p.bay { b with nextPolicy := some (policyKept p) }).reply c Status.done 0 0

/-- SET_CONVOY_POLICY (R154). -/
def execSetConvoyPolicy (h : Hdr) (p : PolicyParams) (s : State) : Host.Outcome State Fault Refusal :=
  .next (s.cmd 0x0211 h (setConvoyPolicyRun h p))

end Sys2Proof.Machine
end

