-- ==== Sys2Proof/Machine/Vision.lean ====
section
/-! DEFINITION. From picture to tensor, the convolution address generator, pooling, the box filter and crops (R192 to R205). -/

namespace Sys2Proof.Machine

/-! ## Surfaces (R172, R192, R194) -/

/-- `n` rounded up to a multiple of `k`. -/
def roundUp (n k : Nat) : Nat := ceilDiv n k * k

/-- Bytes of a decoded picture at 8 bits, rows at multiples of 256 bytes (R172, R192; log 58). -/
def pictureBytes (w h : Nat) : Nat := h * roundUp w 256 + ceilDiv h 2 * roundUp (2 * ceilDiv w 2) 256

/-- Bytes of a sample: one at 8 bits, two above (R192). -/
def sampleSize (bitDepth : Nat) : Nat := if bitDepth ≤ 8 then 1 else 2

/-- Bytes from one row of `n` samples to the next (R192). -/
def rowPitch (bitDepth n : Nat) : Nat := roundUp (n * sampleSize bitDepth) 256

/-- The rows of a decoded picture with their offsets in its surface: the luma plane, then the interleaved Cb, Cr plane (R192). -/
def Planes.rows (pl : Planes) : List (Int × List Byte) :=
  let px := leBytes (sampleSize pl.bitDepth)
  let pitch := rowPitch pl.bitDepth pl.width
  let cw := ceilDiv pl.width 2
  let luma := (List.range pl.height).map fun y => (((y * pitch : Nat) : Int), (slice (y * pl.width) pl.width pl.luma).flatMap px)
  if pl.cb.isEmpty then luma
  else
    luma ++ (List.range (ceilDiv pl.height 2)).map fun y =>
      (((pl.height * pitch + y * rowPitch pl.bitDepth (2 * cw) : Nat) : Int),
       (List.range cw).flatMap fun x => px (pl.cb.getD (y * cw + x) 0) ++ px (pl.cr.getD (y * cw + x) 0))

/-- Channels of a layout's channel group. -/
def groupChannels (c32 : Bool) : Nat := if c32 then 32 else 16

/-- Pixels of one MXINT8 group record. -/
def recordPixels (c32 : Bool) : Nat := if c32 then 8 else 16

/-- Bytes of a tensor of `c` channels (Table 07-8). -/
def tensorSize (c32 bf : Bool) (w h c : Nat) : Nat :=
  if bf then 2 * w * h * roundUp c (groupChannels c32)
  else ceilDiv c (groupChannels c32) * h * ceilDiv w (recordPixels c32) * 264

/-- Bytes that a stream's surfaces and reassembly buffer take: 17 pictures, 2 tensors and 2 access units (R172). -/
def streamBytes (p : StreamParams) : Nat :=
  17 * pictureBytes p.maxWidth p.maxHeight +
    2 * tensorSize p.c32 p.bfloat p.maxWidth p.maxHeight (groupChannels p.c32) + 2 * orDefault p.maxAuBytes 4194304

/-! ## Colour (R193) -/

/-- A quotient of whole numbers in binary32. -/
def ratio (n d : Int) : F32 := (F32.div (F32.ofInt n) (F32.ofInt d)).v

/-- A sample of a plane, its coordinates clamped to the plane. -/
def planeAt (plane : List Nat) (w h : Nat) (x y : Int) : Int :=
  plane.getD ((clampInt y 0 (h - 1)).toNat * w + (clampInt x 0 (w - 1)).toNat) 0

/-- Chroma at a luma pixel: bilinear, chroma sample location type 0, in eighths of a code (R193). -/
def chromaEighths (plane : List Nat) (w h x y : Nat) : Int :=
  let row := fun j : Int =>
    let i : Int := x / 2
    if x % 2 = 0 then 2 * planeAt plane w h i j else planeAt plane w h i j + planeAt plane w h (i + 1) j
  let j : Int := y / 2
  if y % 2 = 0 then row (j - 1) + 3 * row j else 3 * row j + row (j + 1)

/-- One value clamped to [0, 1]. -/
def clampUnit (x : F32) : F32 := F32.max F32.zero (F32.min F32.one x)

/-- kr and kb of a matrix: 1 BT.601, 3 BT.2020, else BT.709 (R193). -/
def colourConstants (matrix : Nat) : F32 × F32 :=
  if matrix = 1 then (ratio 299 1000, ratio 114 1000)
  else if matrix = 3 then (ratio 2627 10000, ratio 593 10000)
  else (ratio 2126 10000, ratio 722 10000)

/-- The channel values of a pixel before normalisation; every operation of R193 is one binary32 operation, left to right
(log 59). -/
def pixelColour (p : StreamParams) (pl : Planes) (x y : Nat) : List F32 :=
  let matrix := if p.matrix = 0 then pl.vuiMatrix else p.matrix
  let full := (if p.range = 0 then pl.vuiRange else p.range) = 2
  let b := pl.bitDepth
  let s : Int := 2 ^ (b - 8)
  let cw := ceilDiv pl.width 2
  let ch := ceilDiv pl.height 2
  let chroma := fun plane : List Nat => if plane.isEmpty then 1024 * s else chromaEighths plane cw ch x y
  let centred := fun plane : List Nat => (Fp.scaleInt (chroma plane - 8 * (if full then 2 ^ (b - 1) else 128 * s)) (-3)).v
  let den : Int := if full then 2 ^ b - 1 else 224 * s
  let yy := if full then ratio (planeAt pl.luma pl.width pl.height x y) (2 ^ b - 1)
    else ratio (planeAt pl.luma pl.width pl.height x y - 16 * s) (219 * s)
  if p.channels = 1 then [yy]
  else
    let cb := (F32.div (centred pl.cb) (F32.ofInt den)).v
    let cr := (F32.div (centred pl.cr) (F32.ofInt den)).v
    let (kr, kb) := colourConstants matrix
    let two := F32.ofInt 2
    let r := (Fp.addTo (F32.mul ((F32.mul two (F32.sub F32.one kr).v).v) cr) yy).v
    let bl := (Fp.addTo (F32.mul ((F32.mul two (F32.sub F32.one kb).v).v) cb) yy).v
    let g := (F32.div (F32.sub (F32.sub yy (F32.mul kr r).v).v (F32.mul kb bl).v).v
      (F32.sub (F32.sub F32.one kr).v kb).v).v
    if p.bgr = 1 then [clampUnit bl, clampUnit g, clampUnit r] else [clampUnit r, clampUnit g, clampUnit bl]

/-- A channel value normalised (R193). -/
def normalise (p : StreamParams) (c : Nat) (x : F32) : F32 :=
  (F32.mul (F32.sub x (p.mean.getD c F32.zero)).v (p.invStd.getD c F32.zero)).v

/-! ## Tensors (R194, Table 07-8) -/

/-- A tensor: its layout, size and bytes. -/
structure Tensor where
  c32 : Bool
  bf : Bool
  w : Nat
  h : Nat
  c : Nat
  bytes : List Byte
  deriving DecidableEq, Repr

/-- A bfloat16 element, little-endian. -/
def bfloatBytes (x : F32) : List Byte := leBytes 2 ((bfloat x).v.toNat / 65536)

/-- Values put into a tensor's layout: channel, row and column give an element (Table 07-8). -/
def packTensor (c32 bf : Bool) (w h c : Nat) (f : Nat → Nat → Nat → F32) : Tensor :=
  let g := groupChannels c32
  let px := recordPixels c32
  let at_ := fun k y x i : Nat => if x < w && k * g + i < c then f (k * g + i) y x else F32.zero
  let bytes := (List.range (ceilDiv c g)).flatMap fun k => (List.range h).flatMap fun y =>
    if bf then (List.range w).flatMap fun x => (List.range g).flatMap fun i => bfloatBytes (at_ k y x i)
    else (List.range (ceilDiv w px)).flatMap fun r =>
      recordOf ((List.range px).flatMap fun j => (List.range g).map fun i => at_ k y (r * px + j) i)
  { c32 := c32, bf := bf, w := w, h := h, c := c, bytes := bytes }

/-- Byte `i` of a tensor. -/
def Tensor.byte (t : Tensor) (i : Nat) : Nat := (t.bytes.getD i 0).toNat

/-- Record and pixel within it of a channel, row and column of an MXINT8 tensor. -/
def Tensor.place (t : Tensor) (c y x : Nat) : Nat × Nat :=
  let px := recordPixels t.c32
  (((c / groupChannels t.c32 * t.h + y) * ceilDiv t.w px + x / px) * 264, x % px)

/-- The stored element of an MXINT8 tensor. -/
def Tensor.elem (t : Tensor) (c y x : Nat) : Int :=
  let (r, j) := t.place c y x
  signed 8 (t.byte (r + j * groupChannels t.c32 + c % groupChannels t.c32))

/-- The stored scale of an MXINT8 tensor. -/
def Tensor.scale (t : Tensor) (c y x : Nat) : Nat :=
  let (r, j) := t.place c y x
  t.byte (r + 256 + (if t.c32 then j else j / 2))

/-- The value of an MXINT8 element under its scale (R34, R40). -/
def mxValue (e : Int) (scale : Nat) : F32 := if scale = 255 then F32.qnan else (Fp.scaleInt e ((scale : Int) - 133)).v

/-- The value of a tensor's element. -/
def Tensor.value (t : Tensor) (c y x : Nat) : F32 :=
  if t.bf then
    let g := groupChannels t.c32
    let i := 2 * (((c / g * t.h + y) * t.w + x) * g + c % g)
    BitVec.ofNat 32 ((t.byte i + 256 * t.byte (i + 1)) * 65536)
  else mxValue (t.elem c y x) (t.scale c y x)

/-- The tensor of a decoded picture (R193, R194). -/
def pictureTensor (p : StreamParams) (pl : Planes) : Tensor :=
  packTensor p.c32 p.bfloat pl.width pl.height (groupChannels p.c32) fun c y x =>
    if c < p.channels then normalise p c ((pixelColour p pl x y).getD c F32.zero) else F32.zero

/-! ## Convolution and pooling (R195 to R198) -/

/-- Output size along one axis, 0 where it is not positive (R196). -/
def outSize (in_ padA padB dil k stride : Nat) : Nat :=
  if stride = 0 || in_ + padA + padB < dil * (k - 1) + 1 then 0
  else (in_ + padA + padB - dil * (k - 1) - 1) / stride + 1

/-- OUT_H. -/
def convOutH (d : ConvDesc) : Nat := outSize d.inH d.padT d.padB d.dilH d.kh d.strideH

/-- OUT_W. -/
def convOutW (d : ConvDesc) : Nat := outSize d.inW d.padL d.padR d.dilW d.kw d.strideW

/-- A descriptor that LOAD_BALE accepts (R195, R196). -/
def convOk (d : ConvDesc) : Bool :=
  let twelve := fun v : Nat => within v 1 4095
  let gin := groupChannels d.layoutIn32
  (d.pooling || !d.bfloat) && d.flagsRsvd = 0 && within d.kh 1 31 && within d.kw 1 31 && twelve d.strideH &&
    twelve d.strideW && twelve d.dilH && twelve d.dilW && d.padT ≤ 4095 && d.padB ≤ 4095 && d.padL ≤ 4095 &&
    d.padR ≤ 4095 && d.padValue < 65536 && within d.inH 1 8192 && within d.inW 1 8192 && within d.inC 16 4096 &&
    d.inC % gin = 0 && within d.outC 16 4096 && d.outC % 16 = 0 && (!d.pooling || d.outC = d.inC) &&
    within (convOutH d) 1 8192 && within (convOutW d) 1 8192

/-- The input row and column of a tap, or none for a padded tap (R196). -/
def tapAt (d : ConvDesc) (oy ox ky kx : Nat) : Option (Nat × Nat) :=
  let iy : Int := (oy * d.strideH + ky * d.dilH : Nat) - (d.padT : Int)
  let ix : Int := (ox * d.strideW + kx * d.dilW : Nat) - (d.padL : Int)
  if iy < 0 || ix < 0 || iy ≥ d.inH || ix ≥ d.inW then none else some (iy.toNat, ix.toNat)

/-- A piece of a convolution's input vector: the channels of one channel group at one tap, with their scale (R197). -/
def tapPiece (d : ConvDesc) (t : Tensor) (oy ox ky kx k : Nat) : List Int × Nat :=
  let g := groupChannels d.layoutIn32
  match tapAt d oy ox ky kx with
  | none => (List.replicate g (signed 8 (d.padValue % 256)), d.padValue / 256)
  | some (y, x) => ((List.range g).map fun i => t.elem (k * g + i) y x, t.scale (k * g) y x)

/-- The pieces of one output pixel, in the order ky, kx, channel group (R197). -/
def convPieces (d : ConvDesc) (t : Tensor) (oy ox : Nat) : List (List Int × Nat) :=
  (List.range d.kh).flatMap fun ky => (List.range d.kw).flatMap fun kx =>
    (List.range (d.inC / groupChannels d.layoutIn32)).map fun k => tapPiece d t oy ox ky kx k

/-- Two 16-channel pieces made one block: the larger scale, the other piece shifted right with round-half-even, and the
non-zero elements that the shift turned to zero (R197). -/
def joinPieces (a b : List Int × Nat) : (List Int × Nat) × Nat :=
  let e := max a.2 b.2
  let shift := fun p : List Int × Nat => p.1.map fun x => rheDiv x (2 ^ (e - p.2))
  let lost := fun p : List Int × Nat => ((p.1.zip (shift p)).filter fun q => q.1 != 0 && q.2 == 0).length
  ((shift a ++ shift b, e), lost a + lost b)

/-- The blocks of one output pixel's input vector and the elements flushed in forming them (R197). -/
def convBlocks (d : ConvDesc) (t : Tensor) (oy ox : Nat) : List (List Int × Nat) × Nat :=
  let ps := convPieces d t oy ox
  if d.layoutIn32 then (ps, 0)
  else
    let joined := (chunks 2 ps.length ps).map fun l => match l with
      | [a, b] => joinPieces a b
      | [a] => ((a.1 ++ List.replicate 16 0, a.2), 0)
      | _ => (([], 0), 0)
    (joined.map (·.1), (joined.map (·.2)).sum)

/-- The input groups of one output pixel, padded with zeros of scale 0 to whole groups (R197). -/
def convGroups (d : ConvDesc) (t : Tensor) (oy ox : Nat) : List InputGroup × Nat :=
  let (bs, lost) := convBlocks d t oy ox
  let groups := (chunks 8 bs.length bs).map fun l =>
    let l := l ++ List.replicate (8 - l.length) (List.replicate 32 0, 0)
    ({ elems := l.flatMap (·.1), scales := l.map (·.2) } : InputGroup)
  (groups, lost)

/-- Elements flushed by the address generator over a whole layer (R197). -/
def convFlushed (d : ConvDesc) (t : Tensor) : Nat :=
  ((List.range (convOutH d)).map fun oy =>
    ((List.range (convOutW d)).map fun ox => (convGroups d t oy ox).2).sum).sum

/-- PAD_VALUE as a number (Table 07-9). -/
def padFloat (d : ConvDesc) : F32 :=
  if d.bfloat then BitVec.ofNat 32 (d.padValue * 65536) else mxValue (signed 8 (d.padValue % 256)) (d.padValue / 256)

/-- One output of the pooling unit (R198): taps in the order ky, kx. -/
def poolValue (d : ConvDesc) (t : Tensor) (c oy ox : Nat) : F32 :=
  let taps := (List.range d.kh).flatMap fun ky => (List.range d.kw).map fun kx => tapAt d oy ox ky kx
  let real := taps.filterMap fun p => p.map fun q => t.value c q.1 q.2
  match real with
  | [] => if d.average && d.countPad then
      (F32.div (taps.foldl (fun a _ => (F32.add a (padFloat d)).v) F32.zero) (F32.ofInt (d.kh * d.kw : Nat))).v
    else padFloat d
  | x :: rest =>
    if !d.average then rest.foldl F32.max x
    else if d.countPad then
      (F32.div (taps.foldl (fun a p => (F32.add a (match p with
        | some q => t.value c q.1 q.2
        | none => padFloat d)).v) F32.zero) (F32.ofInt (d.kh * d.kw : Nat))).v
    else (F32.div (real.foldl (fun a v => (F32.add a v).v) F32.zero) (F32.ofInt real.length)).v

/-- The output tensor of a pooling descriptor (R198). -/
def poolTensor (d : ConvDesc) (t : Tensor) : Tensor :=
  packTensor d.layoutOut32 d.bfloat (convOutW d) (convOutH d) d.outC fun c y x => poolValue d t c y x

/-- What the address generator flushes from a picture's tensor on: leading pooling descriptors run, then the first
convolution's vectors are formed. Later layers hold what the arrays gave. -/
def leadFlushed (l : List ConvDesc) (t : Tensor) : Nat :=
  match l with
  | [] => 0
  | d :: rest => if d.pooling then leadFlushed rest (poolTensor d t) else convFlushed d t

/-! ## Box filter (R199, R200) -/

/-- Where a candidate comes from: its level, cell and anchor (R199). -/
structure CandPlace where
  stride : F32
  gx : Nat
  gy : Nat
  aw : F32
  ah : F32
  deriving DecidableEq, Repr

/-- Every anchor of every cell, in level, row, column and anchor order (R199). -/
def candPlaces (d : DetHead) : List CandPlace :=
  d.levels.flatMap fun l => (List.range l.gridH).flatMap fun gy => (List.range l.gridW).flatMap fun gx =>
    l.anchors.map fun a => { stride := l.stride, gx := gx, gy := gy, aw := a.1, ah := a.2 }

/-- Number of candidates of a detector head. -/
def candCount (d : DetHead) : Nat := (d.levels.map fun l => l.gridH * l.gridW * l.anchors.length).sum

/-- The centre coordinate of a candidate along one axis (R199). -/
def candCentre (g : Nat) (t stride : F32) : F32 :=
  (F32.mul (F32.add (F32.add (F32.ofInt g) 0x3F000000).v t).v stride).v

/-- One candidate: its score, class and box (R199). -/
def candidateOf (flags frame n : Nat) (p : CandPlace) (r : RawCandidate) : BoxRec :=
  let cx := candCentre p.gx r.tx p.stride
  let cy := candCentre p.gy r.ty p.stride
  let half := fun x : F32 => (F32.mul x 0x3F000000).v
  let w := half (F32.mul p.aw (VecFn.eval .exp r.tw).v).v
  let h := half (F32.mul p.ah (VecFn.eval .exp r.th).v).v
  let cls := r.cls.map fun x => (VecFn.eval .sigmoid x).v
  let best := match cls with
    | [] => F32.zero
    | x :: rest => rest.foldl F32.max x
  let c := (cls.findIdx? fun x => F32.eq x best).getD 0
  { x0 := (F32.sub cx w).v, y0 := (F32.sub cy h).v, x1 := (F32.add cx w).v, y1 := (F32.add cy h).v,
    score := (F32.mul (VecFn.eval .sigmoid r.obj).v best).v, cls := c, flags := flags, candidate := n, frame := frame }

/-- A finite value. -/
def F32.isFinite (x : F32) : Bool := !F32.isNaN x && !F32.isInf x

/-- A box that is finite and has a positive width and height (R199). -/
def boxValid (b : BoxRec) : Bool :=
  F32.isFinite b.x0 && F32.isFinite b.y0 && F32.isFinite b.x1 && F32.isFinite b.y1 &&
    F32.lt F32.zero (F32.sub b.x1 b.x0).v && F32.lt F32.zero (F32.sub b.y1 b.y0).v

/-- A candidate put into a list in descending score, ties in ascending candidate number (R200). -/
def insertBox (x : BoxRec) (l : List BoxRec) : List BoxRec :=
  match l with
  | [] => [x]
  | y :: r => if F32.lt x.score y.score || (!F32.lt y.score x.score && y.candidate < x.candidate) then y :: insertBox x r
    else x :: y :: r

/-- IoU of two boxes (R200). -/
def iou (a b : BoxRec) : F32 :=
  let span := fun l h : F32 => F32.max F32.zero (F32.sub h l).v
  let inter := (F32.mul (span (F32.max a.x0 b.x0) (F32.min a.x1 b.x1)) (span (F32.max a.y0 b.y0) (F32.min a.y1 b.y1))).v
  let area := fun x : BoxRec => (F32.mul (F32.sub x.x1 x.x0).v (F32.sub x.y1 x.y0).v).v
  (F32.div inter (F32.sub (F32.add (area a) (area b)).v inter).v).v

/-- Greedy non-maximum suppression, stopping at 256 boxes (R200). -/
def suppress (d : DetHead) (l kept : List BoxRec) : List BoxRec :=
  match l with
  | [] => kept
  | x :: r =>
    if kept.length ≥ 256 then kept
    else if kept.any fun k => (!d.classAware || k.cls = x.cls) && F32.lt d.iouMax (iou k x) then suppress d r kept
    else suppress d r (kept ++ [x])

/-- The box filter: boxes in sorted order, candidates dropped beyond 4,096, and invalid boxes; each box carries the flags and the number
of its picture (R199, R200, Table 07-10). -/
def boxFilter (d : DetHead) (flags frame : Nat) (raw : List RawCandidate) : List BoxRec × Nat × Nat :=
  let all := (((candPlaces d).zip raw).zipIdx).map fun p => candidateOf flags frame p.2 p.1.1 p.1.2
  let valid := all.filter boxValid
  let scored := valid.filter fun b => F32.le d.scoreMin b.score
  let sorted := scored.foldl (fun a b => insertBox b a) []
  (suppress d (sorted.take 4096) [], sorted.length - 4096, all.length - valid.length)

/-! ## Crops (R203 to R205) -/

/-- The expanded box of a crop: first corner and side lengths (R203, Table 07-12). -/
def expandBox (c : CropRec) (b : BoxRec) : F32 × F32 × F32 × F32 :=
  let half := fun x : F32 => (F32.mul x 0x3F000000).v
  let w := (F32.sub b.x1 b.x0).v
  let h := (F32.sub b.y1 b.y0).v
  let side := F32.max w h
  let w := (F32.mul (if c.square then side else w) c.expand).v
  let h := (F32.mul (if c.square then side else h) c.expand).v
  ((F32.sub (half (F32.add b.x0 b.x1).v) (half w)).v, (F32.sub (half (F32.add b.y0 b.y1).v) (half h)).v, w, h)

/-- A bilinear sample of a picture's tensor (R203); the blend sums the four weighted neighbours in raster order (log 59). -/
def bilinear (p : StreamParams) (t : Tensor) (x y : F32) (c : Nat) : F32 :=
  let one := F32.one
  let wf := F32.ofInt t.w
  let hf := F32.ofInt t.h
  let minus1 := F32.ofInt (-1)
  if F32.lt x minus1 || F32.lt wf x || F32.lt y minus1 || F32.lt hf y then
    if c < p.channels then normalise p c F32.zero else F32.zero
  else
    let cl := fun v m : F32 => F32.max F32.zero (F32.min v (F32.sub m one).v)
    let x := cl x wf
    let y := cl y hf
    let xi := (F32.floor x).toNat
    let yi := (F32.floor y).toNat
    let fx := (F32.sub x (F32.ofInt xi)).v
    let fy := (F32.sub y (F32.ofInt yi)).v
    let gx := (F32.sub one fx).v
    let gy := (F32.sub one fy).v
    let at_ := fun u v : Nat => t.value c (min v (t.h - 1)) (min u (t.w - 1))
    let term := fun (a b : F32) (u v : Nat) => (F32.mul (F32.mul a b).v (at_ u v)).v
    (F32.add (F32.add (F32.add (term gx gy xi yi) (term fx gy (xi + 1) yi)).v (term gx fy xi (yi + 1))).v
      (term fx fy (xi + 1) (yi + 1))).v

/-- Sample position `j` of `n` along an axis in a bilinear mode (R203). -/
def axisAt (mode : Nat) (start side : F32) (n j : Nat) : F32 :=
  if mode = 0 then
    (F32.sub (F32.add start (F32.div (F32.mul (F32.add (F32.ofInt j) 0x3F000000).v side).v (F32.ofInt n)).v).v 0x3F000000).v
  else if n = 1 then (F32.add start (F32.mul side 0x3F000000).v).v
  else (F32.add start (F32.div (F32.mul (F32.ofInt j) side).v (F32.ofInt (n - 1 : Nat))).v).v

/-- Pooled sample position `i` of `r` in bin `j` (R204). -/
def binAt (start side : F32) (n r j i : Nat) : F32 :=
  let bw := (F32.div side (F32.ofInt n)).v
  (F32.add (F32.add start (F32.mul (F32.ofInt j) bw).v).v
    (F32.div (F32.mul (F32.add (F32.ofInt i) 0x3F000000).v bw).v (F32.ofInt r)).v).v

/-- One output of a crop (R203, R204). -/
def cropValue (p : StreamParams) (t : Tensor) (c : CropRec) (b : BoxRec) (row col ch : Nat) : F32 :=
  let (x0, y0, w, h) := expandBox c b
  if c.mode ≤ 1 then bilinear p t (axisAt c.mode x0 w c.outW col) (axisAt c.mode y0 h c.outH row) ch
  else
    let samples := (List.range c.ratio).flatMap fun v => (List.range c.ratio).map fun u =>
      bilinear p t (binAt x0 w c.outW c.ratio col u) (binAt y0 h c.outH c.ratio row v) ch
    match samples with
    | [] => F32.zero
    | x :: rest =>
      if c.mode = 2 then rest.foldl F32.max x
      else (F32.div (samples.foldl (fun a v => (F32.add a v).v) F32.zero) (F32.ofInt samples.length)).v

/-- The patches of a crop in raster order, each flattened by row, column and channel and requantised to MXINT8 (R205). -/
def cropPatches (p : StreamParams) (t : Tensor) (c : CropRec) (b : BoxRec) : List (List MxBlock) :=
  let n := c.patch
  (List.range (c.outH / n)).flatMap fun pr => (List.range (c.outW / n)).map fun pc =>
    let xs := (List.range n).flatMap fun r => (List.range n).flatMap fun k =>
      (List.range (groupChannels p.c32)).map fun ch => cropValue p t c b (pr * n + r) (pc * n + k) ch
    (chunks 32 xs.length xs).map fun l => { scale := (requantBlock l).1, elems := (requantBlock l).2 }

end Sys2Proof.Machine
end

