-- ==== Sys2Proof/Machine/BaleFormat.lean ====
section
/-! DEFINITION. The bytes of a bale: header, section directory, sections, and what LOAD_BALE accepts (R88 to R90, R93, R99). -/

namespace Sys2Proof.Machine

/-- The 256-byte header (Table 04-2). -/
def Bale.header (b : Bale) : List Byte :=
  leBytes 4 b.magic ++ leBytes 2 b.format ++ leBytes 1 b.generation ++ leBytes 1 b.kind ++ leBytes 8 b.totalLength ++
    leBytes 48 b.digest ++ leBytes 16 b.modelId ++ leBytes 8 b.kvCompat ++ leBytes 4 b.itineraryVersion ++
    leBytes 2 b.sections.length ++ leBytes 1 b.slices ++ leBytes 1 b.perString ++ leBytes 4 b.arraysTotal ++
    leBytes 2 b.layers ++ leBytes 1 b.outriders ++ leBytes 1 b.kvHeads ++ leBytes 2 b.headDim ++ leBytes 2 0 ++
    leBytes 4 b.vocab ++ leBytes 48 b.tokeniserHash ++ leBytes 96 0

/-- A directory entry (Table 04-3). -/
def BaleSection.entry (x : BaleSection) : List Byte :=
  leBytes 2 x.kind ++ leBytes 1 x.slice ++ leBytes 5 0 ++ leBytes 8 x.offset ++ leBytes 8 x.length ++ leBytes 8 0

/-- A LAYER_MAP entry (Table 04-5). -/
def layerEntryBytes (e : LayerEntry) : List Byte :=
  leBytes 2 e.layer ++ leBytes 1 e.matrix ++ leBytes 1 (bit e.mxint8) ++ leBytes 2 e.rowTile ++ leBytes 2 e.colTile ++
    leBytes 1 e.slice ++ leBytes 1 e.string ++ leBytes 1 e.index ++ leBytes 1 e.rangeStep ++ leBytes 4 e.tile

/-- The bytes of every section of a type, in directory order (Table 04-4). -/
def Bale.content (b : Bale) (kind : Nat) : List Byte :=
  (b.sections.filter fun x => x.kind = kind).flatMap fun x => slice x.offset x.length b.bytes

/-- The bytes that DIGEST covers: bytes 16 to 63 are taken as zero (Table 04-2). -/
def Bale.digested (b : Bale) : List Byte := b.bytes.take 16 ++ leBytes 48 0 ++ b.bytes.drop 64

/-- The header is of a version that generation 1 reads (Table 04-8). -/
def baleVersionOk (b : Bale) : Bool := b.magic = 0x4C414256 && b.format = 1 && b.generation ≤ 1

/-- The header and the directory stand in the bytes with their RSVD bytes zero, and every section is of a type of generation 1, on a
4 KiB boundary and within the bale (R88, Tables 04-2 to 04-4, 04-8; log 116). -/
def directoryOk (b : Bale) : Bool :=
  b.bytes.length = b.totalLength && b.totalLength ≤ 2 ^ 34 && b.bytes.take 256 = Bale.header b &&
    within b.sections.length 1 32 &&
    slice 256 (32 * b.sections.length) b.bytes = b.sections.flatMap BaleSection.entry &&
    b.sections.all fun x => within x.kind 1 9 && x.offset % 4096 = 0 && x.offset + x.length ≤ b.totalLength

/-- The sections whose layout the spec gives hold the bale's map, tiles and scales (R89, R90; log 116). -/
def sectionsOk (b : Bale) : Bool :=
  Bale.content b 1 = b.layerMap.flatMap layerEntryBytes &&
    Bale.content b 2 = b.tiles.flatMap (fun t => t.flatMap fun w => leBytes 8 w.toNat) && Bale.content b 3 = b.scales.flatten

/-- MXINT8 tiles carry equal scale pairs (R90). -/
def scalePairsOk (b : Bale) : Bool :=
  b.layerMap.all fun e => !e.mxint8 ||
    (let sc := b.scales.getD e.tile []
     (List.range 128).all fun j => sc.getD (2 * j) 0 = sc.getD (2 * j + 1) 0)

/-- A token bale's COST section gives every stage a layer segment (R24). -/
def stagesOk (b : Bale) : Bool :=
  b.kind ≠ 0 || (List.range b.slices).all fun i => b.segments.any fun g => g.stage = i

/-- A vision bale's descriptors and candidate numbers are in range (R195, R196, R199). -/
def visionOk (b : Bale) : Bool :=
  b.kind ≠ 1 || (b.convs.all convOk && (match b.detector with
    | some d => decide (candCount d ≤ 2 ^ 32)
    | none => true))

/-- The computed digest is DIGEST (Table 04-2). -/
def digestOk (b : Bale) : Bool := Config.sha384 (Bale.digested b) = b.digest

/-- What Customs and the Drover accept of a bale's content (Table 04-8). -/
def baleContentOk (b : Bale) : Bool :=
  digestOk b && directoryOk b && b.kind ≤ 1 && sectionsOk b && scalePairsOk b && stagesOk b && visionOk b

/-- A byte of a bale lies in its EMBEDDING section. -/
def Bale.embeds (b : Bale) (i : Nat) : Bool := b.sections.any fun x => x.kind = 6 && x.offset ≤ i && i < x.offset + x.length

/-- The bytes of a bale in its EMBEDDING section, and the others (R92). -/
def Bale.embedding (b : Bale) : List Byte := (b.bytes.zipIdx.filter fun p => Bale.embeds b p.2).map (·.1)
def Bale.rest (b : Bale) : List Byte := (b.bytes.zipIdx.filter fun p => !Bale.embeds b p.2).map (·.1)

/-- The tile bytes of a bale on one slice: 32 KiB for every array it uses there (R99, Table 04-4). -/
def Bale.sliceBytes (b : Bale) (slice : Nat) : Nat := 32768 * (b.layerMap.filter fun e => e.slice = slice).length

end Sys2Proof.Machine
end

