-- ==== Sys2Proof/Machine/Cores.lean ====
section
/-! DEFINITION. Caravan cores: strings, remap and spares, weight storage, firings with their checksum, re-fires, calibration,
fences, exhaustion and rotation (R31 to R85): shared operations. -/

namespace Sys2Proof.Machine

/-! ## Arrays and cores -/

/-- Number of an array. -/
def arrayKey (core string position : Nat) : Nat := 4160 * core + 130 * string + position

/-- An array's record. -/
def State.array (s : State) (core string position : Nat) : ArrayRec :=
  (Map.get? s.cores.arrays (arrayKey core string position)).getD (ArrayRec.fresh position)

/-- An array's record set. -/
def State.setArray (s : State) (core string position : Nat) (a : ArrayRec) : State :=
  { s with cores := { s.cores with arrays := Map.set s.cores.arrays (arrayKey core string position) a } }

/-- A core. -/
def State.core (s : State) (n : Nat) : Core := (Map.get? s.cores.core n).getD (Core.reset n)

/-- A core set. -/
def State.setCore (s : State) (n : Nat) (c : Core) : State :=
  { s with cores := { s.cores with core := Map.set s.cores.core n c } }

/-- Number of a mapped index. -/
def indexKey (core string index : Nat) : Nat := 4096 * core + 128 * string + index

/-- Physical position that backs a mapped index (R81). -/
def State.physical (s : State) (core string index : Nat) : Nat :=
  (Map.get? s.cores.remap (indexKey core string index)).getD index

/-- The mapped index that a position backs. -/
def State.indexAt (s : State) (core string position : Nat) : Option Nat :=
  (List.range 128).find? fun i => s.physical core string i = position

/-- Positions of a string in a state of Table 03-7. -/
def State.positionsIn (s : State) (core string st : Nat) : List Nat :=
  (List.range 130).filter fun p => (s.array core string p).state = st

/-- The working positions of a string, at most 128 (R82). -/
def State.working (s : State) (core string : Nat) : Nat := min 128 (130 - (s.positionsIn core string 3).length)

/-- A string's standby. -/
def State.standby (s : State) (core string : Nat) : Option Nat := (s.positionsIn core string 2).head?

/-- The spare that a retirement or a repair takes: the standby, else the lowest free spare (R77, Table 03-8). -/
def State.nextSpare (s : State) (core string : Nat) : Option Nat :=
  match s.standby core string with | some p => some p | none => (s.positionsIn core string 1).head?

/-- SPARES_LEFT of a core (Table 02-11). -/
def State.sparesLeft (s : State) (core : Nat) : Nat :=
  ((List.range 32).map fun st => (s.positionsIn core st 1).length + (s.positionsIn core st 2).length).sum

/-- STRINGS_EXHAUSTED of a core (Table 02-11). -/
def State.stringsExhausted (s : State) (core : Nat) : Nat :=
  ((List.range 32).filter fun st => (s.nextSpare core st).isNone).length

/-- Cores that are not fenced. -/
def State.unfenced (s : State) : List Nat := (s.cores.core.filter fun p => p.2.role ≠ 2).map (·.1)

/-- The resting core. -/
def State.restingCore (s : State) : Option Nat := (s.cores.core.find? fun p => p.2.role = 1).map (·.1)

/-- Rotation, full calibration at rest, rest scrubs and core-microcode handovers run (R84). -/
def State.rotates (s : State) : Bool := s.unfenced.length = 9 && s.cores.restPeriod ≠ 0

/-! ## Weight storage (R32, R33, R90, R251) -/

/-- Class address of an array's first word (R251). -/
def tileBase (string position : Nat) : Nat := (130 * string + position) * 34816

/-- The cells of a weight word. -/
def wordCells (w : W64) : List Int := (List.range 16).map fun n => cellValue (w.toNat / 16 ^ n)

/-- The reference and checksum word of a row (R32, R33; log 42). -/
def checkWord (row : List W64) : Nat :=
  let (h, m, l) := checksumTriple ((row.flatMap wordCells).sum)
  7 + 16 * 8 + 256 * h + 4096 * m + 65536 * l

/-- The 34,816 bytes of an array from its tile's 4,096 words (R32, R90, R251). -/
def tileBytesOf (tile : List W64) : List Byte :=
  (List.range 256).flatMap fun r =>
    let row := slice (16 * r) 16 tile
    ((List.range 16).flatMap fun w => leBytes 8 (row.getD w 0).toNat) ++ leBytes 8 (checkWord row)

/-- The weight words of an array are checked: a read of them meets every flip (R33, R259, R260). -/
def State.checkArray (s : State) (core string position : Nat) : State :=
  s.readRange 4 core (tileBase string position) 34816 false

/-- A weight word of an array is poisoned. -/
def State.badWord (s : State) (core string position : Nat) : Bool := s.isPoisoned 4 core (tileBase string position) 34816

/-- A tile written into an array, with its scales, mode and range step; the words are checked as they are written, and a
poisoned one makes the array suspect (R32, R33, R52, Table 09-11). -/
def State.writeTile (s : State) (core string position : Nat) (tile : List W64) (scales : List Byte) (mxint8 : Bool)
    (step tenant : Nat) : State :=
  let s := (s.memWrite 4 core (tileBase string position) (tileBytesOf tile) tenant).checkArray core string position
  s.setArray core string position { s.array core string position with
    scales := scales, mxint8 := mxint8, rangeStep := step, wordSuspect := s.badWord core string position }

/-- A stored cell of an array: weight columns 0 to 255, then REF0, REF1, CKH, CKM and CKL. -/
def State.cell (s : State) (core string position row column : Nat) : Int :=
  let m := s.memory 4 core
  let a := tileBase string position + row * 136 + column / 16 * 8 + column % 16 / 2
  cellValue ((Memory.read m a).toNat / 16 ^ (column % 2))

/-- The tile that an array now holds, read back from its cells. -/
def State.tileOf (s : State) (core string position : Nat) : List W64 :=
  (List.range 4096).map fun i =>
    BitVec.ofNat 64 (leNat ((s.memory 4 core).readBytes (tileBase string position + i / 16 * 136 + i % 16 * 8) 8))

/-- A tile moved into a spare position of its string (R77, Table 03-8, Table 09-11). -/
def State.copyTile (s : State) (core string src dst tenant : Nat) : State :=
  let a := s.array core string src
  s.writeTile core string dst (s.tileOf core string src) a.scales a.mxint8 a.rangeStep tenant

/-- The pattern −8 that a full calibration pass leaves in every weight, reference and checksum cell (R69; log 36). -/
def patternByte (a : Nat) : Byte :=
  let o := a % 136
  if o < 130 then 0x88 else if o = 130 then 0x08 else 0

/-- A core's weight storage after a full calibration pass. -/
def patternMemory : Memory :=
  ((List.range 144834560).filter fun a => patternByte a ≠ Memory.unlisted).map fun a => (a, patternByte a)

/-- REF0 and REF1 written in every row of every array, as the shell initialises them (R32; log 106). -/
def initRefs (m : Memory) : Memory :=
  (List.range 1064960).foldl (fun m r => Memory.write m (136 * r + 128) 0x87) m

/-- Every array of a core initialised (R32). -/
def State.initArrays (s : State) (core : Nat) : State := s.setMemory 4 core (initRefs (s.memory 4 core))

/-! ## One firing (R38 to R47, R72, R73) -/

/-- The 5 ns slot of the present moment. The spec does not relate the slots' phase to the TB clock: slots are counted from
power-on on the interval clock, DESIGN CHOICE log 107. -/
def State.slotNow (s : State) : Nat := s.up / 5

/-- F in force in the present slot: a change takes effect at the next slot boundary (R48). -/
def State.budget (s : State) : Nat :=
  if s.power.budgetWas.1 = s.slotNow then s.power.budgetWas.2 else s.power.fireBudget

/-- Firings of a core in the present slot. -/
def State.firedNow (s : State) (core : Nat) : List SlotFiring :=
  (s.core core).slotFirings.filter fun p => p.slot = s.slotNow

/-- The firing budget, the string cap, the array's one firing a slot and, for a calibration firing, the 32 of a slot leave room
for one more firing (R41, R48, R65). -/
def State.mayFire (s : State) (core string position : Nat) (calibration : Bool) : Bool :=
  let now := s.firedNow core
  now.length < s.budget && (now.filter fun p => p.string = string).length < s.budget / 32 &&
    !(now.any fun p => p.string = string && p.position = position) &&
    (!calibration || (now.filter (·.calibration)).length < 32)

/-- Entries of the last second. -/
def State.lastSecond {α : Type} (s : State) (time : α → Nat) (l : List α) : List α :=
  l.filter fun x => s.up < time x + 1000000000

/-- Firings that a core has made in the last second (R68, R83). -/
def State.firingRate (s : State) (core : Nat) : Nat :=
  ((s.lastSecond (·.1) (s.core core).recentFirings).map (·.2)).sum

/-- Firings noted among those of the last second (R83). -/
def State.noteFirings (s : State) (core n : Nat) : State :=
  let c := s.core core
  s.setCore core { c with recentFirings := s.lastSecond (·.1) c.recentFirings ++ [(s.up, n)] }

/-- One firing of a core counted: ARRAY_FIRINGS, BUDGET_LIMITED_SLOTS, and its place in the slot (R41, R48, R58). -/
def State.countFiring (s : State) (core string position : Nat) (calibration : Bool) : State :=
  let now := s.firedNow core
  let s := s.noteFirings core 1
  let s := s.setCore core { s.core core with
    slotFirings := now ++ [{ slot := s.slotNow, string := string, position := position, calibration := calibration }] }
  let s := s.countPrescaled 0x0001 core 0 0 0 8 1
  if s.budget < 512 && now.isEmpty then s.count 0x0001 core 0 0 0 56 1 else s

/-- `n` firings of a core made by themselves, at F in a slot: ARRAY_FIRINGS and BUDGET_LIMITED_SLOTS (R48, R58). -/
def State.countFirings (s : State) (core n : Nat) : State :=
  let s := (s.noteFirings core n).countPrescaled 0x0001 core 0 0 0 8 n
  if s.budget < 512 then s.count 0x0001 core 0 0 0 56 (ceilDiv n (max 1 s.budget)) else s

/-- The range step at which an array's weight columns convert: that of its layer, and 7 where no index maps to it and it holds
no layer's tile as a standby (R42, R63). -/
def ArrayRec.convStep (a : ArrayRec) : Nat := if a.state = 0 || a.state = 2 then a.rangeStep else 7

/-- Partial sum of digit `k` of the aligned activations on a column (R41). -/
def partialSum (xs cells : List Int) (k : Nat) : Int := ((xs.zip cells).map fun p => digit p.1 k * p.2).sum

/-- The column integer of a column and its saturated conversions; the converter's errors are free values from number `n` on
(R42 to R44, R57; log 8). -/
def fireColumn (xs cells : List Int) (step n : Nat) (err : Nat → Int) : Int × Nat :=
  let code := fun k : Nat => convert (partialSum xs cells k) step (err (n + k))
  (columnInt step (code 3) (code 2) (code 1) (code 0),
   ((List.range 4).filter fun k => isSaturated step (code k)).length)

/-- What an array's firing gives: column integers, saturated conversions, and the checksum difference (R44, R72). -/
structure FireResult where
  y : List Int
  saturated : Nat
  dis : Nat
  deriving DecidableEq, Repr

/-- One firing of an array on aligned activations, with free values from number `n` on, 1,044 of them. -/
def State.fire (s : State) (core string position : Nat) (xs : List Int) (n : Nat) : FireResult :=
  let step := (s.array core string position).convStep
  let col := fun j : Nat => (List.range 256).map fun r => s.cell core string position r j
  let ws := (List.range 256).map fun j => fireColumn xs (col j) step (n + 4 * j) Config.analogError
  let ck := fun j : Nat => (fireColumn xs (col (258 + j)) 7 (n + 1024 + 4 * j) Config.checkError).1
  let w := (ws.map (·.1)).sum
  let c := 256 * ck 0 + 16 * ck 1 + ck 2 + 272 * xs.sum
  { y := ws.map (·.1), saturated := (ws.map (·.2)).sum, dis := (w - c).natAbs }

/-- The FP32 results of an array's columns or column pairs; a scale of 0xFF gives a quiet NaN (R44, R45, R47). -/
def columnResults (a : ArrayRec) (y xs : List Int) (emax : Nat) : List Fp × Nat :=
  let scale := fun j : Nat => (a.scales.getD j 0).toNat
  if a.mxint8 then
    ((List.range 128).map fun j =>
      if scale (2 * j) = 255 then Fp.pure F32.qnan
      else scaleColumn (pairInt (y.getD (2 * j) 0) (y.getD (2 * j + 1) 0) xs.sum) (scale (2 * j)) emax (-6),
     ((List.range 256).filter fun j => scale j = 255).length)
  else
    ((List.range 256).map fun j =>
      if scale j = 255 then Fp.pure F32.qnan else scaleColumn (y.getD j 0) (scale j) emax 0,
     ((List.range 256).filter fun j => scale j = 255).length)

/-- Row tiles of a sum that have come in order are added (R46): the sum, with its saturations and flushes. -/
def RowSum.add (x : RowSum) (fuel : Nat) : RowSum × Nat × Nat :=
  match fuel with
  | 0 => (x, 0, 0)
  | k + 1 =>
    match x.waiting.find? fun w => w.1 = x.next && w.2.2.isSome with
    | some (_, ticket, some r) =>
      let base := if x.next = 0 then r.map fun _ => F32.zero else x.acc
      let sums := (base.zip r).map fun p => F32.add p.1 p.2
      let y := RowSum.add { x with
        acc := sums.map (·.v), next := x.next + 1, waiting := x.waiting.filter fun w => w.2.1 ≠ ticket } k
      (y.1, y.2.1 + (sums.map (·.sat)).sum, y.2.2 + (sums.map (·.flu)).sum)
    | _ => (x, 0, 0)

/-- A sum of a core put back after as many additions as its order allows (R46). -/
def State.addSum (s : State) (core : Nat) (x : RowSum) : State :=
  let (y, sat, flu) := x.add x.waiting.length
  let c := s.core core
  (s.setCore core { c with sums := (c.sums.filter fun z => z.key ≠ y.key) ++ [y] }).countFp core sat flu

/-- A row tile's results, known or still awaited, joined to the sum of its output tile; a finished sum starts anew from +0
(R46, R75). -/
def State.queueTile (s : State) (core ticket : Nat) (t : TileRef) (r : Option (List F32)) : State :=
  let fresh : RowSum := { key := t.key, next := 0, total := t.total, acc := [], waiting := [] }
  let x := match (s.core core).sums.find? fun z => z.key = t.key with
    | some z => if z.next < z.total then z else fresh
    | none => fresh
  s.addSum core { x with waiting := x.waiting ++ [(t.rowTile, ticket, r)] }

/-- The results of an awaited row tile (R75). -/
def State.fillTile (s : State) (core ticket : Nat) (t : TileRef) (r : List F32) : State :=
  match (s.core core).sums.find? fun z => z.key = t.key with
  | some z =>
    s.addSum core { z with waiting := z.waiting.map fun w => if w.2.1 = ticket then (w.1, w.2.1, some r) else w }
  | none => s

/-- Row tiles of a sum queued where a firing carries data. -/
def State.queueData (s : State) (core ticket : Nat) (t : Option TileRef) (r : Option (List F32)) : State :=
  match t with | some t => s.queueTile core ticket t r | none => s

/-- The results of an awaited row tile where a firing carries data. -/
def State.fillData (s : State) (core ticket : Nat) (t : Option TileRef) (r : List F32) : State :=
  match t with | some t => s.fillTile core ticket t r | none => s

/-- The sums of a bay, which its convoys have left (R46). -/
def State.dropSums (s : State) (bay : Nat) : State :=
  { s with cores := { s.cores with core := s.cores.core.map fun p =>
    (p.1, { p.2 with sums := p.2.sums.filter fun x => x.key.bay ≠ bay }) } }

/-- A result marked suspect: counted, and carried to the report of its request (R78, R79). -/
def State.markSuspect (s : State) (f : Firing) : State :=
  let a := s.array f.core f.string f.position
  let s := (s.setArray f.core f.string f.position { a with suspect := satAdd 16 1 a.suspect }).count 0x0001 f.core 0 0 0 80 1
  match f.request with
  | some id =>
    (match s.request id with
     | some r => s.setReq { r with suspect := satAdd 16 1 r.suspect }
     | none => s)
  | none => s

/-- The log entry of a disagreement, at most one per array in 10 ms (R79, Table 09-18). -/
def State.logDisagreement (s : State) (f : Firing) (outcome saturated dis : Nat) : State :=
  let id := leBytes 1 f.core ++ leBytes 1 f.string ++ leBytes 1 f.position
  s.logLimited 0x04 4 f.core 255
    (id ++ leBytes 1 f.bay ++ leBytes 2 f.segment ++ leBytes 1 outcome ++ leBytes 2 saturated ++
      leBytes 8 (s.stat (statKey 0x0003 f.bay 0 0 0 16)) ++ leBytes 8 dis)
    fun e => e.kind = 4 && e.detail.take 3 = id

/-- The checksum tolerance of a bay (R73). -/
def State.tolerance (s : State) (bay : Nat) : Nat := ((s.bay bay).map (·.tol)).getD 30

/-! ## Abandoned convoys and emptied bays (R82, R83) -/

/-- A request whose convoy is abandoned goes back to wait for its step: what the step reserved and its tails return, and a scatter
of the step before that has not begun waits for its next step (R83, R127). -/
def State.revertReq (s : State) (r : Req) : State :=
  let s := s.freeFrames (r.tails ++ r.reserved)
  let r := { r with state := if r.steps = 0 then 0 else 2, tails := [], reserved := [] }
  if r.scattering.isEmpty || !r.layersDone.isEmpty then s.setReq r
  else s.setReq { r with
    toScatter := r.scattering, tails := r.scatTails, reserved := r.scatReserved, scattering := [], scatTails := [],
    scatReserved := [] }

/-- Every convoy of a bay in flight or planned is abandoned (R83). -/
def State.abandonConvoys (s : State) (n : Nat) : State :=
  match s.bay n with
  | none => s
  | some b =>
    let flying := b.ahead
    let s := (flying.flatMap fun c => c.mask).foldl (fun s i =>
      match s.request i with
      | some r => if r.state = 1 then s.revertReq r else s
      | none => s) s
    let s := s.freeFrames (flying.flatMap fun c => c.tails)
    s.modBay n fun b => { b with stages := b.stages.map fun _ => none, planned := [] }

/-- A bay left empty: its convoys abandoned, a seating under way ended with NO_BAY_SPACE (R82, R83, Table 04-11). -/
def State.emptyBay (s : State) (n : Nat) : State :=
  let s := s.abandonConvoys n
  match s.bay n with
  | none => s
  | some b =>
    let s := match b.jobs with
      | j :: _ => (match j.stopped, j.handle, j.ref with
        | true, some _, some c => s.reply c Status.noBaySpace 0 0
        | _, _, _ => s)
      | [] => s
    let jobs := match b.jobs with
      | j :: r => if j.stopped && j.handle.isSome then r else j :: r
      | [] => []
    s.modBay n fun b => { b with
      seated := none, bale := none, jobs := jobs, stages := [], own := [], attention := [], projection := [] }

/-- Bays whose mask includes a slice. -/
def State.sliceBays (s : State) (slice : Nat) : List Nat :=
  (s.bays.bay.filter fun p => bitOf p.2.sliceMask slice).map (·.1)

/-- Entries of a bale on a slice of its bay. -/
def Bay.entriesOn (b : Bay) (bale : Bale) (slice : Nat) : List LayerEntry :=
  bale.layerMap.filter fun e => b.slices.getD e.slice 8 = slice

/-- The tiles of one slice of a bay written onto a core, from the bale's staging copy (R70, R98). -/
def State.loadBaySlice (s : State) (b : Bay) (bale : Bale) (slice core : Nat) : State :=
  (Bay.entriesOn b bale slice).foldl (fun s e =>
    s.writeTile core e.string (s.physical core e.string (b.start + e.index)) (bale.tiles.getD e.tile [])
      (bale.scales.getD e.tile []) e.mxint8 e.rangeStep b.owner) s

/-- A seating that has begun writes a bay's slice: the last convoy has left the slice's stage, and under DRAIN every request of
the outgoing bale has ended its steps (R52, R98). -/
def State.writesSlice (s : State) (n : Nat) (b : Bay) (slice : Nat) : Bool :=
  match b.seating with
  | none => false
  | some j =>
    j.handle.isSome &&
      ((b.stages.take ((b.slices.filter fun i => i < slice).length + 1)).all Option.isNone) &&
      (j.preempt || b.seated.isNone ||
        !(s.reqs.slot.any fun r => r.2.bay = n && r.2.bale = b.seated && (r.2.state = 1 || r.2.state = 2)))

/-- The bale whose tiles a bay's slice holds: the seated one, or the incoming one while a seating writes the slice (R98,
Table 04-11). -/
def State.sliceBale (s : State) (n : Nat) (b : Bay) (slice : Nat) : Option Bale :=
  if s.writesSlice n b slice then ((b.seating.bind (·.handle)).bind s.stagedBale).map (·.bale) else b.bale

/-- The bay with its number, bale and entry whose tile a mapped index of a core holds. -/
def State.tileFor (s : State) (core string index : Nat) : Option (Nat × Bay × Bale × LayerEntry) :=
  let slice := ((s.core core).slice).getD 8
  s.bays.bay.findSome? fun p =>
    match s.sliceBale p.1 p.2 slice with
    | some bale =>
      ((Bay.entriesOn p.2 bale slice).find? fun (e : LayerEntry) => e.string = string && p.2.start + e.index = index).map
        fun e => (p.1, p.2, bale, e)
    | none => none

/-- The tile of a mapped index written from the staging copy into a position of its string. -/
def State.writeIndex (s : State) (core string index position : Nat) : State :=
  match s.tileFor core string index with
  | some (_, b, bale, e) =>
    s.writeTile core string position (bale.tiles.getD e.tile []) (bale.scales.getD e.tile []) e.mxint8 e.rangeStep b.owner
  | none => s

/-- An uncorrectable error in the staging copy of a bale: it is poisoned, and while the bale is seated one event is raised for
each of its bays; rotation of their slices is then suspended (R102). -/
def State.stagingError (s : State) (handle : Nat) : State :=
  match s.stagedBale handle with
  | none => s
  | some g =>
    if g.poisoned then s
    else
      let s := { s with bays := { s.bays with staged := Map.set s.bays.staged handle { g with poisoned := true } } }
      (s.bays.bay.filter fun p => p.2.seated = some handle).foldl (fun s p => s.event2 g.tenant 0x0106 handle p.1) s

/-- Rotation handovers of a core's slice are suspended: a bale seated on it has a bad staging copy (R102). -/
def State.rotationHeld (s : State) (core : Nat) : Bool :=
  match (s.core core).slice with
  | none => false
  | some i => s.bays.bay.any fun p => bitOf p.2.sliceMask i &&
      ((p.2.seated.bind s.stagedBale).any fun g => g.poisoned)

/-- The staging copy of a bale is read: flips are met and poison found (R97, R102). -/
def State.readStaging (s : State) (handle : Nat) : State :=
  match s.stagedBale handle with
  | none => s
  | some g =>
    let s := g.frames.foldl (fun s p => s.readRange (p / 2 ^ 30) 0 (65536 * (p % 2 ^ 30)) 65536 false) s
    if g.frames.any fun p => s.isPoisoned (p / 2 ^ 30) 0 (65536 * (p % 2 ^ 30)) 65536 then s.stagingError handle else s

/-- The staging copies are read from which a slice is loaded: those of the bales seated on it, or of those that a seating writes
(R70, R102, Table 04-11). -/
def State.readSliceStaging (s : State) (slice : Nat) : State :=
  ((s.bays.bay.filter fun p => bitOf p.2.sliceMask slice).filterMap fun p =>
    if s.writesSlice p.1 p.2 slice then p.2.seating.bind (·.handle) else p.2.seated).foldl State.readStaging s

/-- The tiles of a slice's bales written onto a core (R70, Table 04-11). -/
def State.loadSlice (s : State) (slice core : Nat) : State :=
  s.bays.bay.foldl (fun s p =>
    match s.sliceBale p.1 p.2 slice with
    | some bale => if bitOf p.2.sliceMask slice then s.loadBaySlice p.2 bale slice core else s
    | none => s) s

/-! ## Remap (R77, R81, Table 09-11) -/

/-- An array recorded as retired, with the remap, in library flash (R81). -/
def State.recordArray (s : State) (core string position : Nat) : State :=
  let a := { s.array core string position with state := 3, standbyFor := none }
  let s := s.setArray core string position a
  let s := { s with persist := { s.persist with
    retiredArrays := s.persist.retiredArrays ++ [arrayKey core string position], remap := s.cores.remap } }
  s.logAdd 0x08 4 core 255 false (leBytes 1 core ++ leBytes 1 string ++ leBytes 1 position)

/-- A mapped index pointed at another position. -/
def State.setRemap (s : State) (core string index position : Nat) : State :=
  { s with cores := { s.cores with remap := Map.set s.cores.remap (indexKey core string index) position } }

/-- One remap switches: a retirement records its array and replies, a repair rewrites the old array and returns it as a free
spare; a command that joined a switch made already replies (R81, Table 09-11). -/
def State.switchRemap (s : State) (core : Nat) (d : Nat × Nat × Option CmdRef) : State :=
  let st := d.1 % 4096 / 128
  let i := d.1 % 128
  let old := s.physical core st i
  match d.2.2 with
  | some c =>
    (if old = d.2.1 then s else (s.setRemap core st i d.2.1).recordArray core st old).reply c Status.done 0 0
  | none =>
    if old = d.2.1 then s
    else
      let s := (s.writeIndex core st i old).setRemap core st i d.2.1
      s.setArray core st old { s.array core st old with state := 1 }

/-- A core that keeps serving until a handover takes its slice: its remaps wait until it next carries one (Table 03-9). -/
def State.leavesService (s : State) (core : Nat) : Bool :=
  (s.core core).role = 0 && s.cores.handover.any fun h => h.outgoing = some core && !h.forFence

/-- Those of a core's remaps that are due switch whose mapped index meets a condition (R81). -/
def State.switchIndices (s : State) (core : Nat) (which : Nat → Bool) : State :=
  let (due, rest) := s.cores.remapDue.partition fun d => d.1 / 4096 = core && which (d.1 % 128)
  due.foldl (fun s d => s.switchRemap core d) { s with cores := { s.cores with remapDue := rest } }

/-- Remaps due on a core switch at a boundary (R81, Table 03-9). -/
def State.switchRemaps (s : State) (core : Nat) : State :=
  if s.leavesService core then s else s.switchIndices core fun _ => true

/-- A mapped index of a core lies in a bay whose slice a seating writes, so that nothing fires it (R98). -/
def State.writtenIndex (s : State) (core index : Nat) : Bool :=
  match (s.core core).slice with
  | none => false
  | some i => s.bays.bay.any fun p => bitOf p.2.sliceMask i && p.2.start ≤ index && index < p.2.start + p.2.share &&
      s.writesSlice p.1 p.2 i

/-- A remap of a mapped index waits for the boundary. A RETIRE_ARRAY of an index whose remap waits already joins it: a
repair then ends as a retirement (R81; log 108). -/
def State.queueRemap (s : State) (core string index position : Nat) (c : Option CmdRef) : State :=
  let k := indexKey core string index
  let due := s.cores.remapDue
  let joined := if due.any fun d => d.1 = k && d.2.2.isNone
    then due.map fun d => if d.1 = k then (d.1, d.2.1, c) else d
    else match due.find? fun d => d.1 = k with
      | some d => due ++ [(k, d.2.1, c)]
      | none => due ++ [(k, position, c)]
  { s with cores := { s.cores with remapDue := joined } }

/-- A remap of the mapped index waits. -/
def State.remapWaits (s : State) (core string index : Nat) : Bool :=
  s.cores.remapDue.any fun d => d.1 = indexKey core string index

/-! ## Standbys (R77) -/

/-- After an array's first disagreement a free spare of its string takes its tile and becomes the standby; the write takes
256 ns (R77, Table 03-9). -/
def State.assignStandby (s : State) (core string position : Nat) : State :=
  if (s.standby core string).isSome || (s.array core string position).disagree ≠ 1 then s
  else
    match (s.positionsIn core string 1).head? with
    | none => s
    | some p =>
      let s := match s.indexAt core string position with
        | some i => s.writeIndex core string i p
        | none => s.copyTile core string position p 0
      s.setArray core string p { s.array core string p with
        state := 2, standbyFor := some position, writeEnd := some (s.up + 256) }

/-- The standby that holds an array's tile, once it is written (R75, R77). A string's one standby may hold another array's tile:
it then is no standby for this array, DESIGN CHOICE log 109. -/
def State.standbyOf (s : State) (core string position : Nat) : Option Nat :=
  (s.standby core string).bind fun p =>
    let a := s.array core string p
    if a.standbyFor = some position && (a.writeEnd.all fun t => t ≤ s.up) then some p else none

/-- Standbys of a core are free spares again where the positions they stand by for, in their strings, meet a condition (R77). -/
def State.releaseStandbysOf (s : State) (core : Nat) (which : Nat → Nat → Bool) : State :=
  { s with cores := { s.cores with arrays := s.cores.arrays.map fun p =>
    (p.1, if p.1 / 4160 = core && p.2.state = 2 && (p.2.standbyFor.all fun q => which (p.1 % 4160 / 130) q)
      then { p.2 with state := 1, standbyFor := none, writeEnd := none } else p.2) } }

/-- A core's standbys are free spares again: their arrays have left it (R77). -/
def State.releaseStandbys (s : State) (core : Nat) : State := s.releaseStandbysOf core fun _ _ => true

/-! ## Fences and exhaustion (R82, R83) -/

/-- SHRINK_APPLIED for a bay (Table 10-25). -/
def State.shrinkEvent (s : State) (bay core : Nat) : State :=
  s.event2 (((s.bay bay).map (·.owner)).getD 0) 0x0105 bay core

/-- A handover ends without a swap: the incoming core rests again, and ROTATE_NOW replies with equal fields (R70, R294). -/
def State.abandonHandover (s : State) : State :=
  match s.cores.handover with
  | none => s
  | some h =>
    let c := s.core h.incoming
    let s := { s with cores := { s.cores with handover := none } }
    let s := if c.role = 3 then s.setCore h.incoming { c with role := 1, slice := none, restStart := some s.up } else s
    let out := h.outgoing.getD 0
    h.refs.foldl (fun s r => s.reply r Status.done (out + 256 * out) 0) s

/-- A slice is left without a core: the bays of the slice are emptied (R83). -/
def State.loseSlice (s : State) (slice core : Nat) : State :=
  (s.sliceBays slice).foldl (fun s n => (s.emptyBay n).shrinkEvent n core) s

/-- A handover given up on the core that loads; the slice of a fenced core, which it was to restore, is then left without a
core (R83, R84, Table 03-9). -/
def State.dropHandover (s : State) (slice : Option Nat) (core : Nat) : State :=
  match s.cores.handover.any fun h => h.forFence, slice with
  | true, some i => s.abandonHandover.loseSlice i core
  | _, _ => s.abandonHandover

/-- Bays whose convoys run on a core: seated ones of its slice. -/
def State.servesBay (s : State) (core : Nat) : Bool :=
  s.bays.bay.any fun p => p.2.seated.isSome && (s.core core).slice.any fun i => bitOf p.2.sliceMask i

/-- A core is fenced (R83). -/
def State.fenceCore (s : State) (n reason : Nat) : State :=
  let c := s.core n
  if c.role = 2 then s
  else
    let s := (s.setCore n { c with
      role := 2, slice := none, fenceReason := reason, restStart := none, sums := [] }).event 0 0x0104 n reason
    let s := { s with cores := { s.cores with refires := s.cores.refires.filter fun r => r.firing.core ≠ n } }
    let s := (s.switchRemaps n).releaseStandbys n
    match c.role, c.slice with
    | 3, slice => s.dropHandover slice n
    | 0, some slice =>
      let s := (s.sliceBays slice).foldl State.abandonConvoys s
      (match s.cores.handover with
       | some h =>
         if h.outgoing = some n then { s with cores := { s.cores with handover := some { h with forFence := true } } }
         else s.loseSlice slice n
       | none =>
         match s.restingCore with
         | some r =>
           let s := s.setCore r { s.core r with role := 3, slice := some slice }
           { s with cores := { s.cores with
             handover := some { outgoing := some n, incoming := r, loaded := false, refs := [], forFence := true } } }
         | none => s.loseSlice slice n)
    | _, _ => s

/-- Highest mapped index that seated bays use in a string, plus one (R82). -/
def State.indicesUsed (s : State) (string : Nat) : Nat :=
  s.bays.bay.foldl (fun m p =>
    match p.2.bale with
    | some b => (b.layerMap.filter fun e => e.string = string).foldl (fun m e => max m (p.2.start + e.index + 1)) m
    | none => m) 0

/-- A core fits the seated bales (R82). -/
def State.coreFits (s : State) (core : Nat) : Bool :=
  (List.range 32).all fun st => s.indicesUsed st ≤ s.working core st

/-- The least working count over the strings of every unfenced core. -/
def State.leastWorking (s : State) : Nat :=
  s.unfenced.foldl (fun m c => (List.range 32).foldl (fun m st => min m (s.working c st)) m) 128

/-- SHRINK: every bay that uses an index without an array on the core is emptied and its share reduced (R82). -/
def State.shrink (s : State) (core : Nat) : State :=
  let hit := s.bays.bay.filter fun p => match p.2.bale with
    | some b => b.layerMap.any fun e => p.2.start + e.index ≥ s.working core e.string
    | none => false
  let least := s.leastWorking
  hit.foldl (fun s p =>
    ((s.emptyBay p.1).modBay p.1 fun b => { b with share := least - b.start }).shrinkEvent p.1 core) s

/-- Slices that seated bays need. -/
def State.slicesNeeded (s : State) : Nat :=
  ((List.range 8).filter fun i => s.bays.bay.any fun p => p.2.seated.isSome && bitOf p.2.sliceMask i).length

/-- The exhaustion policy for a core that no longer fits; FENCE that would leave too few cores becomes SHRINK, and a core
fenced already stays fenced, for this reason now (R82; log 43). -/
def State.exhaust (s : State) (core : Nat) : State :=
  if s.coreFits core then s
  else if s.cores.exhaustion = 0 && (s.core core).role = 2 then s.setCore core { s.core core with fenceReason := 0 }
  else if s.cores.exhaustion = 0 && s.unfenced.length ≥ s.slicesNeeded + 1 then s.fenceCore core 0
  else s.shrink core

/-! ## Repair of a weight word (Table 09-11) -/

/-- A poisoned weight word found by a scrub: the array is suspect, and on an in-service core its tile moves to a spare at the
next boundary (Table 09-11). -/
def State.repairWord (s : State) (core string position : Nat) : State :=
  let s := s.setArray core string position { s.array core string position with wordSuspect := true }
  match (s.core core).role, s.indexAt core string position, s.nextSpare core string with
  | 0, some i, some p =>
    if s.remapWaits core string i then s
    else
      let s := s.writeIndex core string i p
      let s := s.setArray core string p { s.array core string p with state := 0, standbyFor := none }
      s.queueRemap core string i p none
  | _, _, _ => s

/-- Poisoned weight words of a range are handled: their arrays are suspect, and those in service repaired (Table 09-11). -/
def State.repairWords (s : State) (core addr len : Nat) : State :=
  (s.mem.poison.filter fun p => p.1 = memKey 4 core && addr ≤ p.2 && p.2 < addr + len).foldl (fun s p =>
    s.repairWord core (p.2 / 34816 / 130) (p.2 / 34816 % 130)) s

/-! ## Rotation (R67 to R70, R84) -/

/-- The core that leaves service at the end of a rest period: the earliest last rest, never rested first, lowest index (R67). -/
def State.outgoingCore (s : State) : Option Nat :=
  let inService := s.cores.core.filter fun p => p.2.role = 0
  (inService.foldl (fun (b : Option (Nat × Core)) p =>
    match b with
    | none => some p
    | some q =>
      match p.2.lastRestEnd, q.2.lastRestEnd with
      | none, some _ => some p
      | some x, some y => if x < y then some p else b
      | _, none => b) none).map (·.1)

/-- A handover begins: the resting core loads the outgoing core's slice (R70). -/
def State.beginHandover (s : State) (out inc : Nat) (refs : List CmdRef) : State :=
  let s := s.setCore inc { s.core inc with role := 3, slice := (s.core out).slice }
  { s with cores := { s.cores with
    handover := some { outgoing := some out, incoming := inc, loaded := false, refs := refs, forFence := false } } }

/-- Rest scrubs of a core: every weight word and store is read and checked, and bad words are handled (Table 03-4 rows 1
and 2, Table 09-11). -/
def State.restScrub (s : State) (core : Nat) : State :=
  let s := (s.readRange 4 core 0 (classBytes 4) true).repairWords core 0 (classBytes 4)
  let s := (s.readRange 2 core 0 (classBytes 2) true).readRange 3 core 0 (classBytes 3) true
  s.setCore core { s.core core with restScrubbed := true }

/-- A loading core enters service; its background passes begin (Table 03-1, R65). -/
def State.enterService (s : State) (core : Nat) : State :=
  s.setCore core { s.core core with role := 0, restStart := none, passStart := s.up, visited := [], overdue := false }

/-- The roles swap at a boundary: the incoming core enters service, the outgoing one begins its rest, its remaps switched and
its standbys released (R70, R77, R294, Table 03-9). -/
def State.swapRoles (s : State) (h : Handover) : State :=
  let s := s.setCore h.incoming { s.core h.incoming with lastRestEnd := some s.up }
  let s := s.enterService h.incoming
  let s := s.count 0x0001 h.incoming 0 0 0 88 1
  let s := { s with cores := { s.cores with handover := none, restFrom := s.up } }
  let s := match h.outgoing with
    | some out =>
      if h.forFence then s
      else
        let s := s.setCore out { s.core out with
          role := 1, slice := none, restStart := some s.up, restScrubbed := false, sums := [] }
        let s := (s.switchRemaps out).releaseStandbys out
        if s.rotates then s.restScrub out else s
    | none => s
  h.refs.foldl (fun s r => s.reply r Status.done (h.outgoing.getD 0 + 256 * h.incoming) 0) s

/-- A slice that no core carries (R83). -/
def State.lostSlice (s : State) : Option Nat :=
  (List.range 8).find? fun i => !(s.cores.core.any fun p => p.2.slice = some i)

/-- A slice without a core takes an unfenced core at a boundary, with no rest first: the core loads, with nothing to write since
every bay of the slice is empty, and enters service (R84, Table 03-1). -/
def State.adoptSlice (s : State) : State :=
  match s.lostSlice, s.restingCore with
  | some i, some r => (s.setCore r { s.core r with role := 3, slice := some i }).enterService r
  | _, _ => s

end Sys2Proof.Machine
end

