-- ==== Sys2Proof/Machine/Passes.lean ====
section
/-! DEFINITION. The attention of a boundary's interval, tile by tile, and that of a vision bay (R108 to R119, R127). -/

namespace Sys2Proof.Machine

/-! ## Attention of the stages (R108 to R119) -/

/-- Kinds of the positions that a member's step carries: its prefill entries, or its sampled tokens (R111, R166). -/
def stepKinds (r : Req) (m : Member) : List Nat :=
  if m.prefill then (r.prefill.take m.q).map (·.2) else List.replicate m.q r.tmpl.outKind

/-- An item of a stage's attention work with its request and its member of the convoy (R24, R152). -/
structure StepItem where
  req : Req
  member : Member
  work : AttnWork
  deriving DecidableEq, Repr

/-- The items of a layer in convoy order: by request, then by position (R118). -/
def State.stepItems (s : State) (c : Convoy) (layer : Nat) (work : List AttnWork) : List StepItem :=
  c.members.flatMap fun m =>
    match s.request m.request with
    | none => []
    | some r =>
      if r.state ≠ 1 || !c.mask.contains r.id then []
      else (List.range m.q).filterMap fun j =>
        (work.find? fun w => w.request = r.id && w.layer = layer && w.position = s.committedLength r + j).map
          fun w => { req := r, member := m, work := w }

/-- The scatter of one layer for every request of a convoy (R127). -/
def State.scatterConvoy (s : State) (c : Convoy) (layer : Nat) : State :=
  c.members.foldl (fun s m =>
    match s.request m.request with
    | some r => if r.state = 1 then (match s.scatterLayer r layer with | some (t, r) => t.setReq r | none => s) else s
    | none => s) s

/-- K and V of one position converted and stored in the activation store and in its tail, with saturations counted (R109, R112,
R121). -/
def State.storeKv (s : State) (n first : Nat) (p : LayerParams) (x : StepItem) : State :=
  let w := x.work
  let g := s.historyGeometry x.req
  let ks := w.keys.zipIdx.map fun k => kvConvert (p.sigmaK.getD (first + k.2) F32.one) k.1
  let vs := w.values.zipIdx.map fun v => kvConvert (p.sigmaV.getD (first + v.2) F32.one) v.1
  let j := w.position - s.committedLength x.req
  let s := s.tailWrite g x.req.tails j w.layer (first * g.2.2.1) (ks.map (·.1)).flatten
  let s := s.tailWrite g x.req.tails j w.layer ((g.2.1 + first) * g.2.2.1) (vs.map (·.1)).flatten
  let own := (ks.zip vs).zipIdx.map fun h : ((List Byte × Nat) × (List Byte × Nat)) × Nat =>
    ({ request := w.request, layer := w.layer, position := w.position, head := first + h.2, key := h.1.1.1,
       value := h.1.2.1 } : StepKv)
  let s := s.modBay n fun b => { b with own := b.own ++ own }
  let sat := ((ks ++ vs).map (·.2)).sum
  if sat = 0 then s else s.count 0x0004 0 0 x.req.context 0 48 sat

/-- The K and V bytes of a committed position at a layer: from its page frame, or from the tail while the layer's scatter has
not reached it (R112, R127). -/
def State.kvAt (s : State) (r : Req) (layer k : Nat) : List Byte :=
  let g := s.historyGeometry r
  let (len, pages, _) := s.history r
  if k < len || r.layersDone.contains layer then s.committedRead g pages k layer
  else s.tailRead g r.scatTails (k - len) layer

/-- The positions that a query sees, ascending (R111, R112). -/
def State.visibleKeys (s : State) (p : LayerParams) (x : StepItem) : List Nat :=
  let kinds := (s.history x.req).2.2 ++ x.req.scattering ++ stepKinds x.req x.member
  (List.range (x.work.position + 1)).filter fun k => visible x.work.position k p.window p.kindMask (kinds.getD k 0)

/-- The page frames that a query's committed keys lie in (R112, R118). -/
def State.keyFrames (s : State) (p : LayerParams) (x : StepItem) : List Nat :=
  let g := s.historyGeometry x.req
  let mine := (s.history x.req).2.1.getD p.layer []
  (((s.visibleKeys p x).filter fun k => k < s.committedLength x.req).map fun k => k / npf g.2.1 g.2.2.1).dedup.filterMap
    fun i => mine[i]?

/-- A group-row with its place in the layer (R118). -/
structure TileRow where
  layer : Nat
  position : Nat
  head : Nat
  row : GroupRow
  deriving DecidableEq, Repr

/-- The group-row of a position and KV head, `local_` within the segment (R108, R112, R115). -/
def State.groupRow (s : State) (b : Bay) (core group first local_ : Nat) (p : LayerParams) (x : StepItem) : TileRow :=
  let r := x.req
  let g := s.historyGeometry r
  let head := first + local_
  let start := s.committedLength r
  let kv := (s.visibleKeys p x).map fun k =>
    if k < start then
      let bytes := s.kvAt r p.layer k
      (k, headBytes g bytes head false, headBytes g bytes head true)
    else
      match b.own.find? fun o => o.request = r.id && o.layer = p.layer && o.position = k && o.head = head with
      | some o => (k, o.key.map (·.toNat), o.value.map (·.toNat))
      | none => (k, [], [])
  { layer := p.layer, position := x.work.position, head := head,
    row :=
      { core := core, tenant := r.tenant, request := some r.id, context := r.context, format := .e4m3, bound := x.member.bound,
        sigmaK := p.sigmaK.getD head F32.one, sigmaV := p.sigmaV.getD head F32.one, factor := p.factor,
        queries := (slice (local_ * group) group x.work.queries).map fun q => (queryScale q, queryElements q),
        keys := kv.map fun k => (k.1, k.2.1), values := kv.map fun k => k.2.2, width := g.2.2.1 } }

/-- Consecutive group-rows joined to tiles of at most 16 MiB of scores; one that is larger stands alone (R118, R119). -/
def tilesOf {α : Type} (size : α → Nat) (rows tile : List α) (used : Nat) : List (List α) :=
  match rows with
  | [] => if tile.isEmpty then [] else [tile]
  | x :: rest =>
    if tile.isEmpty then tilesOf size rest [x] (size x)
    else if used + size x ≤ tileLimit then tilesOf size rest (tile ++ [x]) (used + size x)
    else tile :: tilesOf size rest [x] (size x)

/-- The addresses of a tile's group-rows in a half of the score store, one behind the other (R118). -/
def placeRows (rows : List TileRow) (addr : Nat) : List (TileRow × RowPlace) :=
  match rows with
  | [] => []
  | x :: rest => (x, { addr := addr, frames := [] }) :: placeRows rest (addr + rowBytes x.row.queries.length x.row.bound)

/-- Passes 2 and 3 of a group-row: its outputs kept, its fully masked query heads counted (R114). -/
def State.finishRow (s : State) (n : Nat) (x : TileRow) (p : RowPlace) : State :=
  let (outs, masked, s) := s.passRow x.row p
  let s := if masked = 0 || x.row.request.isNone then s else s.count 0x0004 0 0 x.row.context 0 40 masked
  s.modBay n fun b => { b with
    attention := b.attention ++ [{ request := x.row.request, layer := x.layer, position := x.position, head := x.head,
                                   outputs := outs }] }

/-- A group-row that exceeds a half of the score store: its scores and probabilities go to spill frames of its tenant, and it counts
in SPILLED_ROWS (R119). Where no frames can be had it uses the whole score store, DESIGN CHOICE log 112. -/
def State.spillRow (s : State) (n : Nat) (x : TileRow) : State :=
  let s := if x.row.request.isNone then s else s.count 0x0004 0 0 x.row.context 0 64 1
  let (frames, s) := (s.allocFrames x.row.tenant 0 4 0 (ceilDiv (rowBytes x.row.queries.length x.row.bound) 65536)).getD
    ([], s)
  let p : RowPlace := { addr := 0, frames := frames }
  ((s.passOne x.row p).finishRow n x p).freeFrames frames

/-- A tile is run in a half of the score store: pass 1 of all its group-rows, then passes 2 and 3 (R118). -/
def State.runTile (s : State) (n half : Nat) (rows : List TileRow) : State :=
  match rows with
  | [x] =>
    if rowBytes x.row.queries.length x.row.bound > tileLimit then s.spillRow n x
    else (s.passOne x.row { addr := half * tileLimit, frames := [] }).finishRow n x { addr := half * tileLimit, frames := [] }
  | _ =>
    let placed := placeRows rows (half * tileLimit)
    placed.foldl (fun s q => s.finishRow n q.1 q.2) (placed.foldl (fun s q => s.passOne q.1.row q.2) s)

/-- A frame that requests of a tile reference is read once; poison in it is consumed by each of them (R118, R259 to R261). -/
def State.readTileFrame (s : State) (page : Nat) (requests : List Nat) : State :=
  let a := pageAddr page 0
  let s := s.readRange a.1 0 a.2 65536 false
  match s.poisonIn a.1 0 a.2 65536 with
  | none => s
  | some w => requests.foldl (fun s id =>
      match s.request id with
      | some r => (s.tagRequest (some id) r.context a.1 0 w 1 r.tenant).poisonReaders page r.context
      | none => s) s

/-- A tile of a token bale's layer: its frames read once, then its passes (R118). -/
def State.tokenTile (s : State) (n core group first half : Nat) (p : LayerParams) (rows : List (StepItem × Nat)) : State :=
  let refs := rows.flatMap fun x => (s.keyFrames p x.1).map fun page => (page, x.1.req.id)
  let s := (refs.map (·.1)).dedup.foldl (fun s page =>
    s.readTileFrame page ((refs.filter fun q => q.1 = page).map (·.2)).dedup) s
  match s.bay n with
  | some b => s.runTile n half (rows.map fun x => s.groupRow b core group first x.2 p x.1)
  | none => s

/-- The outputs of a position of a layer, requantised for the output projection (R54, R117). -/
def State.projectOutputs (s : State) (n : Nat) (request : Option Nat) (layer position : Nat) : State :=
  s.modBay n fun b =>
    let outs := b.attention.filter fun o => o.request = request && o.layer = layer && o.position = position
    { b with
      projection := b.projection ++ [{ request := request, layer := layer, position := position,
                                       records := recordsOf (outs.flatMap fun o => o.outputs.flatten) }] }

/-- One layer segment of a stage: the scatter, the step's K and V, and the three passes over tiles in convoy order (R24, R118,
R127). -/
def State.segmentAttention (s : State) (n : Nat) (b : Bay) (bale : Bale) (c : Convoy) (work : List AttnWork)
    (g : SegCost) : State :=
  let s := s.scatterConvoy c g.layer
  match Bale.params bale g.layer with
  | none => s
  | some p =>
    let items := s.stepItems c g.layer work
    let first := Bale.kvFirst bale g.stage g.layer
    let group := Bale.groupHeads bale g
    let s := items.foldl (fun s x => s.storeKv n first p x) s
    let rows := items.flatMap fun x => (List.range (Bale.segHeads bale g)).map fun h => (x, h)
    let tiles := tilesOf (fun x : StepItem × Nat => rowBytes group x.1.member.bound) rows [] 0
    let s := tiles.zipIdx.foldl (fun s t => s.tokenTile n (s.stageCore b g.stage) group first (t.2 % 2) p t.1) s
    items.foldl (fun s x => s.projectOutputs n (some x.req.id) g.layer x.work.position) s

/-- The attention of the interval that ends, stage by stage and layer by layer. -/
def State.attention (s : State) (n : Nat) (work : List AttnWork) : State :=
  match s.bay n with
  | none => s
  | some b =>
    let s := s.modBay n fun b => { b with own := [], attention := [], projection := [] }
    match b.bale with
    | none => s
    | some bale =>
      b.stages.zipIdx.foldl (fun s c =>
        match c.1 with
        | some c' => (bale.segments.filter fun g => g.stage = c.2).foldl (fun s g => s.segmentAttention n b bale c' work g) s
        | none => s) s

/-- The group-row of a vision bale's position (R110). -/
def State.visionRow (s : State) (b : Bay) (bale : Bale) (p : LayerParams) (x : VisionRow) : TileRow :=
  { layer := x.layer, position := x.position, head := x.head,
    row :=
      { core := s.stageCore b (Bale.stageOf bale x.layer), tenant := b.owner, request := none, context := 0, format := p.format,
        bound := x.keys.length, sigmaK := p.sigmaK.getD x.head F32.one, sigmaV := p.sigmaV.getD x.head F32.one,
        factor := p.factor, queries := x.queries.map fun q => (Fp.pure q.1, q.2), keys := x.keys.zipIdx.map fun k => (k.2, k.1),
        values := x.values, width := (x.values.headD []).length } }

/-- The attention of a vision bale's run: the same three passes, in the formats of its layers, over tiles in the order of the
group-rows (R110, R118). -/
def State.visionAttention (s : State) (n : Nat) (rows : List VisionRow) : State :=
  match s.bay n with
  | none => s
  | some b =>
    let s := s.modBay n fun b => { b with own := [], attention := [], projection := [] }
    match b.bale with
    | none => s
    | some bale =>
      let all := rows.filterMap fun x => (Bale.params bale x.layer).map fun p => s.visionRow b bale p x
      let tiles := tilesOf (fun x : TileRow => rowBytes x.row.queries.length x.row.bound) all [] 0
      let s := tiles.zipIdx.foldl (fun s t => s.runTile n (t.2 % 2) t.1) s
      (rows.map fun x => (x.layer, x.position)).dedup.foldl (fun s x => s.projectOutputs n none x.1 x.2) s

end Sys2Proof.Machine
end

