-- ==== Sys2Proof/Machine/Convoys.lean ====
section
/-! DEFINITION. Convoys: the stage period, candidates and their order, admission by slack, the boundary with the judgement of the
bay's waiting seatings, and the commit (R19, R24, R97, R101, R103, R126 to R129, R152 to R168, R419). -/

namespace Sys2Proof.Machine

/-! ## The stage period (R24, R49, R419) -/

/-- A whole-number field that holds an exact quotient (log 23). -/
def roundedQuotient (n d : Nat) : Nat := n / d + if n % d ≠ 0 && Config.quotientRoundsUp n d then 1 else 0

/-- P_MEAN: the mean boundary interval of the last 64 (Table 06-8). -/
def Bay.pMean (b : Bay) : Nat := if b.intervals.isEmpty then 0 else roundedQuotient b.intervals.sum b.intervals.length

/-- s_l of a layer or head on a bale slice: the larger of the budget and the string terms at F in force (R49, R50). -/
def slotsPer (bale : Bale) (slice layer arrays f : Nat) : Nat :=
  let mine := bale.layerMap.filter fun e => e.slice = slice && e.layer = layer
  (List.range 32).foldl (fun m st => max m (ceilDiv (mine.filter fun e => e.string = st).length (max 1 (f / 32))))
    (ceilDiv arrays (max 1 f))

/-- What the stage period takes from a convoy: Σ q, Σ q·Lb, the output-projection passes, and for each outrider the requests
that draft at its depth (R24, R419). -/
structure ConvoyCost where
  tokens : Nat
  work : Nat
  projection : Nat
  drafts : List Nat
  deriving DecidableEq, Repr

/-- The cost terms of a convoy's members. -/
def convoyCost (ms : List Member) : ConvoyCost :=
  let depth := fun m : Member => if m.prefill then 0 else m.q - 1
  { tokens := (ms.map (·.q)).sum,
    work := (ms.map fun m => m.q * m.bound).sum,
    projection := (ms.map fun m => if m.prefill then bit m.samples else m.q + depth m).sum,
    drafts := (List.range 4).map fun n => (ms.filter fun m => depth m ≥ n + 1).length }

/-- Position passes of a head entry (R419). -/
def headPasses (c : ConvoyCost) (outrider : Nat) : Nat :=
  if outrider = 0 then c.projection else c.drafts.getD (outrider - 1) 0

/-- The period of one stage in nanoseconds (R24). -/
def stagePeriod (bale : Bale) (f : Nat) (c : ConvoyCost) (stage : Nat) : Rat :=
  let segs := bale.segments.filter fun g => g.stage = stage
  let frac := fun g : SegCost => if g.heads = 0 then (1 : Rat) else (g.heads : Rat) / (max 1 g.queryHeads : Nat)
  let arr := fun g : SegCost => ((c.tokens * 5 * slotsPer bale stage g.layer g.arrays f : Nat) : Rat)
  let att := fun g : SegCost => ((c.work * g.queryHeads * g.headDim * 2 : Nat) : Rat) / (131072 * 16 / 10)
  let norm := fun g : SegCost => ((c.work * g.queryHeads : Nat) : Rat) / (2048 * 16 / 10)
  let layers := (segs.map fun g => frac g * max (arr g) (att g + norm g)).sum
  let heads := ((bale.heads.filter fun h => h.slice = stage).map fun h =>
    ((headPasses c h.outrider * 5 * slotsPer bale stage (if h.outrider = 0 then 0xFFFE else 0xFF00 + h.outrider)
      h.arrays f : Nat) : Rat)).sum
  (segs.length * 1500 : Nat) + max layers ((segs.map fun g => frac g * arr g).sum + heads)

/-- The period that a bale's COST section gives for a convoy: the largest over its stages. -/
def costPeriod (bale : Bale) (f : Nat) (c : ConvoyCost) : Rat :=
  (List.range bale.slices).foldl (fun m i => max m (stagePeriod bale f c i)) 0

/-! ## Candidates and their order (R153, R155, R156) -/

/-- The smallest bound of a bay's buckets that holds a step (R153). -/
def bucketBound (p : PolicyParams) (n : Nat) : Nat := (p.bounds.find? fun b => decide (n ≤ b)).getD 65536

/-- Tokens a request has still to sample. -/
def Req.left (r : Req) : Nat := r.nAct - r.sampled.length

/-- The step a request would take with `room` positions left in the convoy, or none where it does not fit (R129, R156,
R167). -/
def State.plan (s : State) (p : PolicyParams) (room : Nat) (r : Req) : Option Member :=
  let len := s.committedLength r
  let limit := s.historyLimit r
  if limit ≤ len then none
  else if r.prefill.length > 0 then
    let q := min (min r.prefill.length p.prefillChunk) (min room (limit - len))
    if q = 0 then none
    else some { request := r.id, q := q, prefill := true, samples := q = r.prefill.length,
                bound := bucketBound p (len + q) }
  else
    let depth := min (min r.depth (r.left - 1)) (min (limit - len - 1) r.drafts.length)
    if 1 + depth > room then none
    else some { request := r.id, q := 1 + depth, prefill := false, samples := true,
                bound := bucketBound p (len + 1 + depth) }

/-- The context of a request admits it: no flush runs, and an EXTEND request is the first of its context, which is open (R125,
R128, Table 05-8). -/
def State.extendReady (s : State) (r : Req) : Bool :=
  (match s.ctx r.context with | some x => x.flush.isNone | none => true) &&
  (r.branch.isSome ||
    ((match s.ctx r.context with | some x => x.state = 0 | none => false) &&
     !(s.reqs.slot.any fun p => p.2.context = r.context && p.2.branch.isNone && p.2.order < r.order)))

/-- The requests that may enter a convoy of a bay, in creation order (R98, R101, R125). -/
def State.candidates (s : State) (n : Nat) (b : Bay) : List Req :=
  s.liveReqs.filter fun r =>
    r.bay = n && (r.state = 0 || r.state = 2) && b.seated.isSome && r.bale = b.seated && s.extendReady r &&
      (match b.seating with | some j => !j.preempt && r.state = 2 | none => true)

/-- The convoy that the candidates would form in creation order (R155). -/
def State.standIn (s : State) (p : PolicyParams) (rs : List Req) (acc : List Member) (room : Nat) : List Member :=
  match rs with
  | [] => acc
  | r :: rest =>
    if acc.length ≥ p.maxRequests then acc
    else
      match s.plan p room r with
      | some m => s.standIn p rest (acc ++ [m]) (room - m.q)
      | none => s.standIn p rest acc room

/-- The exact quotient of two rationals rounded up to a whole number. -/
def ceilRat (x : Rat) : Int := -((-x).floor)

/-- Steps that a request has still to run (R155). -/
def stepsLeft (p : PolicyParams) (r : Req) : Int :=
  if r.sampled.isEmpty then
    (ceilDiv r.prefill.length p.prefillChunk : Nat) + ceilRat (((r.left - 1 : Nat) : Rat) / r.aMean)
  else ceilRat ((r.left : Rat) / r.aMean)

/-- The time that the steps left of a request take, in whole nanoseconds; how a part of one is rounded is free (R155; log 23). -/
def stepsTime (b : Bay) (r : Req) : Nat :=
  let x := (stepsLeft b.policy r : Rat) * ((b.bale.map (·.slices)).getD 0 : Nat) * b.pPred
  roundedQuotient x.num.toNat x.den

/-- The slack of a request, 64 bits signed (R155). -/
def State.slack (s : State) (b : Bay) (r : Req) : Int :=
  (BitVec.ofInt 64 (s.deadlineOf r - ((s.now + stepsTime b r + 4000 : Nat) : Int))).toInt

/-- A candidate's place in the order of R156: its group, its key, its priority and its creation. -/
structure Rank where
  req : Req
  group : Nat
  key : Int

/-- The rank of a candidate. -/
def State.rank (s : State) (b : Bay) (r : Req) : Rank :=
  let k := s.slack b r
  if r.waited ≥ 64 then { req := r, group := 0, key := r.order }
  else if k ≥ 0 then { req := r, group := 1, key := k }
  else { req := r, group := 2, key := s.deadlineOf r }

/-- One candidate goes before another (R156). -/
def Rank.before (a b : Rank) : Bool :=
  if a.group ≠ b.group then a.group < b.group
  else if a.key ≠ b.key then a.key < b.key
  else if a.req.priority ≠ b.req.priority then a.req.priority > b.req.priority
  else a.req.order < b.req.order

/-- A candidate put in its place. -/
def insertRank (x : Rank) (l : List Rank) : List Rank :=
  match l with
  | [] => [x]
  | y :: r => if x.before y then x :: y :: r else y :: insertRank x r

/-- Some group-row of a convoy would spill (R119). -/
def spills (bale : Bale) (ms : List Member) : Bool :=
  ms.any fun m => bale.segments.any fun g => g.queryHeads / (max 1 bale.kvHeads) * m.bound > 8388608

/-- p_pred of a bay at a boundary; the measured time of spills, which no rule gives, is a free value (R119, R155). -/
def State.predict (s : State) (b : Bay) (bale : Bale) (rs : List Req) : Rat × State :=
  let ms := s.standIn b.policy rs [] b.policy.maxTokens
  let p := max (b.pMean : Rat) (costPeriod bale s.budget (convoyCost ms))
  if spills bale ms then (p + (Config.freeNat s.free : Nat), { s with free := s.free + 1 }) else (p, s)

/-! ## Admission (R126, R127, R156) -/

/-- One request enters the convoy: the scatter of its last step's positions is set up and its step's frames reserved, or it waits for
pages (R126, R127). -/
def State.takeMember (s : State) (r : Req) (m : Member) : Option State :=
  match s.finishScatter r with
  | none => none
  | some (t, r) =>
    match t.beginScatter r with
    | none => none
    | some (t, r) =>
      let g := t.historyGeometry r
      let pages := (t.history r).2.1
      (t.reserveStep r.tenant (t.historyFamily r) g (t.committedLength r) pages (!r.scattering.isEmpty) m.q).map fun x =>
        x.2.2.setReq { r with state := 1, waited := 0, tails := x.1, reserved := x.2.1 }

/-- A candidate passed over at a boundary (R156). -/
def State.passOver (s : State) (r : Req) : State := s.setReq { r with waited := r.waited + 1 }

/-- The candidates in order, each admitted where it fits and its frames can be reserved (R126, R156). -/
def State.admitAll (s : State) (n : Nat) (p : PolicyParams) (rs : List Rank) (acc : List Member) (room : Nat) :
    List Member × State :=
  match rs with
  | [] => (acc, s)
  | x :: rest =>
    match s.plan p room x.req with
    | none => (s.passOver x.req).admitAll n p rest acc room
    | some m =>
      if acc.length ≥ p.maxRequests then (s.passOver x.req).admitAll n p rest acc room
      else
        match s.takeMember x.req m with
        | some t =>
          let t := if x.group = 0 then t.count 0x0003 n 0 0 0 88 1 else t
          t.admitAll n p rest (acc ++ [m]) (room - m.q)
        | none =>
          ((s.passOver x.req).count 0x0004 0 0 x.req.context 0 72 1).admitAll n p rest acc room

/-- A member put behind those of its bucket and of smaller ones (R153). -/
def insertMember (m : Member) (l : List Member) : List Member :=
  match l with
  | [] => [m]
  | x :: r => if m.bound < x.bound then m :: x :: r else x :: insertMember m r

/-- Convoy order: ascending bucket, then admission (R153). -/
def convoyOrder (ms : List Member) : List Member := ms.foldl (fun l m => insertMember m l) []

/-- A request that no step fits under its LIMIT ends with its sampled tokens delivered (R129). -/
def State.endFull (s : State) (r : Req) : State :=
  let (s, r) := if r.target = 0 then (s, r) else s.deliver r r.sampled
  s.endReq r Status.contextFull 0 0 r.sampled

/-- A request bound to a bale only after its creation may extend KV of a bale that this one does not fit: no convoy takes it, and it
ends BAD_PARAM, as its submission would have been refused (R101, R104; log 119). -/
def State.unfit (s : State) (bale : Bale) (r : Req) : Bool :=
  let h := match r.branch with
    | some b => (b.geometry, b.writer)
    | none => ((s.ctx r.context).map fun (x : Ctx) => (x.geometry, x.writer)).getD (none, 0)
  r.steps = 0 && !kvFits h.1 h.2 (some bale)

/-- The next convoy of a bay, if a candidate fits one, with its requests taken into it (R152 to R156). -/
def State.planConvoy (s : State) (n : Nat) : Option Convoy × State :=
  match s.bay n with
  | none => (none, s)
  | some b =>
    match b.bale with
    | none => (none, s)
    | some bale =>
      let s := ((s.candidates n b).filter (s.unfit bale)).foldl (fun s r => s.endReq r Status.badParam 0 0 []) s
      let full := (s.candidates n b).filter fun r => s.historyLimit r ≤ s.committedLength r
      let s := full.foldl State.endFull s
      let rs := s.candidates n b
      let (p, s) := s.predict b bale rs
      let b := { b with pPred := p }
      let s := s.setBay n b
      let ranks := (rs.map (s.rank b)).foldl (fun l x => insertRank x l) []
      let (ms, s) := s.admitAll n b.policy ranks [] b.policy.maxTokens
      (if ms.isEmpty then none
       else some { members := convoyOrder ms, mask := ms.map (·.request), counter := 0, tails := [] }, s)

/-- A convoy enters stage 1 of a bay (R152). -/
def State.enterStage (s : State) (n : Nat) (c : Convoy) : State :=
  s.modBay n fun b => { b with stages := some c :: b.stages.tail }

/-- A convoy formed for stage 1 of a bay (R152 to R156). -/
def State.formConvoy (s : State) (n : Nat) : State :=
  match s.planConvoy n with
  | (some c, s) => s.enterStage n c
  | (none, s) => s

/-! ## The boundary (R152) -/

/-- The interval that ends at a boundary is recorded when a stage was at work, with STRAGGLER_BOUNDARIES (R152, R169). -/
def State.recordInterval (s : State) (n : Nat) (b : Bay) : State :=
  match b.lastBoundary, b.stages.any Option.isSome with
  | some t, true =>
    let iv := s.up - t
    let s := s.modBay n fun b => { b with intervals := (iv :: b.intervals).take 64 }
    if b.pPred > 0 && (iv : Rat) * 100 > 101 * b.pPred then s.count 0x0003 n 0 0 0 80 1 else s
  | _, _ => s

/-- What is left of the scatters of a convoy's requests is carried out before the convoy goes to commit (R127). -/
def State.endScatters (s : State) (c : Convoy) : State :=
  c.members.foldl (fun s m =>
    match s.request m.request with
    | some r => if r.state = 1 then (match s.finishScatter r with | some (t, r) => t.setReq r | none => s) else s
    | none => s) s

/-- Every convoy moves on; the one that leaves the last stage goes to commit, counted in CONVOYS, and the tails of requests
cancelled in it are freed (R152, R160). -/
def State.advance (s : State) (n : Nat) : State :=
  match s.bay n with
  | none => s
  | some b =>
    let s := s.recordInterval n b
    let count := (b.bale.map (·.slices)).getD 0
    let last := (b.stages.getLast?).getD none
    let stages := (none :: b.stages.dropLast).take count ++ List.replicate (count - (1 + b.stages.dropLast.length)) none
    let s := s.modBay n fun b => { b with stages := stages, lastBoundary := some s.up }
    match last with
    | none => s
    | some c =>
      let s := ((s.endScatters c).freeFrames c.tails).count 0x0003 n 0 0 0 16 1
      let c := { c with counter := s.stat (statKey 0x0003 n 0 0 0 16), tails := [] }
      s.modBay n fun b => { b with commits := b.commits ++ [c] }

/-! ## Work that waits on a bay (R97, R100, R103) -/

/-- A handle may not be discarded: seated or being seated, named by a template, or bound by a waiting request (R100). -/
def State.handleInUse (s : State) (handle : Nat) (except_ : Option Nat) : Bool :=
  (s.bays.bay.any fun p => some p.1 ≠ except_ && p.2.seated = some handle) ||
  (s.bays.bay.any fun p => p.2.jobs.any fun j => j.handle = some handle) ||
  (s.reqs.templates.any fun t => t.2.body.named && t.2.body.handle = handle) ||
  (s.reqs.slot.any fun r => r.2.bale = some handle && (r.2.state = 0 || r.2.state = 3))

/-- A core carries every slice of a bay (R83). -/
def State.slicesHeld (s : State) (b : Bay) : Bool :=
  b.slices.all fun i => s.cores.core.any fun p => p.2.slice = some i

/-- The refusal of a seating, or none (R83, R97). -/
def State.seatRefusal (s : State) (b : Bay) (handle : Nat) : Option Nat :=
  match s.stagedBale handle with
  | none => some Status.badParam
  | some g =>
    if g.tenant ≠ b.owner then some Status.notPermitted
    else if g.bale.kind ≠ b.kind then some Status.badParam
    else if g.bale.slices ≠ b.slices.length || g.bale.perString > b.share || !s.slicesHeld b then some Status.noBaySpace
    else if g.poisoned then some Status.poisoned
    else if g.tier = 2 then some Status.badParam
    else none

/-- The refusal of work on a bay, or none; a partner applies what its active has accepted (R97, R100, R341). -/
def State.jobRefusal (s : State) (n : Nat) (b : Bay) (j : SeatJob) : Option Nat :=
  match j.handle with
  | some h => if (j.ref.map (·.copied)).getD false then none else s.seatRefusal b h
  | none =>
    match b.seated with
    | some h => if j.discard && s.handleInUse h (some n) then some Status.notPermitted else none
    | none => none

/-- A reply to the command of a job, where it has one. -/
def State.replyJob (s : State) (j : SeatJob) (status r0 r1 : Nat) : State :=
  match j.ref with | some c => s.reply c status r0 r1 | none => s

/-- The first job of a bay that can run stands at the front: refused ones reply, and an unseating of an empty bay is done at
once (R97, R100, Table 04-11). -/
def State.settleJobs (s : State) (n fuel : Nat) : State :=
  match fuel with
  | 0 => s
  | k + 1 =>
    match s.bay n with
    | none => s
    | some b =>
      match b.jobs with
      | [] => s
      | j :: rest =>
        if j.stopped || j.auto then s
        else
          match s.jobRefusal n b j with
          | some st => ((s.setBay n { b with jobs := rest }).replyJob j st 0 0).settleJobs n k
          | none =>
            if j.handle.isNone && b.seated.isNone then
              ((s.setBay n { b with jobs := rest }).replyJob j Status.done 0xFFFF 0).settleJobs n k
            else s

/-- The slack of a request against the stages of the bale it waits for (R103, R155). -/
def State.swapSlack (s : State) (b : Bay) (r : Req) : Int :=
  s.slack { b with bale := (s.baleOf r.bay r.bale) } r

/-- Requests of a bay that wait for a staged bale other than the seated one. -/
def State.swapWaiting (s : State) (n : Nat) (b : Bay) : List Req :=
  s.liveReqs.filter fun r => r.bay = n && r.state ≠ 1 && r.bale.isSome && r.bale ≠ b.seated &&
    (match r.bale with | some h => (s.seatRefusal b h).isNone | none => false)

/-- The bale that waits with the least slack. -/
def State.swapTarget (s : State) (n : Nat) (b : Bay) : Option Nat :=
  match s.swapWaiting n b with
  | [] => none
  | r :: rest =>
    (rest.foldl (fun a x => if s.swapSlack b x < s.swapSlack b a then x else a) r).bale

/-- AUTO_SWAP is set, and MIN_DWELL has passed since the bay's last seating. A bay that has never been seated has none to count
from: the spec does not say, and the dwell is taken as passed, DESIGN CHOICE log 121 (R103). -/
def State.mayAutoSwap (s : State) (b : Bay) : Bool :=
  b.autoSwap && (match b.lastSeat with | some t => s.elapsed t (b.minDwell * 1000000) | none => true)

/-- The job at the front of a bay's list as its boundary finds it: an automatic swap is judged there anew, and falls away where
nothing waits or AUTO_SWAP is clear (R103, Table 04-11). -/
def State.judgeJob (s : State) (n : Nat) (b : Bay) (j : SeatJob) : Option SeatJob :=
  if !j.auto then some j
  else if !s.mayAutoSwap b then none
  else (s.swapTarget n b).map fun h => { j with handle := some h, preempt := b.swapMode = 1 }

/-- The automatic swap at the front of a bay's list judged at the boundary. -/
def State.judgeSwap (s : State) (n : Nat) : State :=
  match s.bay n with
  | none => s
  | some b =>
    match b.jobs with
    | [] => s
    | j :: rest =>
      if j.stopped then s
      else
        match s.judgeJob n b j with
        | some j => s.setBay n { b with jobs := j :: rest }
        | none => (s.setBay n { b with jobs := rest }).settleJobs n rest.length

/-- The planned convoys of a bay are given up: their requests wait for their steps again. -/
def State.dropPlanned (s : State) (n : Nat) : State :=
  match s.bay n with
  | none => s
  | some b =>
    let s := (b.planned.flatMap fun c => c.mask).foldl (fun s i =>
      match s.request i with
      | some r => if r.state = 1 then s.revertReq r else s
      | none => s) (s.freeFrames (b.planned.flatMap fun c => c.tails))
    s.modBay n fun b => { b with planned := [] }

/-- Step 1 of the first waiting seating or unseating of a bay: admission stops, and PREEMPT suspends the outgoing bale's
requests between steps and waiting (R98). -/
def State.stopAdmission (s : State) (n : Nat) : State :=
  match s.bay n with
  | none => s
  | some b =>
    match b.jobs with
    | [] => s
    | j :: rest =>
      if j.stopped then s
      else
        let s := (s.dropPlanned n).modBay n fun b => { b with
          jobs := { j with stopped := true, started := s.up, previous := b.seated } :: rest }
        if !j.preempt || b.seated.isNone then s
        else
          (s.liveReqs.filter fun r => r.bay = n && r.bale = b.seated && (r.state = 0 || r.state = 2)).foldl
            (fun s r => s.setReq { r with state := 3, suspendedFrom := r.state }) s

/-- Settings, remaps and role swaps that take effect at a bay's boundary (R70, R81, R84, R96, R154). -/
def State.boundaryChanges (s : State) (n : Nat) : State :=
  match s.bay n with
  | none => s
  | some b =>
    let s := s.modBay n fun b => { b with policy := b.nextPolicy.getD b.policy, nextPolicy := none }
    let s := match b.nextSettings with
      | some (tol, mode, auto, dwell) => s.modBay n fun b => { b with
          tol := tol, swapMode := mode, autoSwap := auto, minDwell := dwell, nextSettings := none }
      | none => s
    let s := (b.slices.filterMap s.sliceCore).foldl State.switchRemaps s
    let s := match s.cores.handover with
      | some h =>
        if h.loaded && !s.sequencerDown h.incoming && ((s.core h.incoming).slice.any fun i => bitOf b.sliceMask i) then
          s.swapRoles h
        else s
      | none => s
    (s.adoptSlice.judgeSwap n).stopAdmission n

/-- Every request of a bay has its launch time and deadline re-read at the bay's boundary. R19 says at every convoy boundary, with a
boundary to every bay; that each is that of the request's own bay is the model's reading, DEDUCED log 122 (R19, R20). -/
def State.rereadBay (s : State) (n : Nat) : State :=
  (s.liveReqs.filter fun r => r.bay = n && r.target = 2).foldl (fun s r => s.setReq (s.reread r)) s

/-- A planned role swap drains the bays (R361). -/
def State.swapping (s : State) : Bool := match s.escort.job with | some (.swap _ _) => true | _ => false

/-- A new convoy may be formed in a bay: the module runs, is not leaving or swapping roles, is no partner, the bay's bale is held and every one
of its slices has a core in service (R170, R344, R361, R388). -/
def State.mayForm (s : State) (b : Bay) : Bool :=
  b.kind = 0 && !s.droverDown && !s.swapping && s.power.leaving.isNone && s.writesRings && b.bale.isSome && !b.pendingBale &&
    b.slices.all fun i => (s.sliceCore i).isSome

/-- Convoys planned while the Drover still serves, up to 32, which enter stage 1 while it restarts (Table 06-9, Table 14-2). -/
def State.planAhead (s : State) (n fuel : Nat) : State :=
  match fuel, s.bay n with
  | k + 1, some b =>
    if !s.mayForm b || b.planned.length ≥ 32 || b.jobs.any (fun j => j.stopped && j.preempt) then s
    else
      match s.planConvoy n with
      | (some c, s) => (s.modBay n fun b => { b with planned := b.planned ++ [c] }).planAhead n k
      | (none, s) => s
  | _, _ => s

/-- Every bay's convoys planned before the Drover goes out of service (Table 14-2). -/
def State.planAll (s : State) : State :=
  if s.droverDown then s else (s.bays.bay.map (·.1)).foldl (fun s n => s.planAhead n 32) s

/-- A planned convoy enters stage 1 of its bay; none is left where this changes nothing. -/
def State.enterPlanned (s : State) (n : Nat) : Option State :=
  match s.bay n with
  | none => none
  | some b =>
    match b.planned with
    | [] => none
    | c :: rest => some ((s.modBay n fun b => { b with planned := rest }).enterStage n c)

/-- A stage of a bay waits for a sequencer that restarts (Table 14-2). -/
def State.stageWaits (s : State) (bay : Nat) : Bool :=
  match s.bay bay with
  | some b => (b.slices.filterMap s.sliceCore).any s.sequencerDown
  | none => false

/-- A convoy boundary of a bay (R152). -/
def execConvoyBoundary (bay : Nat) (work : List AttnWork) (s : State) : Host.Outcome State Fault Refusal :=
  if !s.power.railsOn || (s.bay bay).isNone || s.stageWaits bay then .next s
  else
    let s := ((s.attention bay work).dropSums bay).advance bay
    if s.droverDown then .next ((s.enterPlanned bay).getD s)
    else
      let s := (s.boundaryChanges bay).rereadBay bay
      match s.enterPlanned bay, s.bay bay with
      | some t, _ => .next t
      | none, some b => if s.mayForm b then .next (s.formConvoy bay) else .next s
      | none, none => .next s

/-! ## The commit (R157 to R159, R163 to R168) -/

/-- A 32-bit saturating field of the bay record counted (Table 06-8). -/
def State.count32 (s : State) (bay off : Nat) : State :=
  let k := statKey 0x0003 bay 0 0 0 off
  { s with stats := Map.set s.stats k (min (s.stat k + 1) (2 ^ 32 - 1)) }

/-- K and V bytes of a request's committed positions copied to the partner, layer by layer (R341; log 29). -/
def State.copyKv (s : State) (r : Req) (kinds : List Nat) : State :=
  if !s.escort.copying || kinds.isEmpty then s
  else
    let g := s.historyGeometry r
    let len := s.committedLength r
    let name := if r.branch.isSome then 2 ^ 32 + r.id else r.context
    let writer := ((s.baleOf r.bay r.bale).map (·.digest)).getD 0
    (List.range g.2.2.2).foldl (fun s layer =>
      let bytes := (List.range kinds.length).flatMap fun j => s.tailRead g r.tails j layer
      s.sendRec (.kvAppend { name := name, geometry := g, writer := writer, layer := layer, first := len, kinds := kinds,
                             bytes := bytes }) (28 + bytes.length)) s

/-- A request's slot as it stood before the commit that first copies it: `shared` positions lie in its context's frames. -/
def Req.slotCopy (r : Req) (shared : Nat) : SlotCopy :=
  { id := r.id, tenant := r.tenant, route := r.route, context := r.context,
    branch := r.branch.map fun b => (b.limit, shared), template := r.template, tmpl := r.tmpl, bale := r.bale,
    prefill := r.prefill, nAct := r.nAct, target := r.target, stream := r.stream, track := r.track, when_ := r.when_,
    unformed := r.unformed, lead := r.lead, seed := r.seed, sampled := r.sampled, counts := r.counts, depth := r.depth,
    zeroRun := r.zeroRun, fullRun := r.fullRun, aMean := r.aMean, sampleStep := r.sampleStep, steps := r.steps,
    suspended := r.state = 3, concealed := r.concealed, priority := r.priority }

/-- The state delta of a request (Table 12-4). -/
def Req.delta (r : Req) (ended : Bool) : ReqDelta :=
  { request := r.id, state := if ended then 4 else r.state, steps := r.steps, depth := r.depth, zeroRun := r.zeroRun,
    fullRun := r.fullRun, aMean := r.aMean, ttftMiss := r.ttftMiss, tbtMiss := r.tbtMiss, slot := none }

/-- The delta that first names a route's request: it carries the slot and with it the branch's creation (R142). -/
def Req.creation (r : Req) : ReqDelta :=
  { r.delta false with slot := some (r.slotCopy ((r.branch.map (·.length)).getD 0)) }

/-- Requests that routes have made since the last convoy copy join this one (R142). -/
def State.copyCreations (s : State) : State :=
  if !s.escort.copying then s
  else (s.liveReqs.filter fun r => !r.copied).foldl (fun s r =>
    (s.sendRec (.requestDelta r.creation) 32).setReq { r with copied := true }) s

/-- TTFT and TBT of a commit against their goals (R157). -/
def State.measure (s : State) (n : Nat) (r : Req) (first : Bool) : State × Req :=
  let ttft := first && r.tmpl.ttftGoal ≠ 0 && decide (s.up > r.created + 1000 * r.tmpl.ttftGoal)
  let tbt := r.tmpl.tbtGoal ≠ 0 &&
    (match r.lastCommit with | some t => decide (s.up > t + 1000 * r.tmpl.tbtGoal) | none => false)
  let s := if ttft then s.count 0x0003 n 0 0 0 48 1 else s
  let s := if tbt then s.count 0x0003 n 0 0 0 56 1 else s
  (s, { r with ttftMiss := r.ttftMiss || ttft, tbtMiss := r.tbtMiss || tbt, lastCommit := some s.up })

/-- The depth rule and the draft counters of a decode step (R168, R169). -/
def State.afterDecode (s : State) (n : Nat) (r : Req) (limit d m kept : Nat) : State × Req :=
  let (depth, z, f) := nextDepth r.depth d m r.zeroRun r.fullRun limit r.tmpl.zeroLimit r.tmpl.fullLimit
  let s := (s.count 0x0003 n 0 0 0 64 d).count 0x0003 n 0 0 0 72 m
  let s := if depth < r.depth then s.count32 n 104 else if depth > r.depth then s.count32 n 108 else s
  let s := s.modBay n fun b => { b with accepts := (kept :: b.accepts).take 4096 }
  (s, { r with depth := depth, zeroRun := z, fullRun := f, aMean := r.aMean + ((kept : Rat) - r.aMean) / 8 })

/-- The ledger entry of a finished request (R21, R159, R226). A request with TARGET 1 commits a time-bound entry, as Tables 06-3 and 06-6
let it, although R21 says that time-bound entries come only from POST_LAUNCH: the spec's texts differ and no ruling names the point,
DESIGN CHOICE log 135. -/
def State.requestEntry (s : State) (r : Req) (st : ActionStream) : LedgerEntry :=
  s.newEntry r.stream st (r.target = 2) r.track r.when_ r.lead (r.words r.sampled) r.id

/-- The launch time of a finished request at this instant in 1/16 ns, and whether its action is late (R159). -/
def State.launchTest (s : State) (r : Req) : Option Nat × Bool :=
  let far := fun t : Nat => decide (t < 16 * (s.now + r.lead))
  if r.target = 1 then (some (16 * r.when_.toNat), far (16 * r.when_.toNat))
  else if r.unformed.isSome then (none, true)
  else
    match s.trackAnswer r.track r.when_ with
    | .passed => (none, true)
    | .unreached => (none, false)
    | .at t => (some t, far t)

/-- A finished request with a target: its entry inserted and its tokens delivered, or the late policy followed (Table 06-6). -/
def State.finishTarget (s : State) (r : Req) : State :=
  let (t, late) := s.launchTest r
  let t16 := t.getD 0
  match s.stream r.stream with
  | some st =>
    if !late && s.mls.disc ≠ 0 && !s.ledgerFull then
      let e := s.requestEntry r st
      let s := (s.takeSequence r.stream).insertEntry e
      let s := s.sendRec (.ledgerInsert e) 328
      let (s, r) := s.deliver r r.sampled
      s.endReq r Status.done t16 e.sequence r.sampled
    else
      let (s, r) := if r.tmpl.lateReport then s.deliver r r.sampled else (s, r)
      s.endReq r (if late then Status.late else Status.ledgerFull) t16 0 (if r.tmpl.lateReport then r.sampled else [])
  | none =>
    let (s, r) := if r.tmpl.lateReport then s.deliver r r.sampled else (s, r)
    s.endReq r (if late then Status.late else Status.ledgerFull) t16 0 (if r.tmpl.lateReport then r.sampled else [])

/-- A PREEMPT seating of a request's bay that replaces its bale has begun (R98, Table 06-9). -/
def State.preempted (s : State) (r : Req) : Bool :=
  match s.bay r.bay with
  | some b => (match b.seating with | some j => j.preempt && r.bale = b.seated | none => false)
  | none => false

/-- The core of a bay's last stage, where sampling runs. -/
def State.lastCore (s : State) (b : Bay) : Nat := s.stageCore b (b.slices.length - 1)

/-- One request of a committed convoy (R157 to R159, R163 to R168). -/
def State.commitMember (s : State) (n : Nat) (b : Bay) (m : Member) (res : CommitResult) (r : Req) : State :=
  if r.poisoned || res.poisoned then
    (s.sendRec (.requestDelta (r.delta true)) 32).endReq r Status.poisoned 0 0 []
  else
    let old := r
    let v := if m.samples then
        verifyFrom r.tmpl r.seed r.sampleStep r.counts (if m.prefill then [] else r.drafts.take (m.q - 1)) res.logits 0
      else { tokens := [], matched := 0, nans := 0, sat := 0, flu := 0 }
    let kept := keepTokens r.left r.tmpl.stopToken v.tokens
    let npos := if m.prefill then m.q else kept.length
    let s := if v.nans = 0 then s else s.count 0x0003 n 0 0 0 96 v.nans
    let s := (s.countFp (s.lastCore b) v.sat v.flu).count 0x0003 n 0 0 0 24 1
    let (s, r) := s.measure n r (r.sampled.isEmpty && !kept.isEmpty)
    let limit := match b.bale with | some x => min r.tmpl.maxDepth x.maxDepth | none => r.tmpl.maxDepth
    let kinds := (stepKinds r m).take npos
    let s := s.copyKv old kinds
    let (s, r) := if m.prefill then (s, r) else s.afterDecode n r limit (m.q - 1) v.matched kept.length
    let r := { r with
      state := 2, steps := r.steps + 1, sampleStep := r.sampleStep + bit m.samples, sampled := r.sampled ++ kept,
      counts := kept.foldl countToken r.counts, prefill := if m.prefill then r.prefill.drop m.q else r.prefill,
      toScatter := kinds,
      drafts := if m.samples then (res.draftLogits.take r.depth).map fun l =>
          argmax (l.zipIdx.map fun p => (p.2, Fp.pure (cleanLogit p.1))) else r.drafts }
    let s := if kept.isEmpty then s else s.sendRec (.tokens r.id r.steps kept) (20 + 4 * kept.length)
    let finished := !kept.isEmpty &&
      (r.sampled.length ≥ r.nAct || (r.tmpl.stopToken ≠ 0xFFFFFFFF && kept.contains r.tmpl.stopToken))
    let s := s.sendRec (.requestDelta (r.delta finished)) 32
    let (s, r) := if r.target = 0 then s.deliver r kept else (s, r)
    if !finished then
      s.setReq (if s.preempted r then { r with state := 3, suspendedFrom := 2 } else r)
    else if r.target = 0 then s.endReq r Status.done 0 0 (if r.route.isSome then r.sampled else [])
    else s.finishTarget r

/-- The oldest convoy that waits for its commit is committed, request by request in convoy order, and copied to the partner
(R158 to R168, R341). -/
def State.commitConvoy (s : State) (n : Nat) (b : Bay) (c : Convoy) (results : List CommitResult) : State :=
  let s := s.modBay n fun b => { b with commits := b.commits.tail }
  let s := if s.escort.partnerRole = 3 then s.sendRec (.shadowInput n c.counter) 16 else s
  let first := s.escort.txSeq
  let s := (s.sendRec (.convoyBegin n c.counter c.mask) (16 + 4 * c.mask.length)).copyCreations
  let s := c.members.foldl (fun s m =>
    match s.request m.request with
    | some r =>
      if c.mask.contains m.request && r.state = 1 then
        s.commitMember n b m ((results.find? fun x => x.request = m.request).getD
          { request := m.request, logits := [], draftLogits := [], poisoned := false }) r
      else s
    | none => s) s
  let s := s.sendRec (.convoyEnd n c.counter (s.escort.txSeq - first - 1)) 20
  if s.escort.copying && s.escort.role = 1 then
    { s with escort := { s.escort with
      uncovered := s.escort.uncovered ++ [(n, c.counter, s.escort.txSeq - 1, s.up)], newestEnd := c.counter } }
  else s

/-- T_com after a convoy leaves the last stage the Drover commits it; commits wait while the Drover is out of service
(R158 to R168, R170). -/
def execConvoyCommit (bay : Nat) (results : List CommitResult) (s : State) : Host.Outcome State Fault Refusal :=
  match s.bay bay with
  | some b =>
    match b.commits with
    | c :: _ => if s.droverDown || !s.power.railsOn then .next s else .next (s.commitConvoy bay b c results)
    | [] => .next s
  | none => .next s

end Sys2Proof.Machine
end

