-- ==== Sys2Proof/Machine/Firing.lean ====
section
/-! DEFINITION. The commands and events of the caravan cores: firings, re-fires, calibration, rest rotation, UNFENCE, the
exhaustion policy and RETIRE_ARRAY (R31 to R85, R293, R294). -/

namespace Sys2Proof.Machine

/-! ## Firings (R39 to R47, R72 to R79) -/

/-- Which firings a core makes in its role (Table 03-1, R48). A full calibration pass makes those of the resting core (R69). -/
def roleFires (role : Nat) (k : FiringKind) : Bool :=
  match role, k with
  | 0, .data => true
  | 0, .calibration => true
  | 0, .filler => true
  | 1, .keepWarm => true
  | 1, .filler => true
  | 3, .probe => true
  | _, _ => false

/-- A core's disagreements of the last second lie on at least 8 strings at a combined rate above 1 in 10^4 firings (R83). -/
def State.tooManyDis (s : State) (core : Nat) : Bool :=
  let ds := s.lastSecond (·.1) (s.core core).recentDis
  decide ((ds.map (·.2)).dedup.length ≥ 8) && decide (10000 * ds.length > s.firingRate core)

/-- One disagreeing firing counted on its core and array (R79, R83). -/
def State.countDis (s : State) (f : Firing) (position : Nat) : State :=
  let c := s.core f.core
  let a := s.array f.core f.string position
  let s := s.setCore f.core { c with recentDis := s.lastSecond (·.1) c.recentDis ++ [(s.up, f.string)] }
  (s.setArray f.core f.string position { a with disagree := satAdd 16 1 a.disagree }).count 0x0001 f.core 0 0 0 64 1

/-- Saturated conversions counted on the core, and those of a data firing on its segment (R43, R61). -/
def State.countSaturated (s : State) (f : Firing) (n : Nat) : State :=
  if n = 0 then s
  else
    let s := s.countPrescaled 0x0001 f.core 0 0 0 16 n
    if f.kind = .data then s.countPrescaled 0x000B f.bay 0 0 f.segment 16 n else s

/-- A firing at a position counted on the core, and a data firing on its segment (R58, R61). -/
def State.countSegment (s : State) (f : Firing) (position : Nat) : State :=
  let s := s.countFiring f.core f.string position (f.kind = .calibration)
  if f.kind = .data then s.countPrescaled 0x000B f.bay 0 0 f.segment 24 1 else s

/-- The FP32 results of an array's column integers, with their counts (R45, R47). -/
def State.scaleFiring (s : State) (core string position : Nat) (y xs : List Int) (emax : Nat) : List F32 × State :=
  let (r, nans) := columnResults (s.array core string position) y xs emax
  let s := s.countFp core (satSum r) (fluSum r)
  (r.map (·.v), if nans = 0 then s else s.count 0x0001 core 0 0 0 32 nans)

/-- The bale and LAYER_MAP entry that a data firing of a bay serves: the tile of the array's mapped index, in a bay whose slice is
not being written (R46, R52). -/
def State.dataEntry (s : State) (f : Firing) : Option (Bale × LayerEntry) :=
  match (s.indexAt f.core f.string f.position).bind fun i => s.tileFor f.core f.string i with
  | some (n, b, bale, e) =>
    if n = f.bay && !(s.writesSlice n b (((s.core f.core).slice).getD 8)) then some (bale, e) else none
  | none => none

/-- The row tile that a data firing's results add to (R46). -/
def tileRef (f : Firing) (bale : Bale) (e : LayerEntry) : TileRef :=
  let same := fun x : LayerEntry => x.layer = e.layer && x.matrix = e.matrix && x.colTile = e.colTile
  { key := { bay := f.bay, layer := e.layer, matrix := e.matrix, colTile := e.colTile, request := f.request, place := f.token },
    rowTile := e.rowTile, total := (bale.layerMap.filter same).length }

/-- The mean firing rate of the in-service cores over the last second (R68). -/
def State.serviceRate (s : State) : Nat :=
  let serving := (s.cores.core.filter fun p => p.2.role = 0).map (·.1)
  (serving.map s.firingRate).sum / max 1 serving.length

/-- A firing that the core makes now: its role makes the kind, a data firing serves a tile, a probe follows the end of a load,
keep-warm firings stay below the mean rate of the in-service cores, and filler firings smooth the load (R48, R52, R68, R70, R379,
Table 03-1). -/
def State.fires (s : State) (f : Firing) : Bool :=
  s.power.railsOn && !s.sequencerDown f.core && f.core ≤ 8 && f.string ≤ 31 && f.position ≤ 129 &&
    roleFires (s.core f.core).role f.kind &&
    (match f.kind with
     | .data => (s.dataEntry f).isSome
     | .probe => s.cores.handover.any fun h => h.loaded && h.incoming = f.core
     | .keepWarm => (s.lastSecond id (s.core f.core).recentWarm).length < s.serviceRate
     | .filler => s.power.smoothing
     | .calibration => true)

/-- The fixed input group of a probe: pseudo-random elements of scale 127 (R70; DESIGN CHOICE log 103). -/
def probeGroup : InputGroup :=
  { elems := (List.range 256).map fun i => clampInt (Config.probeElements i) (-128) 127, scales := List.replicate 8 127 }

/-- A group of zeros (R38, R68). -/
def zeroGroup : InputGroup := { elems := List.replicate 256 0, scales := List.replicate 8 0 }

/-- The input group of a firing. A data firing's group is written to the activation store when it comes, and read back from it by
every other array that it feeds; poison there tags the request (R38, R261, Table 09-11). -/
def State.inputOf (s : State) (f : Firing) : InputGroup × State :=
  match f.kind with
  | .probe => (probeGroup, s)
  | .data =>
    let owner := ((s.bay f.bay).map (·.owner)).getD 0
    match f.group with
    | some g => (groupOf (groupRecord g.elems g.scales), s.memWrite 3 f.core f.place (groupRecord g.elems g.scales) owner)
    | none =>
      let s := s.readRange 3 f.core f.place 264 false
      let s := match s.poisonIn 3 f.core f.place 264 with
        | some a => s.tagRequest f.request ((f.request.bind s.request).map (·.context) |>.getD 0) 3 f.core a 2 owner
        | none => s
      (groupOf ((s.memory 3 f.core).readBytes f.place 264), s)
  | _ => (f.group.getD zeroGroup, s)

/-- The group of a firing is met for the first time: it is aligned, and its flushed elements and NaN scales are counted, once
(R39, R40). -/
def newGroup (f : Firing) : Bool := f.kind ≠ .data || f.group.isSome

/-- A re-fire on the standby waits for a later slot (R75). -/
def State.queueRefire (s : State) (p : PendingRefire) : State :=
  ({ s with cores := { s.cores with refires := s.cores.refires ++ [p] } } : State).queueData p.firing.core p.ticket p.tile none

/-- A disagreement without a re-fire: the result is suspect, and used as it is (R75, R76). -/
def State.takeSuspect (s : State) (f : Firing) (ticket : Nat) (tile : Option TileRef) (results : List F32) (r : FireResult) :
    State :=
  ((s.markSuspect f).logDisagreement f (if r.saturated > 0 then 3 else 2) r.saturated r.dis).queueData f.core ticket tile
    (some results)

/-- What follows a firing whose checksum exceeds the threshold: a re-fire on its standby, or a suspect result; a probe is not
re-fired (R70, R75 to R79, R83). -/
def State.disagreed (s : State) (f : Firing) (ticket : Nat) (tile : Option TileRef) (xs : List Int) (emax : Nat)
    (results : List F32) (r : FireResult) : State :=
  let s := s.countDis f f.position
  if f.kind = .probe then s.takeSuspect f ticket tile results r
  else
    let s := match s.standbyOf f.core f.string f.position with
      | some p =>
        if r.saturated > 0 then s.takeSuspect f ticket tile results r
        else s.queueRefire { ticket := ticket, slot := s.slotNow, xs := xs, emax := emax, tile := tile, results := results,
                             firing := f, standby := p, dis := r.dis }
      | none => s.takeSuspect f ticket tile results r
    let s := s.assignStandby f.core f.string f.position
    if s.tooManyDis f.core then s.fenceCore f.core 3 else s

/-- A keep-warm firing noted (R68). -/
def State.noteWarm (s : State) (f : Firing) : State :=
  if f.kind ≠ .keepWarm then s
  else
    let c := s.core f.core
    s.setCore f.core { c with recentWarm := s.lastSecond id c.recentWarm ++ [s.up] }

/-- A firing on aligned activations (R41 to R46, R72, R73). -/
def State.fireAligned (s : State) (f : Firing) (tile : Option TileRef) (xs : List Int) (emax : Nat) : State :=
  let n := s.free
  let r := s.fire f.core f.string f.position xs n
  let s := ((({ s with free := n + 1044 } : State).countSegment f f.position).noteWarm f).countSaturated f r.saturated
  let (results, s) := s.scaleFiring f.core f.string f.position r.y xs emax
  if r.dis > checkThreshold (s.tolerance f.bay) then s.disagreed f n tile xs emax results r
  else
    let s := if (s.array f.core f.string f.position).wordSuspect then s.markSuspect f else s
    s.queueData f.core n tile (some results)

/-- A group with a NaN scale is not fired: every column result of it is a quiet NaN (R40). -/
def State.fireNaN (s : State) (f : Firing) (tile : Option TileRef) : State :=
  let s := if newGroup f then s.count 0x0001 f.core 0 0 0 32 1 else s
  let width := if (s.array f.core f.string f.position).mxint8 then 128 else 256
  ({ s with free := s.free + 1 } : State).queueData f.core s.free tile (some (List.replicate width F32.qnan))

/-- A calibration firing: counted on the core and its array; its codes are those of the visit's measurement, and no checksum is formed
of it, for its converters stand on the reference lines (R63, R65; DESIGN CHOICE log 114). -/
def State.fireCalibration (s : State) (f : Firing) : State :=
  let s := s.countFiring f.core f.string f.position true
  let a := s.array f.core f.string f.position
  s.setArray f.core f.string f.position { a with calFired := a.calFired + 1 }

/-- A firing with an input group: aligned and fired, or not fired for a NaN scale (R39 to R41). -/
def State.fireGroup (s : State) (f : Firing) : State :=
  let tile := if f.kind = .data then (s.dataEntry f).map fun e => tileRef f e.1 e.2 else none
  let (g, s) := s.inputOf f
  if groupNaN g then s.fireNaN f tile
  else
    let (xs, emax, flushed) := alignGroup g
    (if newGroup f && flushed ≠ 0 then s.count 0x0001 f.core 0 0 0 24 flushed else s).fireAligned f tile xs emax

/-- One firing of an array: what the shell does with an input group (R38 to R48, R72 to R79). A group that is not fired for a NaN
scale takes no part of the budget. -/
def execArrayFiring (f : Firing) (s : State) : Host.Outcome State Fault Refusal :=
  let unfired := f.kind ≠ .calibration && groupNaN (s.inputOf f).1
  if !s.fires f || !(unfired || s.mayFire f.core f.string f.position (f.kind = .calibration)) then .next s
  else if f.kind = .calibration then .next (s.fireCalibration f)
  else .next (s.fireGroup f)

/-- A pending re-fire is made on the standby: its results replace the original ones, or the original ones stay and are suspect (R75,
R79). -/
def State.makeRefire (s : State) (p : PendingRefire) : State :=
  let f := p.firing
  let a := s.array f.core f.string f.position
  let n := s.free
  let r := s.fire f.core f.string p.standby p.xs n
  let s := { s with free := n + 1044 }
  let s := { s with cores := { s.cores with refires := s.cores.refires.filter fun q => q.ticket ≠ p.ticket } }
  let s := (s.setArray f.core f.string f.position { a with refired := satAdd 16 1 a.refired }).count 0x0001 f.core 0 0 0 72 1
  let s := (s.countSegment f p.standby).countSaturated f r.saturated
  if r.dis > checkThreshold (s.tolerance f.bay) then
    let s := ((s.countDis f p.standby).markSuspect f).logDisagreement f 1 0 p.dis
    let s := s.fillData f.core p.ticket p.tile p.results
    if s.tooManyDis f.core then s.fenceCore f.core 3 else s
  else
    let (results, s) := s.scaleFiring f.core f.string p.standby r.y p.xs p.emax
    (s.logDisagreement f 0 0 p.dis).fillData f.core p.ticket p.tile results

/-- A re-fire in the next slot that the budget and string cap allow (R75). -/
def execRefire (core string position : Nat) (s : State) : Host.Outcome State Fault Refusal :=
  match s.cores.refires.find? fun p =>
      p.firing.core = core && p.firing.string = string && p.firing.position = position with
  | some p => if p.slot < s.slotNow && s.mayFire core string p.standby false then .next (s.makeRefire p) else .next s
  | none => .next s

/-! ## Background calibration (R63 to R66) -/

/-- Ideal REF0 − REF1 difference in codes (Table 03-2). -/
def idealDifference (step : Nat) : Nat := [840, 840, 840, 840, 840, 640, 480, 320].getD step 320

/-- The range step a physical column converts at (R42, R63). -/
def columnStep (a : ArrayRec) (column : Nat) : Nat := if column < 256 then a.convStep else 7

/-- Four times the deviation of the measured REF0 − REF1 difference from the ideal one, in codes (R63). -/
def gainDeviation (step : Nat) (m : CalMeasure) : Int := m.ref0.sum - m.ref1.sum - 4 * idealDifference step

/-- Offset error in 1/128 LSB and gain error in 1/32,768 of a measurement, the means of its four codes, both as full errors (R63;
log 35). -/
def calErrors (step : Nat) (m : CalMeasure) : Int × Int :=
  (32 * m.zero.sum, rheDiv (gainDeviation step m * 32768) (4 * idealDifference step))

/-- A measured error is large enough for a retry: an offset beyond 4 LSB or a gain beyond 2 % (R66). -/
def calLarge (step : Nat) (m : CalMeasure) : Bool :=
  decide (m.zero.sum.natAbs > 16) ||
    decide ((gainDeviation step m).natAbs * 100 > 2 * (4 * idealDifference step))

/-- A trim moved against an error, within its range, in sixteenths of its unit (R64). -/
def moveTrim (trim err lo hi : Int) : Int := clampInt (trim - err) (16 * lo) (16 * hi)

/-- One column's trims moved: by 1/16 of the error, or by all of it (R63, R66). -/
def trimColumn (t : Int × Int) (e : Int × Int) (whole : Bool) : Int × Int :=
  let part := fun x : Int => if whole then x else rheDiv x 16
  (moveTrim t.1 (part e.1) (-64) 63, moveTrim t.2 (part e.2) (-256) 255)

/-- An offset trim stands at an end of its range (R64). -/
def offsetAtEnd (t : Int) : Bool := t = -1024 || t = 1008

/-- A gain trim stands at an end of its range (R64). -/
def gainAtEnd (t : Int) : Bool := t = -4096 || t = 4080

/-- Trims of a column that have reached an end: each of them sets TRIM_AT_LIMIT and writes one log entry (R64). -/
def trimsReached (old new : Int × Int) : Nat :=
  bit (offsetAtEnd new.1 && !offsetAtEnd old.1) + bit (gainAtEnd new.2 && !gainAtEnd old.2)

/-- A column's trims at a step set, with what follows when one reaches an end of its range (R64). -/
def State.setTrims (s : State) (core string position column step : Nat) (new : Int × Int) : State :=
  let a := s.array core string position
  let k := 8 * column + step
  let hits := trimsReached ((Map.get? a.trims k).getD (0, 0)) new
  let s := s.setArray core string position { a with
    trims := Map.set a.trims k new, trimAtLimit := a.trimAtLimit || hits > 0 }
  (List.range hits).foldl (fun s _ => s.logAdd 0x05 4 core 255 false
    (leBytes 1 core ++ leBytes 1 string ++ leBytes 1 position ++ leBytes 2 column ++ leBytes 1 step)) s

/-- One column's visit: its trims move (R63). -/
def State.visitColumn (s : State) (core string position column : Nat) (m : CalMeasure) (whole : Bool) : State :=
  let a := s.array core string position
  let step := columnStep a column
  s.setTrims core string position column step
    (trimColumn ((Map.get? a.trims (8 * column + step)).getD (0, 0)) (calErrors step m) whole)

/-- Saturated codes among the weight columns' calibration conversions (R43). -/
def calSaturated (a : ArrayRec) (ms : List CalMeasure) : Nat :=
  ((ms.take 256).map fun m => ((m.zero ++ m.ref0 ++ m.ref1).filter (isSaturated a.convStep)).length).sum

/-- The array counts as visited; a pass that has visited every array starts anew (R65). -/
def State.markVisited (s : State) (core string position : Nat) : State :=
  let c := s.core core
  let v := if c.visited.contains (130 * string + position) then c.visited else c.visited ++ [130 * string + position]
  if v.length ≥ 4160 then s.setCore core { c with visited := [], passStart := s.up, overdue := false }
  else s.setCore core { c with visited := v }

/-- The trims of a visit's columns moved, by the whole error where the retry confirms it (R63, R66). -/
def State.visitColumns (s : State) (core string position : Nat) (first retry : List CalMeasure) : State :=
  let a := s.array core string position
  first.zipIdx.foldl (fun s p =>
    let large := calLarge (columnStep a p.2)
    match retry[p.2]? with
    | some m =>
      if large p.1 && large m then s.visitColumn core string position p.2 m true
      else s.visitColumn core string position p.2 p.1 false
    | none => s.visitColumn core string position p.2 p.1 false) s

/-- Background calibration visits one array once its 27 calibration firings are made, and once more with a retry (R63 to R66). -/
def execBgCalVisit (core string position : Nat) (first retry : List CalMeasure) (s : State) :
    Host.Outcome State Fault Refusal :=
  let a := s.array core string position
  let redo := first.zipIdx.any fun p => calLarge (columnStep a p.2) p.1
  if !s.power.railsOn || core > 8 || string > 31 || position > 129 || (s.core core).role ≠ 0 ||
      a.calFired < (if redo then 54 else 27) then .next s
  else
    let s := s.setArray core string position { a with
      calFired := 0, calRetries := if redo then satAdd 16 1 a.calRetries else a.calRetries }
    let n := calSaturated a (if redo then first ++ retry else first)
    let s := if n = 0 then s else s.countPrescaled 0x0001 core 0 0 0 16 n
    .next ((s.visitColumns core string position first (if redo then retry else [])).markVisited core string position)

/-- A background pass has not completed after ten pass periods (R65). -/
def execBgCalOverdue (core : Nat) (s : State) : Host.Outcome State Fault Refusal :=
  let c := s.core core
  if core > 8 || c.role ≠ 0 || c.overdue || !s.elapsed c.passStart (10 * s.cores.passPeriod * 1000000) then .next s
  else .next ((s.setCore core { c with overdue := true }).event 0 0x0101 core 0)

/-! ## Full calibration (R68, R69, R84) -/

/-- The five cell patterns by their weight: 0, 1, 2, 4 and −8 (R69). -/
def patternWeights : List Int := [0, 1, 2, 4, -8]

/-- A combination of a pattern, a step and driven rows is not skipped: its ideal partial sum is within 90 % of the step's full scale
(R69, Table 02-7). -/
def comboFires (w : Int) (step rows : Nat) : Bool :=
  let p := w * rows
  let full : Int := if p < 0 then 512 * lsb2 step else 511 * lsb2 step
  decide (10 * (2 * p.natAbs : Int) ≤ 9 * full)

/-- Combinations of a pattern, a range step and a number of driven rows that a pass fires (R69). -/
def fullCalCombos : Nat :=
  (patternWeights.flatMap fun w => (List.range 8).flatMap fun step => (List.range 8).filter fun i =>
    comboFires w step (32 * (i + 1))).length

/-- Firings of a full calibration pass: every array, 256 times for each combination (R69). -/
def fullCalFirings : Nat := 4160 * 256 * fullCalCombos

/-- The result of a pass for a column and step: the one the row names, else a free one (R69; log 102). -/
def fullResult (results : List FullCalResult) (n string position column step : Nat) : FullCalResult :=
  match results.find? fun r => r.string = string && r.position = position && r.column = column && r.step = step with
  | some r => r
  | none =>
    let m := Config.fullCal n (((130 * string + position) * 261 + column) * 8 + step)
    { string := string, position := position, column := column, step := step, offset := m.1, gain := m.2.1,
      planeError := m.2.2 }

/-- One column's result of a full calibration pass at one step (R69). -/
def State.fullColumn (s : State) (core : Nat) (r : FullCalResult) : State :=
  let bad := decide (r.planeError > 150)
  let s := s.setTrims core r.string r.position r.column r.step
    (clampInt r.offset (-64) 63 * 16, clampInt r.gain (-256) 255 * 16)
  let a := s.array core r.string r.position
  let s := s.setArray core r.string r.position { a with planeError := a.planeError || bad, wordSuspect := false }
  if bad && !a.planeError then s.logAdd 0x06 4 core 255 false
      (leBytes 1 core ++ leBytes 1 r.string ++ leBytes 1 r.position ++ leBytes 2 r.column ++ leBytes 1 r.step ++
        leBytes 2 r.planeError)
  else s

/-- Every column of every array at every step of a pass. -/
def State.fullColumns (s : State) (core n : Nat) (results : List FullCalResult) : State :=
  (List.range 4160).foldl (fun s i => (List.range 261).foldl (fun s column => (List.range 8).foldl (fun s step =>
    s.fullColumn core (fullResult results n (i / 130) (i % 130) column step)) s) s) s

/-- The patterns of a pass written over the whole weight storage of a core; the last one stays there, its words are whole again, and
the armed flip-mask is met (R69, R262; log 36). -/
def State.writePatterns (s : State) (core : Nat) : State :=
  let s := s.setMemory 4 core patternMemory
  let s := { s with mem := { s.mem with
    poison := s.mem.poison.filter fun p => p.1 ≠ memKey 4 core,
    flipped := s.mem.flipped.filter fun f => f.1 ≠ memKey 4 core } }
  s.flipMeets 4 core 0 (classBytes 4) 0

/-- Sixty seconds, and the 15 ms that a pass takes at most. -/
def passSpacing : Nat := 60000000000
def passLimit : Nat := 15000000

/-- A full calibration pass is due on the resting core: the first of its rest after the scrubs and a pending microcode handover, one
every 60 s, and the final one before the rest period ends (R68, R84, Table 03-4). -/
def State.fullCalDue (s : State) (core : Nat) : Bool :=
  let c := s.core core
  let first := match c.lastFullCal, c.restStart with
    | some t, some r => decide (t < r)
    | _, _ => true
  if first then !s.rotates || (c.restScrubbed && c.microcode = s.fw.coreCommitted)
  else
    let last := c.lastFullCal.getD 0
    let end_ := s.cores.restFrom + s.cores.restPeriod * 1000000000
    s.elapsed last passSpacing || (s.rotates && s.up + passLimit ≥ end_ && last + passLimit < end_)

/-- A complete full calibration pass on the resting core (R68, R69). -/
def execFullCalPass (core : Nat) (results : List FullCalResult) (s : State) : Host.Outcome State Fault Refusal :=
  if !s.power.railsOn || (s.core core).role ≠ 1 || core > 8 || !s.fullCalDue core then .next s
  else
    let (n, s) := s.draw
    let s := ((s.countFirings core fullCalFirings).fullColumns core n results).writePatterns core
    .next (s.setCore core { s.core core with
      lastFullCal := some s.up, fullAtRest := s.cores.restCount, calStale := false })

/-- Thirty days in nanoseconds. -/
def thirtyDays : Nat := 2592000000000000

/-- Thirty days have passed since a core's last full calibration while no full calibration runs (R84; log 44). -/
def execCalStale (core : Nat) (s : State) : Host.Outcome State Fault Refusal :=
  let c := s.core core
  let from_ := c.lastFullCal.getD 0
  if core > 8 || c.role ≠ 0 || c.calStale || s.rotates || !s.elapsed from_ thirtyDays then .next s
  else
    .next ((s.setCore core { c with calStale := true }).event 0 0x0102 core
      (min 65535 ((s.up - from_) / 86400000000000)))

/-! ## Rest rotation (R67, R70, R294) -/

/-- Nanoseconds of the rest period. -/
def State.restNs (s : State) : Nat := s.cores.restPeriod * 1000000000

/-- The resting core has made the final full calibration pass of its rest (Table 03-4 row 5). -/
def State.finalPassDone (s : State) (core : Nat) : Bool :=
  (s.core core).lastFullCal.any fun t => t + passLimit ≥ s.cores.restFrom + s.restNs

/-- A rest period ends: the handover to the core that rested longest ago begins (R67, R70, R102). Only rest periods that run to their
end count in RESTS_SINCE_FULL: the spec does not say whether a rest that ROTATE_NOW ends counts too, DESIGN CHOICE log 115. -/
def execRestPeriodEnd (s : State) : Host.Outcome State Fault Refusal :=
  if !s.rotates || !s.power.railsOn || !s.elapsed s.cores.restFrom s.restNs || s.cores.handover.isSome ||
      !(s.restingCore.all s.finalPassDone) then .next s
  else
    let s := { s with cores := { s.cores with restFrom := s.up, restCount := s.cores.restCount + 1 } }
    match s.outgoingCore, s.restingCore with
    | some out, some inc =>
      if s.rotationHeld out then .next s else .next (s.beginHandover out inc [])
    | _, _ => .next s

/-- Arrays of a core that hold tiles of seated bales of its slice. -/
def State.loadedArrays (s : State) (slice : Nat) : Nat :=
  (s.bays.bay.map fun p => match p.2.bale with
    | some b => (Bay.entriesOn p.2 b slice).length
    | none => 0).sum

/-- The bay whose tile an array holds; 8 where it holds none. -/
def State.bayOfIndex (s : State) (core string position : Nat) : Nat :=
  (((s.indexAt core string position).bind fun i => s.tileFor core string i).map (·.1)).getD 8

/-- A probe of an array that disagrees: counted, its result suspect, and logged; by how much it disagrees is free (R70, R79). -/
def State.probeDisagrees (s : State) (core string position : Nat) : State :=
  let bay := s.bayOfIndex core string position
  let f : Firing :=
    { core := core, string := string, position := position, kind := .probe, bay := bay, segment := 0, request := none, token := 0,
      place := 0, group := none }
  let (n, s) := s.draw
  ((s.countDis f position).markSuspect f).logDisagreement f 2 0 (checkThreshold (s.tolerance bay) + 1 + Config.freeNat n)

/-- An array whose probe disagreed is rewritten once from the staging copy (R70). -/
def State.rewriteArray (s : State) (core string position : Nat) : State :=
  match s.indexAt core string position with | some i => s.writeIndex core string i position | none => s

/-- A probe that disagrees twice (Table 03-7). -/
def State.probeFailed (s : State) (core string position : Nat) : State :=
  s.setArray core string position { s.array core string position with probeFailed := true }

/-- The load of a handover has ended and its arrays are probed; a second failed probe abandons it (R70). -/
def execHandoverLoadEnd (firstProbe secondProbe : List (Nat × Nat)) (s : State) : Host.Outcome State Fault Refusal :=
  match s.cores.handover with
  | none => .next s
  | some h =>
    match h.loaded, (s.core h.incoming).slice with
    | false, some slice =>
      let s := ((s.readSliceStaging slice).initArrays h.incoming).loadSlice slice h.incoming
      let again := secondProbe.filter firstProbe.contains
      let s := s.countFirings h.incoming (s.loadedArrays slice + firstProbe.length)
      let s := firstProbe.foldl (fun s p => (s.probeDisagrees h.incoming p.1 p.2).rewriteArray h.incoming p.1 p.2) s
      let s := again.foldl (fun s p => s.probeDisagrees h.incoming p.1 p.2) s
      match again with
      | (st, p) :: _ =>
        let s := again.foldl (fun s q => s.probeFailed h.incoming q.1 q.2) s
        let s := s.abandonHandover.event 0 0x0103 h.incoming (h.outgoing.getD 255 + 256 * st + 65536 * p)
        .next (if h.forFence then s.loseSlice slice h.incoming else s)
      | [] =>
        let h := { h with loaded := true }
        if s.bays.bay.any fun b => b.2.seated.isSome && bitOf b.2.sliceMask slice then
          .next { s with cores := { s.cores with handover := some h } }
        else .next (s.swapRoles h)
    | _, _ => .next s

/-- REST_ROTATE once started, with its refusal of a virtual function left to the header checks. -/
def setPeriodRun (period : Nat) (c : CmdRef) (s : State) : State :=
  if !(period = 0 || within period 300 14400) then s.reply c Status.badParam 0 0
  else ({ s with cores := { s.cores with restPeriod := period } } : State).reply c Status.done s.cores.restPeriod 0

/-- REST_ROTATE SET_PERIOD (R294). -/
def execSetPeriod (h : Hdr) (period : Nat) (s : State) : Host.Outcome State Fault Refusal :=
  .next (s.cmd 0x0110 h (setPeriodRun period))

/-- ROTATE_NOW once started: the handover starts at once, or the command joins the one in progress (R294, Table 03-9). -/
def rotateNowRun (c : CmdRef) (s : State) : State :=
  match s.cores.handover with
  | some h => { s with cores := { s.cores with handover := some { h with refs := h.refs ++ [c] } } }
  | none =>
    match s.outgoingCore, s.restingCore with
    | some out, some inc =>
      if !s.rotates || s.rotationHeld out then s.reply c Status.notPermitted 0 0
      else s.beginHandover out inc [c]
    | _, _ => s.reply c Status.notPermitted 0 0

/-- REST_ROTATE ROTATE_NOW (R294). -/
def execRotateNow (h : Hdr) (s : State) : Host.Outcome State Fault Refusal := .next (s.cmd 0x0110 h rotateNowRun)

/-- UNFENCE once started (R84, R294). -/
def unfenceRun (core : Nat) (c : CmdRef) (s : State) : State :=
  if core > 8 then s.reply c Status.badParam 0 0
  else if (s.core core).role ≠ 2 then s.reply c Status.done 0 0
  else if (s.core core).fenceReason = 0 || bitOf s.mem.fence core then s.reply c Status.notPermitted 0 0
  else
    let s := s.setCore core { s.core core with role := 1, slice := none, restStart := some s.up, restScrubbed := false }
    let whole := (List.range 8).all fun i => s.cores.core.any fun p => p.2.slice = some i
    (if s.rotates && whole then s.restScrub core else s).reply c Status.done 0 0

/-- REST_ROTATE UNFENCE (R294). -/
def execUnfence (h : Hdr) (core : Nat) (s : State) : Host.Outcome State Fault Refusal :=
  .next (s.cmd 0x0110 h (unfenceRun core))

/-- SET_EXHAUSTION once started (R294). -/
def setExhaustionRun (policy : Nat) (c : CmdRef) (s : State) : State :=
  if policy > 1 then s.reply c Status.badParam 0 0
  else ({ s with cores := { s.cores with exhaustion := policy } } : State).reply c Status.done s.cores.exhaustion 0

/-- REST_ROTATE SET_EXHAUSTION (R82, R294). -/
def execSetExhaustion (h : Hdr) (policy : Nat) (s : State) : Host.Outcome State Fault Refusal :=
  .next (s.cmd 0x0110 h (setExhaustionRun policy))

/-! ## RETIRE_ARRAY (R81, R82) -/

/-- How far the check columns of an array's probe firing stand from its sum (R72). -/
def State.probeDis (s : State) (core string position : Nat) : Nat :=
  (s.fire core string position (alignGroup probeGroup).1 s.free).dis

/-- One probe firing of an array (R70, R72, R73): whether it disagrees, which counts as a disagreement. -/
def State.probeOnce (s : State) (core string position : Nat) : Bool × State :=
  let bad := s.probeDis core string position > checkThreshold (s.tolerance (s.bayOfIndex core string position))
  let s := ({ s with free := s.free + 1044 } : State).countFirings core 1
  (bad, if bad then s.probeDisagrees core string position else s)

/-- A spare that has taken a tile is probed; one that disagrees is written anew and probed again, and a second disagreement sets
PROBE_FAILED. The remap goes on all the same, for Table 03-8 names no other outcome, DESIGN CHOICE log 113. -/
def State.probeSpare (s : State) (core string index position : Nat) : State :=
  let first := s.probeOnce core string position
  if !first.1 then first.2
  else
    let second := (first.2.writeIndex core string index position).probeOnce core string position
    if second.1 then second.2.probeFailed core string position else second.2

/-- A spare takes a mapped index's tile and is probed (Table 03-8). -/
def State.takeSpare (s : State) (core string index position : Nat) : State :=
  let s := s.writeIndex core string index position
  let s := s.setArray core string position { s.array core string position with
    state := 0, standbyFor := none, writeEnd := none }
  s.probeSpare core string index position

/-- A mapped array retired in a string without a spare: the array of index n − 1 takes its index, and the exhaustion policy
follows. The donor's cells are written only where the core serves no bay that is left, for no write meets an array that serves (R52,
R82; log 43). -/
def State.retireNoSpare (s : State) (core string position index : Nat) : State :=
  let last := s.working core string - 1
  let donor := s.physical core string last
  let s := if last = index then s else s.setRemap core string index donor
  let s := s.recordArray core string position
  let s := if (s.core core).role = 3 then s.dropHandover (s.core core).slice core else s
  let s := s.exhaust core
  if last = index || (s.core core).role ≠ 0 then s else s.writeIndex core string index donor

/-- RETIRE_ARRAY once started (Table 03-8). -/
def retireArrayRun (core string position : Nat) (c : CmdRef) (s : State) : State :=
  if core > 8 || string > 31 || position > 129 then s.reply c Status.badParam 0 0
  else
    let a := s.array core string position
    match s.indexAt core string position with
    | none => (if a.state = 3 then s else s.recordArray core string position).reply c Status.done 0 0
    | some i =>
      if a.state ≠ 0 then (if a.state = 3 then s else s.recordArray core string position).reply c Status.done 0 0
      else if s.remapWaits core string i then s.queueRemap core string i position (some c)
      else
        match s.nextSpare core string with
        | none => (s.retireNoSpare core string position i).reply c Status.done 0 0
        | some p =>
          if s.leavesService core && !s.writtenIndex core i then
            (s.setArray core string p { s.array core string p with state := 0, standbyFor := none, writeEnd := none }).queueRemap
              core string i p (some c)
          else if (s.core core).role = 0 && s.servesBay core && !s.writtenIndex core i then
            (s.takeSpare core string i p).queueRemap core string i p (some c)
          else
            let s := s.setArray core string p { s.array core string p with state := 0, standbyFor := none, writeEnd := none }
            let s := if (s.core core).role = 3 || s.writtenIndex core i then s.writeIndex core string i p else s
            ((s.setRemap core string i p).recordArray core string position).reply c Status.done 0 0

/-- RETIRE_ARRAY (R81). -/
def execRetireArray (h : Hdr) (core string position : Nat) (s : State) : Host.Outcome State Fault Refusal :=
  .next (s.cmd 0x0504 h (retireArrayRun core string position))

end Sys2Proof.Machine
end

