-- ==== Sys2Proof/Machine/Bales.lean ====
section
/-! DEFINITION. Staging of bales, bays, seating and unseating (R86 to R106, R344). -/

namespace Sys2Proof.Machine

/-! ## LOAD_BALE (R92 to R94) -/

/-- A staged bale set. -/
def State.setStaged (s : State) (handle : Nat) (g : Staged) : State :=
  { s with bays := { s.bays with staged := Map.set s.bays.staged handle g } }

/-- A bale of a library index that belongs to a tenant. -/
def State.libraryBale (s : State) (index tenant : Nat) : Option Bale :=
  match Map.get? s.persist.library index with
  | some (t, b) => if t = tenant then some b else none
  | none => none

/-- LOAD_BALE once started: a flash index that holds no bale of the tenant is refused, else the copy begins (R92, R93). -/
def loadBaleRun (h : Hdr) (source tier : Nat) (store : Bool) (index : Nat) (bale : Bale) (c : CmdRef) (s : State) : State :=
  if source > 1 || tier > 2 || (source = 1 && index > 1023) then s.reply c Status.badParam 0 0
  else
    let b := if source = 1 then s.libraryBale index h.fn else some bale
    match b with
    | none => s.reply c Status.badParam 0 0
    | some b =>
      let j : LoadJob :=
        { ref := c, tenant := h.fn, source := source, tier := tier, store := store,
          library := if source = 1 then some index else none, bale := b, discards := [] }
      { s with bays := { s.bays with loads := s.bays.loads ++ [j] } }

/-- LOAD_BALE (R92). -/
def execLoadBale (h : Hdr) (source tier : Nat) (store : Bool) (libraryIndex : Nat) (bale : Bale) (s : State) :
    Host.Outcome State Fault Refusal :=
  .next (s.cmd 0x0101 h (loadBaleRun h source tier store libraryIndex bale))

/-- A refused bale's log entry; it has no handle, and which byte it names where the digest holds is free (R93,
Table 09-18). -/
def State.logRejected (s : State) (tenant : Nat) (b : Bale) : State :=
  let computed := Config.sha384 (Bale.digested b)
  let byte := if computed = b.digest then Config.freeNat (s.free + 1) else Config.firstDiff computed b.digest
  let handle := Config.freeNat s.free
  ({ s with free := s.free + 2 } : State).logAdd 0x09 255 255 tenant false (leBytes 2 handle ++ leBytes 1 byte)

/-- What a staging copy puts in HBM and what in the waystation: the EMBEDDING section always lies in HBM (R92). -/
def stagedBytes (b : Bale) (tier : Nat) : List Byte × List Byte :=
  match tier with
  | 0 => (b.bytes, [])
  | 1 => (Bale.embedding b, Bale.rest b)
  | _ => ([], [])

/-- A bale's bytes stored in its frames, 65,536 to each (R92). -/
def State.writeFrames (s : State) (tenant : Nat) (pages : List Nat) (bytes : List Byte) : State :=
  match pages with
  | [] => s
  | p :: r =>
    let s := if bytes.isEmpty then s
      else s.memWrite (p / 2 ^ 30) 0 (65536 * (p % 2 ^ 30)) (bytes.take 65536) tenant
    s.writeFrames tenant r (bytes.drop 65536)

/-- Frames for a staging copy, filled, or none without room (R92, R311). -/
def State.stageFrames (s : State) (tenant tier : Nat) (b : Bale) : Option (List Nat × State) :=
  let (hbm, way) := stagedBytes b tier
  match s.allocFrames tenant 0 1 0 (ceilDiv hbm.length 65536) with
  | none => none
  | some (p, s) =>
    (s.allocFrames tenant 1 1 0 (ceilDiv way.length 65536)).map fun x =>
      (p ++ x.1, (x.2.writeFrames tenant p hbm).writeFrames tenant x.1 way)

/-- A tenant's staged bale of a digest. -/
def State.sameDigest (s : State) (tenant digest : Nat) : Option (Nat × Staged) :=
  s.bays.staged.find? fun p => p.2.tenant = tenant && p.2.bale.digest = digest

/-- A flash copy of a bale at the lowest free index, or none when the library is full. -/
def State.storeLibrary (s : State) (tenant : Nat) (b : Bale) : Option (Nat × State) :=
  let i := Map.firstFree s.persist.library 0 1024
  if i > 1023 then none
  else some (i, { s with persist := { s.persist with library := Map.set s.persist.library i (tenant, b) } })

/-- The flash index a load leaves: the source's, a new copy, or none; fails when the library is full (Table 04-7). -/
def State.loadLibrary (s : State) (j : LoadJob) : Option (Option Nat × State) :=
  match j.library with
  | some i => some (some i, s)
  | none => if j.store || j.tier = 2 then (s.storeLibrary j.tenant j.bale).map fun x => (some x.1, x.2)
            else some (none, s)

/-- The larger of two quotients in whole nanoseconds (log 23). -/
def largerQuotient (a b c d : Nat) : Nat := if a * d ≥ c * b then roundedQuotient a b else roundedQuotient c d

/-- T_seat of a staged bale in nanoseconds (R99). -/
def seatTime (b : Bale) (tier : Nat) : Nat :=
  let per := (List.range b.slices).map (Bale.sliceBytes b)
  largerQuotient (per.foldl max 0) 128 per.sum (if tier = 1 then 819 else 1024) + 50000

/-- Result words of a completed LOAD_BALE (R93); the seating time of a bale held only in flash is free. -/
def State.loadReply (s : State) (j : LoadJob) (handle : Nat) (library : Option Nat) : State :=
  let (n, s) := s.draw
  let seat := if j.tier = 2 then Config.freeNat n % 2 ^ 32 else seatTime j.bale j.tier
  s.reply j.ref Status.done (handle + 65536 * library.getD 65535)
    ((if j.bale.kind = 1 then j.bale.tDet else 0) + 2 ^ 32 * seat)

/-- A digest-checked copy takes its handle: that of the tenant's staged bale of the same DIGEST, whose copy it replaces, or
the lowest free one (R92, R93). With 64 handles in use and such a bale staged two rows of Table 04-8 fit, and no rule says which
holds: the model answers DONE, DESIGN CHOICE log 123. -/
def State.stageLoaded (s : State) (j : LoadJob) : State :=
  match s.sameDigest j.tenant j.bale.digest with
  | some (handle, old) =>
    if j.tier = 2 then
      match s.loadLibrary j with
      | none => s.reply j.ref Status.noPages 0 0
      | some (lib, s) => (s.setStaged handle { old with library := lib }).loadReply j handle lib
    else
      match (s.freeFrames old.frames).stageFrames j.tenant j.tier j.bale with
      | none => s.reply j.ref Status.noPages 0 0
      | some (frames, t) =>
        match t.loadLibrary j with
        | none => s.reply j.ref Status.noPages 0 0
        | some (lib, t) =>
          let lib := match lib with | some i => some i | none => old.library
          (t.setStaged handle { old with
            bale := j.bale, tier := j.tier, library := lib, frames := frames, poisoned := false }).loadReply j handle lib
  | none =>
    let handle := Map.firstFree s.bays.staged 0 64
    if handle > 63 then s.reply j.ref Status.noPages 0 0
    else
      match s.stageFrames j.tenant j.tier j.bale with
      | none => s.reply j.ref Status.noPages 0 0
      | some (frames, t) =>
        match t.loadLibrary j with
        | none => s.reply j.ref Status.noPages 0 0
        | some (lib, t) =>
          (t.setStaged handle
            { tenant := j.tenant, bale := j.bale, tier := j.tier, library := lib, frames := frames,
              poisoned := false }).loadReply j handle lib

/-! ## Discarding (R100) -/

/-- The flash copy of a staged bale deleted. -/
def State.deleteLibrary (s : State) (handle : Nat) : State :=
  match ((s.stagedBale handle).map (·.library)).getD none with
  | none => s
  | some i =>
    { s with
      persist := { s.persist with library := Map.erase s.persist.library i },
      bays := { s.bays with staged := s.bays.staged.map fun p =>
        if p.2.library = some i then (p.1, { p.2 with library := none }) else p } }

/-- A staging copy freed and its handle with it. -/
def State.discardStaging (s : State) (handle : Nat) : State :=
  match s.stagedBale handle with
  | none => s
  | some g =>
    let s := s.freeFrames g.frames
    { s with bays := { s.bays with staged := Map.erase s.bays.staged handle } }

/-- The flags of UNSEAT_BALE applied to a handle. -/
def State.applyFlags (s : State) (handle : Nat) (discard delete : Bool) : State :=
  let s := if delete then s.deleteLibrary handle else s
  if discard then s.discardStaging handle else s

/-- UNSEAT_BALE with BAY = 0xFF on a handle of its tenant (R100). -/
def State.runDiscard (s : State) (handle : Nat) (discard delete : Bool) (c : CmdRef) : State :=
  if discard && s.handleInUse handle none then s.reply c Status.notPermitted 0 0
  else (s.applyFlags handle discard delete).reply c Status.done handle 0

/-- UNSEAT_BALE with BAY = 0xFF once started: behind a load of the same handle it waits (R100, Table 04-11). -/
def unseatBaleDiscardRun (h : Hdr) (handle : Nat) (discard delete : Bool) (c : CmdRef) (s : State) : State :=
  match s.stagedBale handle with
  | none => s.reply c Status.badParam 0 0
  | some g =>
    if g.tenant ≠ h.fn then s.reply c Status.notPermitted 0 0
    else if s.bays.loads.any fun j => j.tenant = g.tenant && j.bale.digest = g.bale.digest then
      { s with bays := { s.bays with loads := s.bays.loads.map fun j =>
        if j.tenant = g.tenant && j.bale.digest = g.bale.digest then
          { j with discards := j.discards ++ [(c, discard, delete)] } else j } }
    else s.runDiscard handle discard delete c

/-- UNSEAT_BALE with BAY = 0xFF (R100). -/
def execUnseatBaleDiscard (h : Hdr) (handle : Nat) (discard deleteLibrary : Bool) (s : State) :
    Host.Outcome State Fault Refusal :=
  .next (s.cmd 0x0103 h (unseatBaleDiscardRun h handle discard deleteLibrary))

/-- The outcome of a load whose copy and digest check are complete (Table 04-8). -/
def State.finishLoad (s : State) (j : LoadJob) : State :=
  if !baleVersionOk j.bale then s.reply j.ref Status.badVersion 0 0
  else if !baleContentOk j.bale then (s.logRejected j.tenant j.bale).reply j.ref Status.badParam 0 0
  else s.stageLoaded j

/-- The copy and digest check of a load end; discards that waited for it then run (R93, Table 04-11). -/
def execLoadBaleCopyDone (fn ring tag : Nat) (s : State) : Host.Outcome State Fault Refusal :=
  match s.bays.loads.find? fun j => j.ref.fn = fn && j.ref.ring = ring && j.ref.tag = tag with
  | none => .next s
  | some j =>
    if s.customs.restarting || s.droverDown then .next s
    else
      let s := { s with bays := { s.bays with loads := s.bays.loads.filter fun x => x.ref ≠ j.ref } }
      let s := s.finishLoad j
      .next (match s.sameDigest j.tenant j.bale.digest with
        | some (handle, _) => j.discards.foldl (fun s d => s.runDiscard handle d.2.1 d.2.2 d.1) s
        | none => j.discards.foldl (fun s d => s.reply d.1 Status.badParam 0 0) s)

/-! ## Seating and unseating (R97 to R101) -/

/-- Work joins a bay's list. -/
def State.addJob (s : State) (n : Nat) (j : SeatJob) : State :=
  match s.bay n with
  | none => s
  | some b =>
    let first := b.jobs.isEmpty
    let s := s.setBay n { b with
      jobs := b.jobs ++ [j], pendingBale := b.pendingBale || (j.handle.isSome && (j.ref.map (·.copied)).getD false) }
    if first then s.settleJobs n 1 else s

/-- MODE of Table 04-10 resolved against a bay's SWAP_MODE. -/
def seatMode (b : Bay) (mode : Nat) : Bool := mode = 1 || (mode = 2 && b.swapMode = 1)

/-- SEAT_BALE once started (R97). -/
def seatBaleRun (h : Hdr) (handle n mode : Nat) (c : CmdRef) (s : State) : State :=
  match s.bay n with
  | none => s.reply c Status.badParam 0 0
  | some b =>
    if b.owner ≠ h.fn then s.reply c Status.notPermitted 0 0
    else if mode > 2 then s.reply c Status.badParam 0 0
    else s.addJob n
      { ref := some c, auto := false, handle := some handle, preempt := seatMode b mode, discard := false, deleteLibrary := false,
        started := 0, previous := none, stopped := false }

/-- SEAT_BALE (R97). -/
def execSeatBale (h : Hdr) (handle bay mode : Nat) (s : State) : Host.Outcome State Fault Refusal :=
  .next (s.cmd 0x0102 h (seatBaleRun h handle bay mode))

/-- UNSEAT_BALE of a bay once started (R100). -/
def unseatBaleRun (h : Hdr) (n mode : Nat) (discard delete : Bool) (c : CmdRef) (s : State) : State :=
  match s.bay n with
  | none => s.reply c Status.badParam 0 0
  | some b =>
    if b.owner ≠ h.fn then s.reply c Status.notPermitted 0 0
    else if mode > 2 then s.reply c Status.badParam 0 0
    else s.addJob n
      { ref := some c, auto := false, handle := none, preempt := seatMode b mode, discard := discard, deleteLibrary := delete,
        started := 0, previous := none, stopped := false }

/-- UNSEAT_BALE of a bay (R100). -/
def execUnseatBale (h : Hdr) (bay mode : Nat) (discard deleteLibrary : Bool) (s : State) :
    Host.Outcome State Fault Refusal :=
  .next (s.cmd 0x0103 h (unseatBaleRun h bay mode discard deleteLibrary))

/-- No convoy of a bay is in flight or waits for its commit, and under DRAIN no request of the outgoing bale is between steps
(R98). -/
def State.drained (s : State) (n : Nat) (b : Bay) (j : SeatJob) : Bool :=
  b.ahead.isEmpty && b.commits.isEmpty &&
    (j.preempt || b.seated.isNone ||
      !(s.reqs.slot.any fun r => r.2.bay = n && r.2.bale = b.seated && r.2.state = 2))

/-- The mapped indices of a bay recorded as last written for its owner (R96). -/
def State.recordWriter (s : State) (b : Bay) (bale : Bale) : State :=
  bale.layerMap.foldl (fun s e =>
    let k := 128 * b.slices.getD e.slice 8 + (b.start + e.index)
    { s with bays := { s.bays with lastWriter := Map.set s.bays.lastWriter k b.owner } }) s

/-- The mapped indices of a bay. -/
def Bay.holds (b : Bay) (index : Nat) : Bool := b.start ≤ index && index < b.start + b.share

/-- The cores that carry a bay's slices, with the slices. -/
def State.bayCores (s : State) (b : Bay) : List (Nat × Nat) :=
  b.slices.filterMap fun i => (s.sliceCore i).map fun core => (i, core)

/-- A bale written into a bay's slices on the cores that carry them, with one probe of each written array. Remaps of the bay's
indices that are due switch first, and standbys of arrays that lose their tile are free spares again, DEDUCED log 120 (R77, R98,
Table 04-11). -/
def State.writeBay (s : State) (b : Bay) (bale : Bale) : State :=
  (s.bayCores b).foldl (fun s x =>
    let s := s.switchIndices x.2 b.holds
    let s := s.releaseStandbysOf x.2 fun st p => (s.indexAt x.2 st p).any b.holds
    (s.loadBaySlice b bale x.1 x.2).countFirings x.2 (Bay.entriesOn b bale x.1).length) (s.recordWriter b bale)

/-- The probes of a seating. An array that disagrees is written once more from the staging copy and probed again; one that
disagrees again sets PROBE_FAILED, and the seating goes on, DEDUCED log 51 (R70, R98). -/
def State.probeBay (s : State) (n : Nat) (first second : List (Nat × Nat × Nat)) : State :=
  let mine := first.filter fun f => s.bayOfIndex f.1 f.2.1 f.2.2 = n
  let s := mine.foldl (fun s f =>
    ((s.probeDisagrees f.1 f.2.1 f.2.2).rewriteArray f.1 f.2.1 f.2.2).countFirings f.1 1) s
  (second.filter mine.contains).foldl (fun s f =>
    (s.probeDisagrees f.1 f.2.1 f.2.2).probeFailed f.1 f.2.1 f.2.2) s

/-- Requests that a seating binds or wakes: those bound to the next bale of the bay, whose depth the bale limits, and those suspended
with this one (R98, R101, R168). -/
def State.wakeRequests (s : State) (n handle : Nat) : State :=
  (s.liveReqs.filter fun r => r.bay = n).foldl (fun s r =>
    let deepest := ((s.baleOf n (some handle)).map (·.maxDepth)).getD r.depth
    let r := if r.bale.isNone then { r with bale := some handle, depth := min r.depth deepest } else r
    s.setReq (if r.state = 3 && r.bale = some handle then { r with state := r.suspendedFrom } else r)) s

/-- Step 5 of a seating: the bay switches to the new bale, and its first convoy is admitted at once (R98, R99). -/
def State.switchBay (s : State) (n handle : Nat) (j : SeatJob) (rest : List SeatJob) (bale : Bale) : State :=
  let s := (s.dropSums n).modBay n fun b => { b with
    seated := some handle, bale := some bale, lastSeat := some s.up, stages := List.replicate bale.slices none,
    jobs := rest, own := [], attention := [], projection := [], pendingBale := false, lastBoundary := some s.up }
  let s := { s with stats := s.stats.filter fun p =>
    p.1 / 65536 / 65536 != statKey 0x000B n 0 0 0 0 / 65536 / 65536 }
  let s := s.wakeRequests n handle
  let s := match s.bay n with | some b => if s.mayForm b then s.formConvoy n else s | none => s
  s.replyJob j Status.done (j.previous.getD 0xFFFF) (s.up - j.started)

/-- A seating that its own reading of the staging copy refuses: the job ends with that status, and the bale seated before stays, its
suspended requests with it, DESIGN CHOICE log 117 (R97). -/
def State.seatRefused (s : State) (n status : Nat) (b : Bay) (j : SeatJob) (rest : List SeatJob) : State :=
  let s := s.modBay n fun b => { b with jobs := rest }
  let s := match b.seated with | some h => s.wakeRequests n h | none => s
  (s.replyJob j status 0 0).settleJobs n rest.length

/-- The writes of a seating end, its arrays probed (R98); while a handover is in progress they wait (Table 03-9). The staging copy
is read for them: poison met there refuses the seating (R97, Table 09-11). -/
def execSeatWritesDone (bay : Nat) (probes : ProbeFails) (s : State) : Host.Outcome State Fault Refusal :=
  match s.bay bay with
  | none => .next s
  | some b =>
    match b.jobs with
    | [] => .next s
    | j :: rest =>
      match j.handle, j.handle.bind s.stagedBale with
      | some handle, some g =>
        if !j.stopped || !s.drained bay b j || s.cores.handover.isSome || s.droverDown || g.tier = 2 then .next s
        else
          let s := s.readStaging handle
          match s.jobRefusal bay b j with
          | some status => .next (s.seatRefused bay status b j rest)
          | none =>
            let s := (s.writeBay b g.bale).probeBay bay probes.first probes.second
            .next ((s.switchBay bay handle j rest g.bale).settleJobs bay rest.length)
      | _, _ => .next s

/-- A load of the bale of a handle runs (Table 04-11). -/
def State.loading (s : State) (handle : Nat) : Bool :=
  (s.stagedBale handle).any fun g => s.bays.loads.any fun j => j.tenant = g.tenant && j.bale.digest = g.bale.digest

/-- The flags of an unseating applied to the handle that the bay held. A handle that has come into use meanwhile is not discarded: the
bay stays empty, no flag is applied, and the command is refused, DESIGN CHOICE log 118 (R100). -/
def State.finishUnseat (s : State) (j : SeatJob) (seated : Option Nat) : State :=
  match seated with
  | none => s.replyJob j Status.done 0xFFFF (s.up - j.started)
  | some h =>
    if j.discard && s.handleInUse h none then s.replyJob j Status.notPermitted 0 0
    else (s.applyFlags h j.discard j.deleteLibrary).replyJob j Status.done h (s.up - j.started)

/-- A bay that an unseating has drained is left empty, and the flags are applied; a discard waits for a load of the same bale (R100,
Table 04-11). -/
def execBayEmptied (bay : Nat) (s : State) : Host.Outcome State Fault Refusal :=
  match s.bay bay with
  | none => .next s
  | some b =>
    match b.jobs with
    | [] => .next s
    | j :: rest =>
      if j.handle.isSome || !j.stopped || !s.drained bay b j || s.droverDown ||
          (j.discard && b.seated.any s.loading) then .next s
      else
        let s := (s.dropSums bay).setBay bay { b with
          seated := none, bale := none, stages := [], jobs := rest, own := [], attention := [], projection := [] }
        .next ((s.finishUnseat j b.seated).settleJobs bay rest.length)

/-! ## AUTO_SWAP (R103) -/

/-- In a bay with AUTO_SWAP, MIN_DWELL after its last seating, the bale that waits most urgently is to be seated at the next
boundary, which judges it anew (R103). -/
def execAutoSwap (bay : Nat) (s : State) : Host.Outcome State Fault Refusal :=
  match s.bay bay with
  | none => .next s
  | some b =>
    if !s.mayAutoSwap b || !b.jobs.isEmpty || s.droverDown || !s.writesRings || s.power.leaving.isSome then .next s
    else
      match s.swapTarget bay b with
      | some h => .next (s.addJob bay
          { ref := none, auto := true, handle := some h, preempt := b.swapMode = 1, discard := false, deleteLibrary := false,
            started := 0, previous := none, stopped := false })
      | none => .next s

/-! ## DEFINE_BAY (R86, R87, R95, R96) -/

/-- Two slice masks share a slice. -/
def masksMeet (a b : Nat) : Bool := (List.range 8).any fun i => bitOf a i && bitOf b i

/-- A range of mapped indices meets that of another bay. -/
def rangesMeet (start k : Nat) (b : Bay) : Bool := start < b.start + b.share && b.start < start + k

/-- The lowest start at which a share fits among placed bays, below `top` (R87). -/
def firstFit (placed : List Bay) (mask k top start fuel : Nat) : Option Nat :=
  match fuel with
  | 0 => none
  | n + 1 =>
    if start + k > top then none
    else if placed.any fun b => masksMeet mask b.sliceMask && rangesMeet start k b then
      firstFit placed mask k top (start + 1) n
    else some start

/-- A bay whose range may not move: one with a bale, or with one being seated (R87). -/
def Bay.fixedRange (b : Bay) : Bool := b.seated.isSome || b.jobs.any fun j => j.stopped

/-- Ranges of the bays that may move, allocated in ascending bay number among those that may not (R87). -/
def placeBays (top : Nat) (placed : List Bay) (l : Map Bay) : Option (Map Bay) :=
  match l with
  | [] => some []
  | (n, b) :: r =>
    if Bay.fixedRange b then (placeBays top placed r).map fun m => (n, b) :: m
    else
      match firstFit placed b.sliceMask b.share top 0 129 with
      | none => none
      | some st => (placeBays top ({ b with start := st } :: placed) r).map fun m => (n, { b with start := st }) :: m

/-- The sum of the shares on every slice stays within 128 (R86). -/
def sharesFit (l : Map Bay) : Bool :=
  (List.range 8).all fun i => ((l.filter fun p => bitOf p.2.sliceMask i).map fun p => p.2.share).sum ≤ 128

/-- Ranges that may not move do not meet. -/
def fixedFit (l : Map Bay) (top : Nat) : Bool :=
  let f := l.filter fun p => Bay.fixedRange p.2
  f.all fun p => p.2.start + p.2.share ≤ top &&
    !(f.any fun q => q.1 ≠ p.1 && masksMeet p.2.sliceMask q.2.sliceMask && rangesMeet p.2.start p.2.share q.2)

/-- The bays with their ranges allocated, or none where some share does not fit (R86, R87, R96). -/
def allocateBays (l : Map Bay) (top : Nat) : Option (Map Bay) :=
  if !sharesFit l || !fixedFit l top then none
  else placeBays top ((l.filter fun p => Bay.fixedRange p.2).map (·.2)) l

/-- Indices of a slice whose recorded tenant is not a bay's owner are zeroed and their record cleared; where no core carries the
slice there is no cell to zero, and the record stays (R96). -/
def State.zeroIndices (s : State) (b : Bay) (slice : Nat) : State :=
  match s.sliceCore slice with
  | none => s
  | some core =>
    let hit := (List.range b.share).filter fun i =>
      match Map.get? s.bays.lastWriter (128 * slice + (b.start + i)) with | some t => t ≠ b.owner | none => false
    let gone := hit.map fun i => 128 * slice + (b.start + i)
    let s : State := { s with bays := { s.bays with
      lastWriter := s.bays.lastWriter.filter fun p => !gone.contains p.1 } }
    hit.foldl (fun s i => (List.range 32).foldl (fun s st =>
      s.writeTile core st (s.physical core st (b.start + i)) (List.replicate 4096 0) (List.replicate 256 0) false 7
        b.owner) s) s

/-- Every bay's foreign indices zeroed (R96). -/
def State.zeroForeign (s : State) : State :=
  s.bays.bay.foldl (fun s p => p.2.slices.foldl (fun s i => s.zeroIndices p.2 i) s) s

/-- A bay as a first definition leaves it: empty, with the default policy (R95, Table 06-5). -/
def Bay.fresh (p : BayParams) : Bay :=
  { kind := p.kind, sliceMask := p.sliceMask, start := 0, share := p.perString, tol := orDefault p.tol 30,
    swapMode := p.swapMode, autoSwap := p.autoSwap, owner := p.owner, minDwell := orDefault p.minDwell 50,
    nextSettings := none, seated := none, bale := none, lastSeat := none, stages := [], planned := [], commits := [],
    lastBoundary := none, pPred := 0, intervals := [], accepts := [], policy := PolicyParams.defaults p.bay,
    nextPolicy := none, jobs := [], covered := 0, own := [], attention := [], projection := [],
    pendingBale := false }

/-- The bay that a definition leaves: TOL, SWAP_MODE, FLAGS and MIN_DWELL alone change at the next boundary, with anything
else at once (R96). -/
def redefined (old : Option Bay) (p : BayParams) : Bay :=
  match old with
  | none => Bay.fresh p
  | some b =>
    let set := (orDefault p.tol 30, p.swapMode, p.autoSwap, orDefault p.minDwell 50)
    if b.sliceMask = p.sliceMask && b.share = p.perString && b.kind = p.kind && b.owner = p.owner then
      { b with nextSettings := some set }
    else
      { b with
        sliceMask := p.sliceMask, share := p.perString, kind := p.kind, owner := p.owner, tol := set.1,
        swapMode := set.2.1, autoSwap := set.2.2.1, minDwell := set.2.2.2, nextSettings := none }

/-- A change that a seated bale forbids (R96). -/
def seatedForbids (old : Option Bay) (p : BayParams) : Bool :=
  match old with
  | none => false
  | some b =>
    b.seated.isSome &&
      (p.sliceMask ≠ b.sliceMask || p.perString < max 1 ((b.bale.map (·.perString)).getD 1) || p.kind ≠ b.kind ||
        p.owner ≠ b.owner)

/-- Ranges of Table 04-9. -/
def bayParamsOk (p : BayParams) : Bool :=
  p.bay ≤ 7 && p.kind ≤ 1 && p.sliceMask < 256 && p.tol ≤ 255 && p.perString ≤ 128 && p.swapMode ≤ 1 && p.owner ≤ 63

/-- A bay is deleted, and with it the work that waits on it (R95, R96). -/
def State.deleteBay (s : State) (p : BayParams) (c : CmdRef) : State :=
  match s.bay p.bay with
  | none => s.reply c (if Map.has s.customs.tenants p.owner then Status.badParam else Status.noKeySlot) 0 0
  | some b =>
    if b.seated.isSome then s.reply c Status.notPermitted 0 0
    else if !Map.has s.customs.tenants p.owner then s.reply c Status.noKeySlot 0 0
    else
      let s := b.jobs.foldl (fun s j => s.replyJob j Status.badParam 0 0) s
      ({ s with bays := { s.bays with bay := Map.erase s.bays.bay p.bay } } : State).reply c Status.done 0 0

/-- DEFINE_BAY once started (R95, R96). -/
def defineBayRun (p : BayParams) (c : CmdRef) (s : State) : State :=
  if !bayParamsOk p then s.reply c Status.badParam 0 0
  else if p.perString = 0 then s.deleteBay p c
  else
    let old := s.bay p.bay
    match allocateBays (Map.set s.bays.bay p.bay (redefined old p)) s.leastWorking with
    | none => s.reply c Status.noBaySpace 0 0
    | some l =>
      if seatedForbids old p then s.reply c Status.notPermitted 0 0
      else if !Map.has s.customs.tenants p.owner then s.reply c Status.noKeySlot 0 0
      else if p.sliceMask = 0 then s.reply c Status.badParam 0 0
      else (({ s with bays := { s.bays with bay := l } } : State).zeroForeign).reply c Status.done 0 0

/-- DEFINE_BAY (R95). -/
def execDefineBay (h : Hdr) (p : BayParams) (s : State) : Host.Outcome State Fault Refusal :=
  .next (s.cmd 0x0104 h (defineBayRun p))

end Sys2Proof.Machine
end

