-- ==== Sys2Proof/Machine/Video.lean ====
section
/-! DEFINITION. Camera streams: opening and closing, their surfaces in HBM, and packets to access units (R171 to R177, R192, R207). -/

namespace Sys2Proof.Machine

/-! ## Streams and sessions -/

/-- An open stream. -/
def State.vstream (s : State) (n : Nat) : Option VStream := Map.get? s.video.streams n

/-- A stream set. -/
def State.setVstream (s : State) (n : Nat) (x : VStream) : State :=
  { s with video := { s.video with streams := Map.set s.video.streams n x } }

/-- An encode session set. -/
def State.setSession (s : State) (n : Nat) (x : Session) : State :=
  { s with video := { s.video with sessions := Map.set s.video.sessions n x } }

/-- The video engine runs: not in thermal hold, and not fenced at a toll (R385, Table 09-4). -/
def State.videoRuns (s : State) : Bool := s.power.railsOn && s.power.state ≠ 4 && !bitOf s.mem.fence 9

/-- A video control processor restarts: completed access units wait (Table 07-14). -/
def State.videoControlDown (s : State) : Bool := s.fw.restarting.any fun p => p.1 = 5

/-- A statistics counter of a stream record (Table 07-13). -/
def State.countStream (s : State) (n off k : Nat) : State := if k = 0 then s else s.count 0x0005 0 0 n 0 off k

/-- Ranges of Tables 07-1 and 07-2. -/
def streamParamsOk (p : StreamParams) : Bool :=
  p.stream ≤ 1023 && p.codec ≤ 1 && p.timeSource ≤ 2 && p.ports ≤ 15 &&
    (if p.timeSource = 0 then within p.extId 1 14 else p.extId = 0) && p.vlan ≤ 4095 && within p.udpPort 1 65535 &&
    within p.maxWidth 16 8192 && within p.maxHeight 16 4352 && within p.frameRate 1 1000 &&
    (p.maxAuBytes = 0 || within p.maxAuBytes 65536 67108864) && p.matrix ≤ 3 && p.range ≤ 2 &&
    (p.channels = 1 || (p.channels = 3 && p.bgr ≤ 1)) && p.mean.length = 3 && p.invStd.length = 3 &&
    p.invStd.all fun x => F32.isFinite x && !F32.isZero x

/-- Two match keys overlap: some packet would match both (R172). -/
def keysOverlap (a b : StreamParams) : Bool :=
  ((List.range 4).any fun i => bitOf a.ports i && bitOf b.ports i) && (!a.vlanMatch || !b.vlanMatch || a.vlan = b.vlan) &&
    a.udpPort = b.udpPort && a.ssrc = b.ssrc

/-- Declared decode load of a stream in pixels per second (R172). -/
def decodeLoad (p : StreamParams) : Nat := p.maxWidth * p.maxHeight * p.frameRate

/-- A stream as OPEN_STREAM leaves it. -/
def VStream.fresh (tenant : Nat) (p : StreamParams) (frames : List Nat) (now : Nat) : VStream :=
  { tenant := tenant, params := p, state := 0, width := 0, height := 0, frames := frames, units := [], handed := [],
    lastSeq := none, lastUnitAt := now, report := none, replay := [], rtcpReplay := [], awaiting := false, flagged := [],
    dpb := [], pictures := 0, tensor := [], boxes := [], waits := [], closing := none }

/-- Output size of an encode session: halved once per step (Table 07-6). -/
def encodeSize (x : StreamParams) (scale : Nat) : Nat × Nat := (x.maxWidth / 2 ^ scale, x.maxHeight / 2 ^ scale)

/-- Encode load of the open sessions in pixels per second (R188). -/
def State.encodeLoad (s : State) : Rat :=
  (s.video.sessions.map fun e => match s.vstream e.2.params.stream with
    | some x =>
      let (w, h) := encodeSize x.params e.2.params.scale
      ((w * h * x.params.frameRate : Nat) : Rat) / ((orDefault e.2.params.frameDiv 1 : Nat) : Rat)
    | none => 0).sum

/-- OPEN_STREAM once started (R171, R172). -/
def openStreamRun (h : Hdr) (p : StreamParams) (c : CmdRef) (s : State) : State :=
  if !streamParamsOk p || payloadBytes h < 64 || s.video.streams.any fun q => keysOverlap q.2.params p then
    s.reply c Status.badParam 0 0
  else if Map.has s.video.streams p.stream then s.reply c Status.notPermitted 0 0
  else if (s.video.streams.map fun q => decodeLoad q.2.params).sum + decodeLoad p > 31920000000 then
    s.reply c Status.notPermitted 0 0
  else if s.encodeLoad > 4000000000 then s.reply c Status.notPermitted 0 0
  else
    match s.allocFrames h.fn 0 1 0 (ceilDiv (streamBytes p) 65536) with
    | none => s.reply c Status.noPages 0 0
    | some (frames, s) =>
      (s.setVstream p.stream (VStream.fresh h.fn p frames s.up)).reply c Status.done (streamBytes p) 0

/-- OPEN_STREAM (R171, R172). -/
def execOpenStream (h : Hdr) (p : StreamParams) (s : State) : Host.Outcome State Fault Refusal :=
  .next (s.cmd 0x0301 h (openStreamRun h p))

/-- An access unit of a stream is in a pipe. -/
def State.inPipe (s : State) (n : Nat) : Bool :=
  s.video.pipes.any fun q => (q.2.unit.map fun (u : AccessUnit) => u.stream) = some n

/-! ## Surfaces (R172, R179, R184, R192) -/

/-- Bytes at an offset of the frames that a stream holds, written. -/
def State.spanWrite (s : State) (tenant : Nat) (frames : List Nat) (offset : Nat) (bytes : List Byte) : State :=
  match frames with
  | [] => s
  | p :: r =>
    if bytes.isEmpty then s
    else if offset ≥ 65536 then s.spanWrite tenant r (offset - 65536) bytes
    else
      (s.memWrite (p / 2 ^ 30) 0 (65536 * (p % 2 ^ 30) + offset) (bytes.take (65536 - offset)) tenant).spanWrite tenant r 0
        (bytes.drop (65536 - offset))

/-- Bytes at an offset of the frames that a stream holds, read: flipped codewords are met (R259). -/
def State.spanRead (s : State) (frames : List Nat) (offset len : Nat) : List Byte × State :=
  match frames with
  | [] => ([], s)
  | p :: r =>
    if len = 0 then ([], s)
    else if offset ≥ 65536 then s.spanRead r (offset - 65536) len
    else
      let n := min len (65536 - offset)
      let a := 65536 * (p % 2 ^ 30) + offset
      let s := s.readRange (p / 2 ^ 30) 0 a n false
      let (rest, t) := s.spanRead r 0 (len - n)
      ((s.memory (p / 2 ^ 30) 0).readBytes a n ++ rest, t)

/-- Bytes of a stream's picture surface (R172). -/
def surfaceBytes (p : StreamParams) : Nat := pictureBytes p.maxWidth p.maxHeight

/-- Base of tensor surface `k` in a stream's frames, behind its 17 picture surfaces (R172). -/
def tensorBase (p : StreamParams) (k : Nat) : Nat :=
  17 * surfaceBytes p + k * tensorSize p.c32 p.bfloat p.maxWidth p.maxHeight (groupChannels p.c32)

/-- Writes of a pipe to a picture surface, each checked whole against the surface's base and limit; those that leave it are suppressed
and counted (R184). -/
def State.surfaceWrites (s : State) (x : VStream) (slot : Nat) (l : List (Int × List Byte)) : State × Nat :=
  l.foldl (fun a w =>
    if decide (w.1 < 0) || decide ((surfaceBytes x.params : Int) < w.1 + (w.2.length : Int)) then (a.1, a.2 + 1)
    else (a.1.spanWrite x.tenant x.frames (slot * surfaceBytes x.params + w.1.toNat) w.2, a.2)) (s, 0)

/-- The lowest picture surface that holds no picture of the buffer (R179). -/
def VStream.freeSlot (x : VStream) : Nat :=
  ((List.range 17).find? fun k => !(x.dpb.any fun p => p.slot = k)).getD 16

/-- A plane read back from a surface: `n` samples in each of `rows` rows at a pitch. -/
def State.planeRead (s : State) (x : VStream) (base pitch n rows bitDepth : Nat) : List (List Nat) × State :=
  (List.range rows).foldl (fun a y =>
    let (b, t) := a.2.spanRead x.frames (base + y * pitch) (n * sampleSize bitDepth)
    (a.1 ++ [(chunks (sampleSize bitDepth) n b).map leNat], t)) ([], s)

/-- A stored picture's planes, read from its surface (R192). -/
def State.storedPlanes (s : State) (x : VStream) (p : StoredPicture) : Planes × State :=
  let base := p.slot * surfaceBytes x.params
  let cw := ceilDiv p.width 2
  let (luma, s) := s.planeRead x base (rowPitch p.bitDepth p.width) p.width p.height p.bitDepth
  let (c, s) := if p.colour then
      s.planeRead x (base + p.height * rowPitch p.bitDepth p.width) (rowPitch p.bitDepth (2 * cw)) (2 * cw)
        (ceilDiv p.height 2) p.bitDepth
    else ([], s)
  let pick := fun k : Nat => c.flatMap fun row => (List.range cw).map fun i => row.getD (2 * i + k) 0
  ({ width := p.width, height := p.height, bitDepth := p.bitDepth, vuiMatrix := p.vuiMatrix, vuiRange := p.vuiRange,
     luma := luma.flatten, cb := pick 0, cr := pick 1 }, s)

/-- A stream is gone: its surfaces are freed (R207). -/
def State.freeStream (s : State) (n : Nat) : State :=
  match s.vstream n with
  | none => s
  | some x =>
    let v := s.video
    let s : State := { s with
      video := { v with
        streams := Map.erase v.streams n,
        ready := v.ready.filter fun u => u.stream ≠ n,
        pictures := v.pictures.filter fun q => q.stream ≠ n,
        crops := v.crops.filter fun q => q.picture.stream ≠ n } }
    s.dropRefs x.frames

/-- A closing stream whose pipe is empty ends with DONE (R207). -/
def State.settleStream (s : State) (n : Nat) : State :=
  match s.vstream n with
  | none => s
  | some x =>
    match x.closing with
    | none => s
    | some c => if s.inPipe n then s else (s.freeStream n).reply c Status.done 0 0

/-- CLOSE_STREAM once started (R207): packets and units not in a pipe are dropped (log 61). -/
def closeStreamRun (h : Hdr) (n : Nat) (c : CmdRef) (s : State) : State :=
  match s.vstream n with
  | none => s.reply c Status.badParam 0 0
  | some x =>
    if x.tenant ≠ h.fn then s.reply c Status.notPermitted 0 0
    else if x.closing.isSome then s.reply c Status.badParam 0 0
    else if (s.reqs.routes.any fun r => r.2.params.stream = n) || s.video.sessions.any fun e => e.2.params.stream = n then
      s.reply c Status.notPermitted 0 0
    else
      let s := s.setVstream n { x with closing := some c, units := [] }
      ({ s with video := { s.video with ready := s.video.ready.filter fun u => u.stream ≠ n } } : State).settleStream n

/-- CLOSE_STREAM (R207). -/
def execCloseStream (h : Hdr) (stream : Nat) (s : State) : Host.Outcome State Fault Refusal :=
  .next (s.cmd 0x0302 h (closeStreamRun h stream))

/-! ## Packets (R173 to R176) -/

/-- a is newer than b as 16-bit sequence numbers. -/
def seqNewer (a b : Nat) : Bool := within ((a + 65536 - b) % 65536) 1 32767

/-- The stream that a packet's match key selects (R173). -/
def State.matchStream (s : State) (port udp ssrc : Nat) (vlan : Option Nat) : Option (Nat × VStream) :=
  s.video.streams.find? fun q =>
    let p := q.2.params
    q.2.closing.isNone && bitOf p.ports port && (!p.vlanMatch || vlan = some p.vlan) && p.udpPort = udp && p.ssrc = ssrc

/-- The SRTP index of a sequence number: the one nearest the highest index seen (R174). -/
def srtpIndex (replay : List Nat) (seq : Nat) : Int :=
  match replay with
  | [] => seq
  | _ =>
    let top := replay.foldl max 0
    let roc : Int := (top / 65536 : Nat)
    let low := top % 65536
    let r := if low < 32768 then (if seq > low + 32768 then roc - 1 else roc)
      else (if low > seq + 32768 then roc + 1 else roc)
    65536 * r + seq

/-- An index is new and within the replay window of 128 packets (R174). -/
def replayFresh (replay : List Nat) (i : Int) : Bool :=
  decide (0 ≤ i) && !replay.contains i.toNat && decide (((replay.foldl max 0 : Nat) : Int) < i + 128)

/-- An index seen: the window holds the indices within 128 of the highest (R174). -/
def replaySeen (replay : List Nat) (i : Nat) : List Nat :=
  let top := max (replay.foldl max 0) i
  (i :: replay).filter fun j => decide (top < j + 128)

/-- An SRTP packet of a stream is authentic and no replay (R174, R317, R318). -/
def State.srtpOk (s : State) (n : Nat) (x : VStream) (i : Int) (body : List Byte) (tag : Nat) : Bool :=
  replayFresh x.replay i && s.tagHolds x.tenant labelSR n i.toNat body tag

/-- The payload of a packet in the clear (R174). -/
def State.srtpPlain (s : State) (n : Nat) (x : VStream) (i : Int) (p : RtpPacket) : List Byte :=
  match x.params.srtp, s.keyHolding x.tenant labelSR n i.toNat p.body p.tag with
  | true, some k => Config.srtpDecrypt k i.toNat p.body
  | _, _ => p.body

/-- A payload format of Table 07-3. -/
def formatOk (codec nal : Nat) (donFields : Bool) : Bool :=
  if codec = 0 then within nal 1 24 || nal = 28 else nal ≤ 49 && !donFields

/-- The highest sequence number of an access unit. -/
def AccessUnit.high (u : AccessUnit) : Nat := u.seqs.foldl (fun a b => if seqNewer b a then b else a) u.firstSeq

/-- The newer of two sequence numbers, where there are two. -/
def newerSeq (a b : Option Nat) : Option Nat :=
  match a, b with
  | some x, some y => some (if seqNewer y x then y else x)
  | some x, none => some x
  | none, y => y

/-- The sequence number that an access unit follows: the highest of the preceding one, or for a stream's first the one
before its own first (R176). -/
def baseSeq (units : List AccessUnit) (i : Nat) (u : AccessUnit) : Nat :=
  let before := if i = 0 then none else (units[i - 1]?).map AccessUnit.high
  (newerSeq u.prevSeq before).getD ((u.firstSeq + 65535) % 65536)

/-- Sequence numbers missing after `base` up to `top`. -/
def gaps (seqs : List Nat) (base top : Nat) : Nat :=
  let n := (top + 65536 - base) % 65536
  if n > 32767 then 0 else ((List.range n).filter fun k => !seqs.contains ((base + 1 + k) % 65536)).length

/-- The marker packet is present and nothing is missing before it (R176). -/
def unitComplete (u : AccessUnit) (base : Nat) : Bool :=
  match u.markerSeq with
  | some m => (m + 65536 - base) % 65536 ≤ 32767 && gaps u.seqs base m = 0
  | none => false

/-- The capture time of an access unit, and whether it fell back on its arrival (R175; log 63). -/
def captureTime (x : VStream) (u : AccessUnit) : Nat × Bool :=
  let arrival := twos 64 ((u.arrival : Int) - x.params.cameraOffset)
  match x.params.timeSource with
  | 0 => match u.ext with
    | some t => (t, false)
    | none => (arrival, true)
  | 1 => match x.report with
    | some (t, rtp) =>
      let d := signed 32 ((u.timestamp + 2 ^ 32 - rtp) % 2 ^ 32)
      (twos 64 (t + rheDiv (d * 1000000000) 90000), false)
    | none => (arrival, true)
  | _ => (arrival, false)

/-- The timestamps of access units handed on, the newest first: those that the 32-bit timestamp tells from the units to come
(R176; log 128). -/
def handedOn (t : Nat) (l : List Nat) : List Nat :=
  t :: l.filter fun x => (t + 2 ^ 32 - x) % 2 ^ 32 < 2 ^ 31 || (x + 2 ^ 32 - t) % 2 ^ 32 < 2 ^ 30

/-- Access unit `i` of a stream in reassembly is handed on, with its gaps marked (R176, R185). -/
def State.handOn (s : State) (n i : Nat) : State :=
  match s.vstream n with
  | none => s
  | some x =>
    match x.units[i]? with
    | none => s
    | some u =>
      let top := u.high
      let missing := gaps u.seqs (baseSeq x.units i u) top
      let (capture, fallback) := captureTime x u
      let done := { u with missing := missing, capture := capture, fallback := fallback, completedAt := s.up }
      let rest := (x.units.zipIdx.filter fun p => p.2 ≠ i).map fun p =>
        if p.2 = i + 1 then { p.1 with prevSeq := newerSeq p.1.prevSeq (some top) } else p.1
      let last := match x.lastSeq with
        | some q => if seqNewer top q then top else q
        | none => top
      let s := s.setVstream n { x with
        units := rest, handed := handedOn u.timestamp x.handed, lastSeq := some last, lastUnitAt := s.up }
      let s : State := { s with video := { s.video with ready := s.video.ready ++ [done] } }
      (s.countStream n 24 missing).countStream n 96 (bit fallback)

/-- Access units of a stream that are complete are handed on, at most two (R176). -/
def State.handComplete (s : State) (n fuel : Nat) : State :=
  match fuel, s.vstream n with
  | k + 1, some x =>
    (match x.units.zipIdx.find? fun p => unitComplete p.1 (baseSeq x.units p.2 p.1) with
     | some p => (s.handOn n p.2).handComplete n k
     | none => s)
  | _, _ => s

/-- A packet added to its access unit; bytes beyond MAX_AU_BYTES are dropped (R176). -/
def addPacket (u : AccessUnit) (p : RtpPacket) (limit : Nat) : AccessUnit :=
  let first := seqNewer u.firstSeq p.seq
  { u with
    firstSeq := if first then p.seq else u.firstSeq, ext := if first then p.ext else u.ext, seqs := u.seqs ++ [p.seq],
    parts := u.parts ++ [(p.seq, p.body.take (limit - u.bytes))],
    markerSeq := if p.marker then some p.seq else u.markerSeq, bytes := min limit (u.bytes + p.length),
    truncated := u.truncated || decide (u.bytes + p.length > limit) }

/-- An access unit begun by a packet. -/
def newUnit (n : Nat) (x : VStream) (p : RtpPacket) (ext : Option Nat) (up now : Nat) : AccessUnit :=
  let limit := orDefault x.params.maxAuBytes 4194304
  { stream := n, timestamp := p.timestamp, firstAt := up, arrival := now, laterAt := none, firstSeq := p.seq,
    prevSeq := x.lastSeq, ext := ext, seqs := [p.seq], parts := [(p.seq, p.body.take limit)],
    markerSeq := if p.marker then some p.seq else none, bytes := min limit p.length, truncated := decide (p.length > limit),
    capture := 0, fallback := false, missing := 0, completedAt := 0 }

/-- A packet of a stream that has passed every check reassembled (R176). -/
def State.reassemble (s : State) (n : Nat) (x : VStream) (p : RtpPacket) : State :=
  let ext := if p.extId = x.params.extId then p.ext else none
  let p := { p with ext := ext }
  if x.handed.contains p.timestamp then s.countStream n 32 1
  else
    match x.units.findIdx? fun u => u.timestamp = p.timestamp with
    | some i =>
      match x.units[i]? with
      | none => s
      | some u =>
        if u.seqs.contains p.seq then s
        else (s.setVstream n { x with
          units := x.units.set i (addPacket u p (orDefault x.params.maxAuBytes 4194304)) }).handComplete n 2
    | none =>
      let s := if x.units.length ≥ 2 then s.handOn n 0 else s
      match s.vstream n with
      | none => s
      | some x =>
        let before := x.units.map fun u =>
          if u.laterAt.isNone && seqNewer p.seq u.firstSeq then { u with laterAt := some s.up } else u
        (s.setVstream n { x with units := before ++ [newUnit n x p ext s.up s.now] }).handComplete n 2

/-- An RTP packet (R173 to R176). -/
def execRtpPacket (p : RtpPacket) (s : State) : Host.Outcome State Fault Refusal :=
  match s.matchStream p.port p.udpPort p.ssrc p.vlan with
  | none => .next s
  | some (n, x) =>
    if !s.videoRuns then .next s
    else
      let i := srtpIndex x.replay p.seq
      if x.params.srtp && !s.srtpOk n x i p.body p.tag then .next (s.countStream n 40 1)
      else
        let x := if x.params.srtp then
            { x with replay := replaySeen x.replay i.toNat }
          else x
        let s := s.setVstream n x
        if !formatOk x.params.codec p.nal p.donFields then .next (s.countStream n 56 1)
        else .next (s.reassemble n x { p with body := s.srtpPlain n x i p })

/-- The module time of a sender report, in the era that places it nearest to module time (R175). -/
def reportTime (seconds fraction now : Nat) : Int :=
  let at_ := fun era : Int => ((seconds : Int) + 4294967296 * era - 2208988800) * 1000000000 +
    rheDiv ((fraction : Int) * 1000000000) (2 ^ 32)
  let d := fun t : Int => (t - now).natAbs
  if d (at_ 1) < d (at_ 0) then at_ 1 else at_ 0

/-- An RTCP sender report (R174, R175). -/
def execSenderReport (r : SenderRep) (s : State) : Host.Outcome State Fault Refusal :=
  match s.matchStream r.port r.udpPort r.ssrc r.vlan with
  | none => .next s
  | some (n, x) =>
    if !s.videoRuns then .next s
    else if x.params.srtp && !(replayFresh x.rtcpReplay r.index &&
        s.tagHolds x.tenant labelSR n (2 ^ 48 + r.index) r.body r.tag) then .next (s.countStream n 40 1)
    else
      let seen := if x.params.srtp then replaySeen x.rtcpReplay r.index else x.rtcpReplay
      .next (s.setVstream n { x with
        report := some (reportTime r.seconds r.fraction s.now, r.rtpTime), rtcpReplay := seen })

/-- 200 µs after the first packet of a later access unit the earlier one is handed on (R176). -/
def execAuLaterTimeout (stream : Nat) (s : State) : Host.Outcome State Fault Refusal :=
  match s.vstream stream with
  | none => .next s
  | some x =>
    match x.units[0]? with
    | none => .next s
    | some u => .next (if s.videoRuns && u.laterAt.any (fun t => s.elapsed t 200000) then s.handOn stream 0 else s)

/-- Two declared frame periods after its first packet an access unit is handed on (R176). -/
def execAuFramePeriodTimeout (stream : Nat) (s : State) : Host.Outcome State Fault Refusal :=
  match s.vstream stream with
  | none => .next s
  | some x =>
    match x.units[0]? with
    | none => .next s
    | some u =>
      .next (if s.videoRuns && decide (2000000000 ≤ (s.up - u.firstAt) * x.params.frameRate) then s.handOn stream 0 else s)

end Sys2Proof.Machine
end

