-- ==== Sys2Proof/Machine/Encode.lean ====
section
/-! DEFINITION. Encode sessions (R188 to R191, R207, R209). -/

namespace Sys2Proof.Machine

/-! ## OPEN_ENCODE (R188, R189, R191) -/

/-- A level of H.265 Annex A: its number in tenths, MaxLumaPs, MaxLumaSr, and the larger of the tiers' MaxBR and MaxCPB in kbit/s
and kbit (log 62). -/
structure HevcLevel where
  level : Nat
  maxPs : Nat
  maxSr : Nat
  maxBr : Nat
  maxCpb : Nat

/-- The levels of H.265 in ascending order (log 62). -/
def hevcLevels : List HevcLevel :=
  [⟨10, 36864, 552960, 128, 350⟩, ⟨20, 122880, 3686400, 1500, 1500⟩, ⟨21, 245760, 7372800, 3000, 3000⟩,
   ⟨30, 552960, 16588800, 6000, 6000⟩, ⟨31, 983040, 33177600, 10000, 10000⟩, ⟨40, 2228224, 66846720, 30000, 30000⟩,
   ⟨41, 2228224, 133693440, 50000, 50000⟩, ⟨50, 8912896, 267386880, 100000, 100000⟩,
   ⟨51, 8912896, 534773760, 160000, 160000⟩, ⟨52, 8912896, 1069547520, 240000, 240000⟩,
   ⟨60, 35651584, 1069547520, 240000, 240000⟩, ⟨61, 35651584, 2139095040, 480000, 480000⟩,
   ⟨62, 35651584, 4278190080, 800000, 800000⟩]

/-- A picture size is within a level's MaxLumaPs. -/
def HevcLevel.holds (l : HevcLevel) (w h : Nat) : Bool := w * h ≤ l.maxPs && w * w ≤ 8 * l.maxPs && h * h ≤ 8 * l.maxPs

/-- The lowest level that admits an output size, its rate, BIT_RATE and CPB_SIZE (R189, Table 07-6). -/
def lowestLevel (w h rate div bitRate cpb : Nat) : Option HevcLevel :=
  hevcLevels.find? fun l => l.holds w h && w * h * rate ≤ l.maxSr * div && bitRate ≤ l.maxBr && cpb ≤ l.maxCpb

/-- Blocks of 32 × 32 of an output (R189). -/
def encodeBlocks (w h : Nat) : Nat := ceilDiv w 32 * ceilDiv h 32

/-- Ranges of Tables 07-6 and 07-7, the bounds of R191, and a host ring that holds twice the largest record (R151), on an open
stream. -/
def encodeParamsOk (p : EncodeParams) (x : StreamParams) : Bool :=
  let (w, h) := encodeSize x p.scale
  let div := orDefault p.frameDiv 1
  let least := 8 * encodeBlocks w h + 4096
  p.session ≤ 15 && p.scale ≤ 2 && p.frameDiv ≤ 255 && within p.idrPeriod 1 65535 && p.qpMin ≤ 51 &&
    within p.qpMax p.qpMin 51 && 1 ≤ p.initialDelay && p.initialDelay * p.bitRate ≤ p.cpbSize * 1000 && p.destKind ≤ 1 &&
    p.vlan ≤ 4095 && (p.destKind = 1 || (p.port ≤ 3 && within p.payloadType 96 127 && (p.ipVersion = 4 || p.ipVersion = 6))) &&
    (p.destKind = 0 || (ringEntriesOk p.ringEntries &&
      2 * roundUp (16 + ceilDiv (p.cpbSize * 1000) 8) 4096 ≤ p.ringEntries * 4096)) &&
    (lowestLevel w h x.frameRate div p.bitRate p.cpbSize).isSome &&
    least * x.frameRate ≤ p.bitRate * 1000 * div && 2 * least ≤ p.cpbSize * 1000

/-- A session as OPEN_ENCODE leaves it: on a partner it has no ring (R345). -/
def Session.fresh (tenant : Nat) (p : EncodeParams) (copied : Bool) : Session :=
  { tenant := tenant, params := { p with ringEntries := if copied then 0 else p.ringEntries }, fullness := 0, pictures := 0,
    divCount := 0, forceIdr := false, producer := 0, sinceIdr := 0, due := [], closing := none }

/-- OPEN_ENCODE once started (R188, R191, R209). -/
def openEncodeRun (h : Hdr) (p : EncodeParams) (c : CmdRef) (s : State) : State :=
  match s.vstream p.stream with
  | none => s.reply c Status.badParam 0 0
  | some x =>
    if x.tenant ≠ h.fn then s.reply c Status.notPermitted 0 0
    else if x.closing.isSome then s.reply c Status.badParam 0 0
    else if !encodeParamsOk p x.params || payloadBytes h < 64 then s.reply c Status.badParam 0 0
    else if Map.has s.video.sessions p.session then s.reply c Status.notPermitted 0 0
    else
      let t := (s.clearRecord 0x000A p.session 0 0 0).setSession p.session (Session.fresh h.fn p c.copied)
      if t.encodeLoad > 4000000000 then s.reply c Status.notPermitted 0 0 else t.reply c Status.done 0 0

/-- OPEN_ENCODE (R188). -/
def execOpenEncode (h : Hdr) (p : EncodeParams) (s : State) : Host.Outcome State Fault Refusal :=
  .next (s.cmd 0x0303 h (openEncodeRun h p))

/-- A session is gone. -/
def State.freeSession (s : State) (n : Nat) : State :=
  { s with video := { s.video with sessions := Map.erase s.video.sessions n } }

/-- CLOSE_STREAM of an encode session once started: the access unit in flight is sent first (R207). -/
def closeEncodeRun (h : Hdr) (n : Nat) (c : CmdRef) (s : State) : State :=
  match Map.get? s.video.sessions n with
  | none => s.reply c Status.badParam 0 0
  | some x =>
    if x.tenant ≠ h.fn then s.reply c Status.notPermitted 0 0
    else if x.closing.isSome then s.reply c Status.badParam 0 0
    else if x.due.isEmpty then (s.freeSession n).reply c Status.done 0 0
    else s.setSession n { x with closing := some c, due := x.due.take 1 }

/-- CLOSE_STREAM with bit 15 of STREAM set (R207). -/
def execCloseEncode (h : Hdr) (session : Nat) (s : State) : Host.Outcome State Fault Refusal :=
  .next (s.cmd 0x0302 h (closeEncodeRun h session))

/-! ## Encoding (R189, R190) -/

/-- Bits that finish `n` blocks at minimum cost (R190). -/
def reserveBits (n : Nat) : Nat := 8 * n + 1024

/-- A block's cost: at least its minimum cost, which is at most the 8 bits that R190 reserves for it. -/
def leastBits (b : BlockBits) : Nat := min b.least 8

/-- The blocks of a picture coded under its cap: bits in all, and whether the rest was coded at minimum cost. R190 guarantees that the
sized picture fits its cap: a block whose cost would leave the others less than what is reserved for them is coded at minimum cost,
DEDUCED log 125. -/
def codeBlocks (cap : Rat) (qpMax : Nat) (blocks : List BlockBits) (bits qp : Nat) : Nat × Bool :=
  match blocks with
  | [] => (bits, false)
  | b :: rest =>
    let left := reserveBits (rest.length + 1)
    let tight := fun n : Nat => decide (cap < ((n + left : Nat) : Rat))
    let qp := if tight bits then min (qp + 2) qpMax else qp
    if qp = qpMax && tight bits then (bits + ((b :: rest).map leastBits).sum, true)
    else
      let cost := b.atQp.getD qp (leastBits b)
      let cost := if cap < ((bits + cost + reserveBits rest.length : Nat) : Rat) then min cost (leastBits b) else cost
      codeBlocks cap qpMax rest (bits + cost) qp

/-- The blocks of a picture of `n` blocks: those named, and for what is missing blocks of minimum cost (R189, R191). -/
def pictureBlocks (n : Nat) (l : List BlockBits) : List BlockBits :=
  l.take n ++ List.replicate (n - l.length) { least := 8, atQp := [] }

/-- Bits of a picture's headers, at most what R191 leaves beside its blocks' and the reserve. -/
def headerCost (n : Nat) : Nat := min n 3072

/-- What the rate model makes of a picture: its bits with the filler, the filler's bytes, the buffer's fullness after removal, and
whether the remaining blocks were coded at minimum cost (R190). -/
structure Sized where
  bits : Nat
  filler : Nat
  after : Rat
  least : Bool

/-- A picture sized by the rate model (R190; log 64 for a session's first picture). -/
def sizePicture (p : EncodeParams) (rate : Nat) (fullness : Rat) (pictures startQp headerBits : Nat) (present : Bool)
    (blocks : List BlockBits) : Sized :=
  let arrives : Rat := ((p.bitRate * 1000 * orDefault p.frameDiv 1 : Nat) : Rat) / ((rate : Nat) : Rat)
  let cpb : Rat := ((p.cpbSize * 1000 : Nat) : Rat)
  let before := min (if pictures = 0 then ((p.bitRate * p.initialDelay : Nat) : Rat) else fullness + arrives) cpb
  let (bits, least) := if present then codeBlocks before p.qpMax blocks headerBits (clampNat startQp p.qpMin p.qpMax)
    else (headerBits + (blocks.map leastBits).sum, false)
  let floor_ := before + arrives - cpb
  let filler := if p.cbr && ((bits : Nat) : Rat) < floor_ then ((floor_ - ((bits : Nat) : Rat)) / 8).ceil.toNat else 0
  let bits := bits + 8 * filler
  { bits := bits, filler := filler, after := before - ((bits : Nat) : Rat), least := least }

/-- NAL units of an access unit in order: VPS, SPS and PPS with an IDR picture, buffering period and picture timing SEI, one slice, and
filler data (R189, R190). -/
def unitNals (idr filler : Bool) : List Nat :=
  (if idr then [32, 33, 34] else []) ++ [39, 39] ++ [if idr then 19 else 1] ++ (if filler then [38] else [])

/-- One access unit of a session written to its destination, or dropped on a full host ring (R188, R189). -/
def State.sendUnit (s : State) (n : Nat) (x : Session) (u : EncodedUnit) : State :=
  let bits := u.bits
  let p := x.params
  if p.destKind = 0 then
    if p.srtp && (s.job x.tenant).isNone then s
    else
      let s := if s.mls.portsUp.contains p.port then s.emit (.rtp u) else s
      s.count 0x000A n 0 0 0 8 1
  else if p.ringEntries = 0 || !s.writesRings then s
  else
    let bytes := ceilDiv bits 8
    let (consumer, s) := s.hostConsumer p.ringEntries
    match (if s.canWriteTenant x.tenant then ringPlace x.producer consumer p.ringEntries (ceilDiv (16 + bytes) 4096) else none) with
    | none => (s.setSession n { x with forceIdr := true }).count 0x000A n 0 0 0 16 1
    | some place =>
      ((s.setSession n { x with producer := place.2.2 }).writeRecord x.tenant p.ringBase x.producer place
        (.encode bytes u.capture u.flags)).count 0x000A n 0 0 0 8 1

/-- A session that was to close ends once its access unit has been sent (R207). -/
def State.settleSession (s : State) (n : Nat) : State :=
  match Map.get? s.video.sessions n with
  | none => s
  | some x =>
    match x.closing with
    | some c => if x.due.isEmpty then (s.freeSession n).reply c Status.done 0 0 else s
    | none => s

/-- A plane averaged over 2 × 2 samples; halves are rounded to even, DESIGN CHOICE log 127 (Table 07-6). -/
def halvePlane (plane : List Nat) (w h : Nat) : List Nat :=
  (List.range (h / 2)).flatMap fun y => (List.range (w / 2)).map fun x =>
    let at_ := fun i j : Nat => planeAt plane w h (2 * x + i : Nat) (2 * y + j : Nat)
    (rheDiv (at_ 0 0 + at_ 1 0 + at_ 0 1 + at_ 1 1) 4).toNat

/-- A picture at half its size (Table 07-6). -/
def Planes.halve (pl : Planes) : Planes :=
  let cw := ceilDiv pl.width 2
  let ch := ceilDiv pl.height 2
  let chroma := fun p : List Nat => if p.isEmpty then [] else halvePlane p cw ch
  { pl with
    width := pl.width / 2, height := pl.height / 2, luma := halvePlane pl.luma pl.width pl.height, cb := chroma pl.cb,
    cr := chroma pl.cr }

/-- A picture at the size of a SCALE: one halving per step (Table 07-6). -/
def Planes.scaled (pl : Planes) (scale : Nat) : Planes :=
  match scale with
  | 0 => pl
  | k + 1 => (Planes.halve pl).scaled k

/-- A slot of a stream's encode sessions: every FRAME_DIV-th picture, or the lack of one, is to be coded, scaled and with the stream's
boxes where the session overlays them (R188, R189). How a box is drawn is not described. -/
def State.encodeSlot (s : State) (n capture flags : Nat) (picture : Option Planes) : State :=
  let boxes := ((s.vstream n).map (·.boxes)).getD []
  let due := fun x : Session =>
    ({ capture := capture, flags := flags, picture := picture.map fun pl => pl.scaled x.params.scale,
       boxes := if x.params.overlay then boxes else [] } : EncodeDue)
  { s with video := { s.video with sessions := s.video.sessions.map fun e =>
    if e.2.params.stream = n && e.2.closing.isNone then
      (e.1, { e.2 with
        divCount := (e.2.divCount + 1) % orDefault e.2.params.frameDiv 1,
        due := if e.2.divCount = 0 then e.2.due ++ [due e.2] else e.2.due })
    else e } }

/-- An encode pipe sizes and codes one picture and writes it out (R189, R190). -/
def execEncodePicture (session startQp headerBits : Nat) (blocks : List BlockBits) (s : State) :
    Host.Outcome State Fault Refusal :=
  match Map.get? s.video.sessions session with
  | none => .next s
  | some x =>
    match x.due, s.vstream x.params.stream with
    | e :: rest, some v =>
      if !s.videoRuns then .next s
      else
        let (w, h) := encodeSize v.params x.params.scale
        let blocks := pictureBlocks (encodeBlocks w h) blocks
        let z := sizePicture x.params v.params.frameRate x.fullness x.pictures startQp (headerCost headerBits)
          e.picture.isSome blocks
        let idr := e.picture.isSome && (x.forceIdr || x.sinceIdr = 0 || x.sinceIdr ≥ x.params.idrPeriod)
        let u : EncodedUnit :=
          { session := session, idr := idr,
            level := ((lowestLevel w h v.params.frameRate (orDefault x.params.frameDiv 1) x.params.bitRate x.params.cpbSize).map
              (·.level)).getD 0,
            nals := unitNals idr (z.filler > 0), bits := z.bits, capture := e.capture, flags := e.flags,
            srtpKey := if x.params.srtp then (s.job x.tenant).map fun j => jobKey j.1 j.2 labelSE session x.tenant else none,
            picture := e.picture, boxes := e.boxes }
        let x := { x with
          due := rest, pictures := x.pictures + 1, fullness := z.after, forceIdr := x.forceIdr && !idr,
          sinceIdr := if idr then 1 else x.sinceIdr + 1 }
        let s := (s.setSession session x).sendUnit session x u
        let s := if z.least then s.count 0x000A session 0 0 0 24 1 else s
        .next (s.settleSession session)
    | _, _ => .next s

end Sys2Proof.Machine
end

