-- ==== Sys2Proof/Machine/Pictures.lean ====
section
/-! DEFINITION. Decode pipes, the decoded picture buffer, damaged streams, detector runs and crop batches (R178 to R187, R199 to R206,
R210). -/

namespace Sys2Proof.Machine

/-! ## Decoding (R178 to R187) -/

/-- A pipe. -/
def State.pipe (s : State) (n : Nat) : Pipe := (Map.get? s.video.pipes n).getD Pipe.reset

/-- A pipe set. -/
def State.setPipe (s : State) (n : Nat) (p : Pipe) : State :=
  { s with video := { s.video with pipes := Map.set s.video.pipes n p } }

/-- A free pipe takes the access unit completed earliest whose stream no pipe decodes; the wait joins those of the last
second (R179, R181). -/
def execPipeTake (pipe : Nat) (s : State) : Host.Outcome State Fault Refusal :=
  if pipe > 7 || !s.videoRuns || s.videoControlDown || (s.pipe pipe).unit.isSome then .next s
  else
    match s.video.ready.find? fun u => !s.inPipe u.stream with
    | none => .next s
    | some u =>
      let p := s.pipe pipe
      let s : State := { s with video := { s.video with ready := s.video.ready.erase u } }
      let s := s.setPipe pipe { p with unit := some u, takenAt := s.up }
      match s.vstream u.stream with
      | none => .next s
      | some x =>
        let waits := (s.up, s.up - u.completedAt) :: x.waits.filter fun w => !s.elapsed w.1 1000000000
        .next (s.setVstream u.stream { x with waits := waits })

/-- The detector bay of a route holds a vision bale and is not being reseated (R101, Table 07-14). -/
def State.detectorReady (s : State) (bay : Nat) : Bool :=
  match s.bay bay with
  | some b => b.kind = 1 && b.bale.isSome && b.seating.isNone
  | none => false

/-- The first descriptor of a bay's vision bale names the size of a picture (Table 07-14). -/
def State.detectorSize (s : State) (bay w h : Nat) : Bool :=
  match (s.bay bay).bind (·.bale) with
  | some b => match b.convs with
    | d :: _ => d.inW = w && d.inH = h
    | [] => true
  | none => false

/-- What a picture output by the decoder is: its planes and whatever else the pipe writes to its surface, its flags, its access unit, its
place in output order, and the references kept with it (R179, R184, R186). -/
structure Shown where
  planes : Planes
  writes : List (Int × List Byte)
  concealed : Bool
  unit : AccessUnit
  order : Int
  reference : Bool
  keeps : List Nat
  deriving DecidableEq, Repr

/-- A decoded picture reaches the detectors of its stream's routes, or none (R14, R210; on a partner none, R347). A tensor surface counts
as read while crops of its picture still wait, DESIGN CHOICE log 126. -/
def State.routePicture (s : State) (n id : Nat) (o : Shown) : State :=
  match s.vstream n with
  | none => s
  | some x =>
    let routes := if s.writesRings then
        (s.reqs.routes.filter fun r => r.2.params.stream = n && r.2.dropping.isEmpty).map fun r => (r.1, r.2.params.detectorBay)
      else []
    if routes.isEmpty then s
    else if x.tensor.length ≥ 2 then s.countStream n 120 1
    else
      let bays := (routes.map (·.2)).eraseDups.filter s.detectorReady
      let run := bays.filter fun b => s.detectorSize b o.planes.width o.planes.height
      if run.isEmpty then (if bays.isEmpty then s else s.countStream n 120 1)
      else
        let pic : Picture :=
          { id := id, stream := n, width := o.planes.width, height := o.planes.height, capture := o.unit.capture,
            concealed := o.concealed, fallback := o.unit.fallback, detectors := run, routes := routes.map (·.1) }
        let k := if x.tensor.any fun t => t.2 = 0 then 1 else 0
        let s := s.setVstream n { x with tensor := x.tensor ++ [(id, k)] }
        let s := s.spanWrite x.tenant x.frames (tensorBase x.params k) (pictureTensor x.params o.planes).bytes
        { s with video := { s.video with pictures := s.video.pictures ++ [pic] } }

/-- A picture joins the decoded picture buffer: the references that it keeps, at most 16, and itself (R172, R179). -/
def VStream.store (x : VStream) (id : Nat) (o : Shown) : VStream :=
  let kept := x.dpb.filter fun p => p.reference && o.keeps.contains p.number
  let x := { x with dpb := kept.drop (kept.length - 16) }
  { x with dpb := x.dpb ++ [{
      number := id, slot := x.freeSlot, order := o.order, width := o.planes.width, height := o.planes.height,
      bitDepth := o.planes.bitDepth, vuiMatrix := o.planes.vuiMatrix, vuiRange := o.planes.vuiRange,
      colour := !o.planes.cb.isEmpty, reference := o.reference }] }

/-- A picture is output: written to its surface, counted, kept for concealment, offered to the routes and to the encoders. A write beyond
the surface is suppressed, counted, and makes it CONCEALED (R179, R184, R186, R187, R208). -/
def State.outputPicture (s : State) (n : Nat) (o : Shown) (flagged : List Nat) : State :=
  match s.vstream n with
  | none => s
  | some x =>
    let id := x.pictures + 1
    let x := VStream.store x id o
    let slot := (x.dpb.getLast?.map (·.slot)).getD 0
    let (s, blocked) := s.surfaceWrites x slot (Planes.rows o.planes ++ o.writes)
    let o := { o with concealed := o.concealed || blocked > 0 }
    let s := s.setVstream n { x with
      pictures := id, state := 0, awaiting := false, width := o.planes.width, height := o.planes.height,
      flagged := if o.concealed then flagged ++ [id] else flagged }
    let s := ((s.countStream n 8 1).countStream n 16 (bit o.concealed)).countStream n 72 blocked
    (s.routePicture n id o).encodeSlot n o.unit.capture (bit o.concealed + 2 * bit o.unit.fallback) (some o.planes)

/-- The planes that a pipe hands on. -/
def PictureData.planes (d : PictureData) : Planes :=
  { width := d.width, height := d.height, bitDepth := d.bitDepth, vuiMatrix := d.vuiMatrix, vuiRange := d.vuiRange,
    luma := d.luma, cb := d.cb, cr := d.cr }

/-- A picture that stands in for one that was not decoded: no reference, last in output order, and the references stay. -/
def VStream.standIn (x : VStream) (u : AccessUnit) (pl : Planes) : Shown :=
  { planes := pl, writes := [], concealed := true, unit := u, order := (x.dpb.map (·.order)).foldl max 0 + 1, reference := false,
    keeps := x.dpb.map (·.number) }

/-- The last output picture copied whole, flagged CONCEALED; with none, no picture (Table 07-5, R186). -/
def State.concealWhole (s : State) (n : Nat) (u : AccessUnit) : State :=
  match s.vstream n with
  | none => s
  | some x =>
    match x.dpb.getLast? with
    | some p =>
      let (pl, s) := s.storedPlanes x p
      s.outputPicture n (VStream.standIn x u pl) x.flagged
    | none => s.encodeSlot n u.capture 0 none

/-- The most recent reference picture in output order (R186). -/
def VStream.lastReference (x : VStream) : Option StoredPicture :=
  (x.dpb.filter (·.reference)).foldl (fun (a : Option StoredPicture) p => match a with
    | some q => if q.order ≤ p.order then some p else a
    | none => some p) none

/-- A sample of a plane lies in one of a set of luma rectangles; `k` is 1 for luma and 2 for chroma. -/
def lostAt (k x y : Nat) (lost : List (Nat × Nat × Nat × Nat)) : Bool :=
  lost.any fun r => k * x + k > r.1 && k * x < r.1 + r.2.2.1 && k * y + k > r.2.1 && k * y < r.2.1 + r.2.2.2

/-- A plane with its lost samples taken from the co-located ones of a reference, or mid-grey (R186). -/
def concealPlane (k w h grey : Nat) (plane : List Nat) (ref : Option (List Nat × Nat × Nat)) (lost : List (Nat × Nat × Nat × Nat)) :
    List Nat :=
  if plane.isEmpty then []
  else
    (List.range h).flatMap fun y => (List.range w).map fun x =>
      if lostAt k x y lost then
        (match ref with | some (p, rw, rh) => (planeAt p rw rh x y).toNat | none => grey)
      else plane.getD (y * w + x) 0

/-- A picture's lost blocks concealed (R183, R186). -/
def Planes.conceal (pl : Planes) (ref : Option Planes) (lost : List (Nat × Nat × Nat × Nat)) : Planes :=
  if lost.isEmpty then pl
  else
    let grey := 2 ^ (pl.bitDepth - 1)
    let cw := ceilDiv pl.width 2
    let ch := ceilDiv pl.height 2
    let of := fun (f : Planes → List Nat) (r : Planes) =>
      if (f r).isEmpty then none else some (f r, ceilDiv r.width 2, ceilDiv r.height 2)
    { pl with
      luma := concealPlane 1 pl.width pl.height grey pl.luma (ref.map fun r => (r.luma, r.width, r.height)) lost,
      cb := concealPlane 2 cw ch grey pl.cb (ref.bind (of (·.cb))) lost,
      cr := concealPlane 2 cw ch grey pl.cr (ref.bind (of (·.cr))) lost }

/-- The planes of a stream's most recent reference, read from its surface. -/
def State.referencePlanes (s : State) (x : VStream) : Option Planes × State :=
  match VStream.lastReference x with
  | some p => let (pl, s) := s.storedPlanes x p; (some pl, s)
  | none => (none, s)

/-- Levels of H.264 in tenths with MaxFS, the largest picture in macroblocks (log 62). -/
def avcLevels : List (Nat × Nat) :=
  [(10, 99), (11, 396), (12, 396), (13, 396), (20, 396), (21, 792), (22, 1620), (30, 1620), (31, 3600), (32, 5120), (40, 8192),
   (41, 8192), (42, 8704), (50, 22080), (51, 36864), (52, 36864)]

/-- A picture size is within its level, at most 5.2 in H.264 and 6.1 in H.265 (Table 07-4; log 62). -/
def levelHolds (codec level w h : Nat) : Bool :=
  if codec = 0 then
    avcLevels.any fun l => l.1 = level && ceilDiv w 16 * ceilDiv h 16 ≤ l.2 && ceilDiv w 16 ^ 2 ≤ 8 * l.2 &&
      ceilDiv h 16 ^ 2 ≤ 8 * l.2
  else hevcLevels.any fun l => l.level = level && level ≤ 61 && l.holds w h

/-- The coding tools of an access unit are those of Table 07-4. -/
def toolsOk (codec : Nat) (d : PictureData) : Bool :=
  !d.otherTool && levelHolds codec d.level d.width d.height &&
    (if codec = 0 then
      (d.profile = .high || d.profile = .constrainedBaseline) && d.chroma ≤ 1 && d.bitDepth = 8 && !d.fields
    else
      (d.profile = .main || d.profile = .main10) && d.chroma = 1 && (d.bitDepth = 8 || (d.bitDepth = 10 && d.profile = .main10)))

/-- What the decoding of an access unit gives (Tables 07-4 and 07-5, R184, R186). -/
def State.decodeUnit (s : State) (u : AccessUnit) (d : PictureData) (budgetDone : Bool) : State :=
  let n := u.stream
  match s.vstream n with
  | none => s
  | some x =>
    if !toolsOk x.params.codec d || d.width > x.params.maxWidth || d.height > x.params.maxHeight then
      ((s.countStream n 56 1).setVstream n { x with state := 1, awaiting := true }).encodeSlot n u.capture 0 none
    else if x.awaiting && !(d.idr || d.irap) then s.encodeSlot n u.capture 0 none
    else if d.paramMissing then (s.countStream n 80 1).concealWhole n u
    else
      let clean := d.idr || d.cleanIrap || d.recoveryPoint
      let flagged := if clean then [] else x.flagged
      let own := u.missing > 0 || u.markerSeq.isNone || u.truncated || budgetDone || d.syntaxErrors > 0 ||
        d.refMissing > 0 || !d.lost.isEmpty
      let concealed := own || d.usesRefs.any fun r => flagged.contains r
      let s := (s.countStream n 48 (d.syntaxErrors + bit u.truncated)).countStream n 88 d.refMissing
      let (ref, s) := if d.lost.isEmpty then (none, s) else s.referencePlanes x
      s.outputPicture n
        { planes := (PictureData.planes d).conceal ref d.lost, writes := d.writes, concealed := concealed, unit := u,
          order := d.order, reference := d.reference, keeps := if d.idr then [] else d.keeps } flagged

/-- A pipe falls free. -/
def State.freePipe (s : State) (pipe n : Nat) : State :=
  (s.setPipe pipe { unit := none, takenAt := s.up, lastStream := some n }).settleStream n

/-- A pipe ends an access unit (R180, R185). -/
def execDecodeComplete (pipe : Nat) (d : PictureData) (s : State) : Host.Outcome State Fault Refusal :=
  match (s.pipe pipe).unit with
  | none => .next s
  | some u =>
    if !s.videoRuns then .next s
    else .next ((s.decodeUnit u d false).freePipe pipe u.stream)

/-- FRAME_BUDGET of a stream has passed since a moment (R183); the default is 2 × luma samples / 4.2 Gpixel/s + 60 µs. -/
def budgetOver (p : StreamParams) (ns : Nat) : Bool :=
  if p.frameBudget = 0 then decide (20 * p.maxWidth * p.maxHeight + 60000 * 42 ≤ ns * 42)
  else decide (p.frameBudget * 1000 ≤ ns)

/-- An access unit's budget runs out: the pipe ends it with what it has reconstructed, the other blocks concealed, and is free for the
next one (R182, R183). -/
def execFrameBudgetExpiry (e : PipeExpiry) (s : State) : Host.Outcome State Fault Refusal :=
  let p := s.pipe e.pipe
  match p.unit with
  | none => .next s
  | some u =>
    match s.vstream u.stream with
    | none => .next s
    | some x =>
      if !s.videoRuns || !budgetOver x.params (s.up - p.takenAt) then .next s
      else .next (((s.countStream u.stream 64 1).decodeUnit u e.picture true).freePipe e.pipe u.stream)

/-- A mid-grey picture (R186). -/
def greyPlanes (w h bitDepth : Nat) : Planes :=
  let grey := 2 ^ (bitDepth - 1)
  let chroma := List.replicate (ceilDiv w 2 * ceilDiv h 2) grey
  { width := w, height := h, bitDepth := bitDepth, vuiMatrix := 0, vuiRange := 0, luma := List.replicate (w * h) grey,
    cb := chroma, cr := chroma }

/-- An access unit of a picture of a size concealed whole from the most recent reference, else mid-grey; of no size, nothing is output
(R183, R186; log 67). -/
def State.concealUnit (s : State) (u : AccessUnit) (w h bitDepth : Nat) : State :=
  match s.vstream u.stream with
  | none => s
  | some x =>
    if w = 0 || h = 0 || x.awaiting then s.encodeSlot u.stream u.capture 0 none
    else
      let (ref, s) := s.referencePlanes x
      s.outputPicture u.stream (VStream.standIn x u ((greyPlanes w h bitDepth).conceal ref [(0, 0, w, h)])) x.flagged

/-- A pipe that stopped responding is restarted; the access unit in it, of the size its parameter sets gave, is concealed
whole (R183). -/
def execPipeRestart (pipe width height bitDepth : Nat) (s : State) : Host.Outcome State Fault Refusal :=
  match (s.pipe pipe).unit with
  | none => .next s
  | some u =>
    if !s.videoRuns || s.videoControlDown then .next s
    else .next ((s.concealUnit u width height bitDepth).freePipe pipe u.stream)

/-- A stream enters STALLED with one event (R187). -/
def State.stallStream (s : State) (n : Nat) : State :=
  match s.vstream n with
  | none => s
  | some x => if x.state = 2 then s else (s.setVstream n { x with state := 2 }).event x.tenant 0x0301 n 0

/-- Ten declared frame periods without an access unit (R187). -/
def execStreamStalled (stream : Nat) (s : State) : Host.Outcome State Fault Refusal :=
  match s.vstream stream with
  | none => .next s
  | some x =>
    if x.closing.isSome || !s.videoRuns || (s.up - x.lastUnitAt) * x.params.frameRate < 10000000000 then .next s
    else .next (s.stallStream stream)

/-! ## Detector runs and crop batches (R14 to R17, R199 to R206) -/

/-- The tensor of a picture, read from the surface that holds it (R194). -/
def State.tensorOf (s : State) (x : VStream) (pic : Picture) : Option Tensor × State :=
  match x.tensor.find? fun t => t.1 = pic.id with
  | none => (none, s)
  | some t =>
    let p := x.params
    let (bytes, s) := s.spanRead x.frames (tensorBase p t.2)
      (tensorSize p.c32 p.bfloat pic.width pic.height (groupChannels p.c32))
    (some { c32 := p.c32, bf := p.bfloat, w := pic.width, h := pic.height, c := groupChannels p.c32, bytes := bytes }, s)

/-- Tensors that neither a detector nor a crop still reads are given up. -/
def State.pruneTensors (s : State) (n : Nat) : State :=
  match s.vstream n with
  | none => s
  | some x =>
    let live := fun id : Nat => (s.video.pictures.any fun q => q.stream = n && q.id = id) ||
      s.video.crops.any fun q => q.picture.stream = n && q.picture.id = id
    s.setVstream n { x with tensor := x.tensor.filter fun t => live t.1 }

/-- The boxes of a picture offered to one of its routes: skipped under SKIP, else the best up to its object limit (R16, R17,
R30). -/
def State.offerBoxes (s : State) (pic : Picture) (bay : Nat) (boxes : List BoxRec) (route : Nat) : State :=
  match Map.get? s.reqs.routes route with
  | none => s
  | some r =>
    if r.params.detectorBay ≠ bay || r.params.stream ≠ pic.stream then s
    else if pic.concealed && r.params.skip then s.count 0x0008 0 0 0 route 32 1
    else
      let kept := boxes.take r.params.objectLimit
      let s : State := { s with video := { s.video with
        crops := s.video.crops ++ kept.map fun b => ({ route := route, picture := pic, box := b } : CropJob) } }
      if kept.isEmpty then s else s.count 0x0008 0 0 0 route 8 kept.length

/-- One detector of a picture has run. -/
def State.endDetector (s : State) (pic : Picture) (bay : Nat) : State :=
  let left := pic.detectors.filter fun b => b ≠ bay
  let pics := s.video.pictures.filterMap fun q =>
    if q.stream = pic.stream && q.id = pic.id then (if left.isEmpty then none else some { q with detectors := left }) else some q
  ({ s with video := { s.video with pictures := pics } } : State).pruneTensors pic.stream

/-- The detector bay finishes a picture and the box filter yields its list; the attention of a vision bale's layers runs under the three
passes (R14, R16, R110, R197 to R200). `laterFlushed` counts what the address generator flushed in layers beyond those the picture
itself feeds. -/
def execDetectorRunDone (stream picture bay laterFlushed : Nat) (run : DetectorRun) (s : State) : Host.Outcome State Fault Refusal :=
  match s.video.pictures.find? fun q => q.stream = stream && q.id = picture && q.detectors.contains bay, s.vstream stream with
  | some pic, some x =>
    if !s.videoRuns then .next s
    else
      match s.bay bay with
      | none => .next (s.endDetector pic bay)
      | some b =>
        match b.bale.bind (·.detector), b.bale with
        | some d, some bale =>
          let s := s.visionAttention bay run.rows
          let (boxes, dropped, invalid) := boxFilter d (bit pic.concealed + 2 * bit pic.fallback) (pic.id % 2 ^ 32) run.raw
          let (t, s) := s.tensorOf x pic
          let flushed := ((t.map (leadFlushed bale.convs)).getD 0) + laterFlushed
          let s := match s.vstream stream with | some y => s.setVstream stream { y with boxes := boxes } | none => s
          let s := if flushed = 0 then s else s.count 0x0001 (s.stageCore b 0) 0 0 0 24 flushed
          let s := (s.countStream stream 112 dropped)
          let s := if invalid = 0 then s else s.count 0x0003 bay 0 0 0 120 invalid
          .next ((pic.routes.foldl (fun s r => s.offerBoxes pic bay boxes r) s).endDetector pic bay)
        | _, _ => .next (s.endDetector pic bay)
  | _, _ => .next s

/-- A firing with its re-fire, where it takes one. -/
def State.fireNow (s : State) (f : Firing) : State :=
  let s := s.fireGroup f
  match s.cores.refires.find? fun p => p.firing = f with
  | some p => s.makeRefire p
  | none => s

/-- An input group of MXINT8 blocks, the missing ones zero (R38). -/
def blocksGroup (l : List MxBlock) : InputGroup :=
  let l := l ++ List.replicate (8 - l.length) { scale := 0, elems := List.replicate 32 0 }
  { elems := l.flatMap (·.elems), scales := l.map (·.scale) }

/-- One output tile of a patch against the EMBED matrix: its row tiles fired in ascending order on the cores that hold them, and their
sum (R46, R205). `token` tells one patch from another. -/
def State.embedTile (s : State) (n : Nat) (b : Bay) (entries : List LayerEntry) (token : Nat) (groups : List InputGroup) :
    List F32 × State :=
  let arrays := entries.filterMap fun e => (s.sliceCore (b.slices.getD e.slice 8)).map fun core => (core, e)
  let s := arrays.foldl (fun s x =>
    let (core, e) := x
    s.fireNow
      { core := core, string := e.string, position := s.physical core e.string (b.start + e.index), kind := .data, bay := n,
        segment := 0, request := none, token := token, place := 264 * e.rowTile, group := groups[e.rowTile]? }) s
  let parts := arrays.map fun x =>
    (((s.core x.1).sums.find? fun z => z.key.bay = n && z.key.layer = x.2.layer && z.key.matrix = x.2.matrix &&
      z.key.colTile = x.2.colTile && z.key.request = none && z.key.place = token).map (·.acc)).getD []
  (parts.headD [], s)

/-- One visual token: the patch fired against the EMBED matrix on the arrays of the detector bay, its position vector added, and the
result requantised to MXINT8 (R205). -/
def State.embedPatch (s : State) (n : Nat) (b : Bay) (bale : Bale) (embed crop patch token : Nat) (blocks : List MxBlock) :
    List MxBlock × State :=
  let entries := bale.layerMap.filter fun e => e.matrix = embed
  let groups := (chunks 8 blocks.length blocks).map blocksGroup
  let width := ((bale.embeds.find? fun e => e.1 = embed).map (·.2)).getD 0
  let tiles := (entries.map (·.colTile)).dedup.mergeSort (· ≤ ·)
  let (out, s) := tiles.foldl (fun a col =>
    let (y, t) := a.2.embedTile n b (entries.filter fun e => e.colTile = col) token groups
    (a.1 ++ y, t)) ([], s)
  let out := out.take width
  let position := ((bale.positions.find? fun p => p.1 = crop && p.2.1 = patch).map (·.2.2)).getD (out.map fun _ => F32.zero)
  let sum := (out.zip position).map fun p => F32.add p.1 p.2
  let s := s.countFp (s.stageCore b 0) (satSum sum) (fluSum sum)
  let x := sum.map (·.v)
  ((chunks 32 x.length x).map fun l => { scale := (requantBlock l).1, elems := (requantBlock l).2 }, s)

/-- The patches and visual tokens of one kept box for its route, crop by crop (R203 to R205). -/
def State.boxPatches (s : State) (j : CropJob) : Option BoxPatches × State :=
  match s.vstream j.picture.stream, Map.get? s.reqs.routes j.route with
  | some x, some r =>
    match s.tensorOf x j.picture with
    | (none, s) => (none, s)
    | (some t, s) =>
      let patches : List ((CropRec × Nat) × List MxBlock × Nat) := r.params.crops.zipIdx.flatMap fun c =>
        (cropPatches x.params t c.1 j.box).zipIdx.map fun p => (c, p)
      let n := r.params.detectorBay
      let (tokens, s) := match s.bay n with
        | some b =>
          (match b.bale with
           | some bale =>
             let (out, t) := patches.foldl (fun (a : List (List MxBlock) × State) (p : (CropRec × Nat) × List MxBlock × Nat) =>
               let (y, t) := a.2.embedPatch n b bale p.1.1.embed p.1.2 p.2.2 a.2.free p.2.1
               (a.1 ++ [y], t)) ([], s)
             (out, t.dropSums n)
           | none => ([], s))
        | none => ([], s)
      (some { route := j.route, candidate := j.box.candidate, patches := patches.map fun p => p.2.1, tokens := tokens }, s)
  | _, _ => (none, s)

/-- A crop batch of up to 4,096 boxes embeds its boxes, and their requests are created in order (R16, R18, R205, R206). -/
def execCropBatchDone (s : State) : Host.Outcome State Fault Refusal :=
  let batch := s.video.crops.take 4096
  if !s.videoRuns || batch.isEmpty then .next s
  else
    let (made, s) := batch.foldl (fun (a : List BoxPatches × State) j =>
      let (x, t) := a.2.boxPatches j
      (a.1 ++ x.toList, t)) ([], s)
    let s : State := { s with video := { s.video with crops := s.video.crops.drop 4096, patches := made } }
    let s := batch.foldl (fun s j => s.objectCreate j.route j.picture j.box) s
    .next ((batch.map fun j => j.picture.stream).eraseDups.foldl (fun s n => s.pruneTensors n) s)

end Sys2Proof.Machine
end

