-- ==== Sys2Proof/Machine/Routes.lean ====
section
/-! DEFINITION. Routes (R13 to R15, R29, R201, R202). -/

namespace Sys2Proof.Machine

/-- Ranges of a crop record (Table 07-12). -/
def cropOk (c : CropRec) : Bool :=
  F32.le 0x3E800000 c.expand && F32.le c.expand 0x41000000 && within c.outH 1 64 && within c.outW 1 64 && c.mode ≤ 3 &&
    c.rsvd = 0 && (if c.mode ≤ 1 then c.ratio = 0 else within c.ratio 1 8) && (c.patch = 4 || c.patch = 8 || c.patch = 16) &&
    c.outH % c.patch = 0 && c.outW % c.patch = 0

/-- The crop record of zeros, which stands at the indices of CROPS and above (R201). -/
def noCrop : CropRec :=
  { expand := 0, outH := 0, outW := 0, mode := 0, ratio := 0, patch := 0, square := false, embed := 0, rsvd := 0 }

/-- Ranges of Table 07-11. -/
def routeParamsOk (p : RouteParams) : Bool :=
  p.route ≤ 4095 && p.stream ≤ 1023 && p.detectorBay ≤ 7 && within p.objectLimit 1 256 && p.context < 2 ^ 24 &&
    p.template ≤ 1023 && p.actionStream ≤ 4095 && p.track ≤ 255 && within p.crops.length 1 4 && p.y0 ≤ 4351 &&
    F32.isFinite p.k && p.crops.all cropOk && p.others.all fun c => c = noCrop

/-- The stream's tensors fit the input of the detector's first descriptor, whose channels are those of one channel group, and the
EMBED matrices the decision bale: that which the template names, else the one now seated in its bay. A bay with no bale is compared
with nothing (R194, R202; log 65). -/
def routeBalesOk (p : RouteParams) (x : StreamParams) (det dec : Option Bale) : Bool :=
  match det with
  | none => true
  | some d =>
    (match d.convs with
     | i :: _ => i.layoutIn32 = x.c32 && i.bfloat = x.bfloat && i.inC = groupChannels x.c32
     | [] => false) &&
      p.crops.all fun c => match d.embeds.find? fun e => e.1 = c.embed with
        | none => false
        | some e => match dec with
          | some b => e.2 = b.width
          | none => true

/-- The decision bale of a template: the one it names, else the one seated in its bay (R202, Table 06-2). -/
def State.decisionBale (s : State) (t : TemplateRec) (b : Bay) : Option Bale :=
  if t.named then (s.stagedBale t.handle).map (·.bale) else b.bale

/-- The refusal of DEFINE_ROUTE, or none (R13, R14, R202, R227). -/
def State.routeRefusal (s : State) (h : Hdr) (p : RouteParams) : Option Nat :=
  if !routeParamsOk p || payloadBytes h < 64 then some Status.badParam
  else
    match s.vstream p.stream, s.bay p.detectorBay, s.ctx p.context, Map.get? s.reqs.templates p.template,
        s.stream p.actionStream, Map.get? s.mls.tracks p.track with
    | some x, some det, some ctx, some t, some st, some tr =>
      match s.bay t.body.bay with
      | none => some Status.badParam
      | some dec =>
        let old := Map.get? s.reqs.routes p.route
        if x.closing.isSome || det.kind ≠ 1 then some Status.badParam
        else if x.tenant ≠ h.fn || ctx.tenant ≠ h.fn || t.tenant ≠ h.fn then some Status.notPermitted
        else if st.tenant ≠ h.fn || tr.tenant ≠ st.tenant || det.owner ≠ dec.owner then some Status.badParam
        else if old.any fun r => r.tenant ≠ h.fn || !r.dropping.isEmpty then some Status.notPermitted
        else if 8 ≤ (s.reqs.routes.filter fun r => r.1 ≠ p.route && r.2.params.stream = p.stream).length then
          some Status.notPermitted
        else if !routeBalesOk p x.params det.bale (s.decisionBale t.body dec) || (st.params.kind = 0 && t.body.nAct > 64) then
          some Status.badParam
        else none
    | _, _, _, _, _, _ => some Status.badParam

/-- DEFINE_ROUTE once started (R13, R30, R201). -/
def defineRouteRun (h : Hdr) (p : RouteParams) (c : CmdRef) (s : State) : State :=
  match s.routeRefusal h p with
  | some status => s.reply c status 0 0
  | none =>
    let s := s.clearRecord 0x0008 0 0 0 p.route
    ({ s with reqs := { s.reqs with
      routes := Map.set s.reqs.routes p.route { tenant := h.fn, params := p, dropping := [] } } } : State).reply c
        Status.done 0 0

/-- DEFINE_ROUTE (R13). -/
def execDefineRoute (h : Hdr) (p : RouteParams) (s : State) : Host.Outcome State Fault Refusal :=
  .next (s.cmd 0x0310 h (defineRouteRun h p))

/-- A route that is being dropped has nothing left that may become or is a request (R29). -/
def State.routeIdle (s : State) (n : Nat) : Bool :=
  !(s.liveReqs.any fun r => r.route = some n) && !(s.video.crops.any fun j => j.route = n) &&
    !(s.video.pictures.any fun q => q.routes.contains n) &&
    !(s.ctxs.ctx.any fun x => x.2.waiters.any fun w => match w with
      | .object r _ _ => r = n
      | _ => false)

/-- A dropped route with nothing left ends: DROP_ROUTE replies and its place on the stream is free (R14, R29). -/
def State.settleRoute (s : State) (n : Nat) : State :=
  match Map.get? s.reqs.routes n with
  | none => s
  | some r =>
    if r.dropping.isEmpty || !s.routeIdle n then s
    else
      r.dropping.foldl (fun s c => s.reply c Status.done 0 0)
        { s with reqs := { s.reqs with routes := Map.erase s.reqs.routes n } }

/-- DROP_ROUTE once started (R29). -/
def dropRouteRun (h : Hdr) (n : Nat) (c : CmdRef) (s : State) : State :=
  match Map.get? s.reqs.routes n with
  | none => s.reply c Status.badParam 0 0
  | some r =>
    if r.tenant ≠ h.fn then s.reply c Status.notPermitted 0 0
    else { s with reqs := { s.reqs with routes := Map.set s.reqs.routes n { r with dropping := r.dropping ++ [c] } } }

/-- DROP_ROUTE (R29). -/
def execDropRoute (h : Hdr) (route : Nat) (s : State) : Host.Outcome State Fault Refusal :=
  .next (s.cmd 0x0311 h (dropRouteRun h route))

/-- Every request of a dropped route has ended (R29). -/
def execDropRouteDone (route : Nat) (s : State) : Host.Outcome State Fault Refusal := .next (s.settleRoute route)

end Sys2Proof.Machine
end

