-- ==== Sys2Proof/Machine/Scrub.lean ====
section
/-! DEFINITION. Scrubbing (R263, R264). -/

namespace Sys2Proof.Machine

/-! ## One codeword -/

/-- What follows an uncorrectable error by where it lies: a weight word makes its array suspect, and a staging copy is
reported (R102, Table 09-11). -/
def State.afterUncorrectable (s : State) (cls unit addr : Nat) : State :=
  if cls = 4 then s.repairWord unit (addr / 34816 / 130) (addr / 34816 % 130)
  else if cls ≤ 1 then
    (s.bays.staged.filter fun p => p.2.frames.contains (pageAt cls addr)).foldl (fun s p => s.stagingError p.1) s
  else s

/-- A scrub's findings so far (Table 09-16). -/
structure ScrubSum where
  corrected : Nat
  uncorrectable : Nat
  addrs : List Nat
  deriving DecidableEq, Repr

/-- A poisoned codeword met by a scrub counts as uncorrectable and is not logged again. -/
def ScrubSum.bad (t : ScrubSum) (addr : Nat) : ScrubSum :=
  { t with uncorrectable := t.uncorrectable + 1, addrs := t.addrs ++ [addr] }

/-- A corrected codeword. -/
def ScrubSum.fixed (t : ScrubSum) (addr : Nat) : ScrubSum :=
  { t with corrected := t.corrected + 1, addrs := t.addrs ++ [addr] }

/-- A codeword that a flip has changed is read (R259, R260, R262). -/
def State.scrubFlip (a : State × ScrubSum) (cls unit cw mask : Nat) : State × ScrubSum :=
  let s := a.1.readFlipped cls unit cw mask true
  if s.mem.flipped.any fun f => f.1 = memKey cls unit && f.2.1 = cw then (s, a.2)
  else if wrongCount cls mask = 2 then (s.afterUncorrectable cls unit cw, a.2.bad cw)
  else (s, a.2.fixed cw)

/-- An error of the cells themselves is read: one wrong symbol or bit is corrected, more are uncorrectable (R259, R260). -/
def State.scrubFound (a : State × ScrubSum) (cls unit : Nat) (f : FoundError) : State × ScrubSum :=
  let cw := codewordAt cls f.addr
  if a.1.mem.poison.contains (memKey cls unit, cw) then a
  else if f.wrong = 0 then a
  else if f.wrong = 1 then (a.1.foundCorrectable cls unit cw f.syndrome f.place, a.2.fixed cw)
  else
    (((a.1.foundUncorrectable cls unit cw f.syndrome true).poisonWord cls unit cw).afterUncorrectable cls unit cw,
      a.2.bad cw)

/-- Every codeword of a byte range read by a scrub: those already poisoned, those a flip has changed, and the errors
found. -/
def State.scrubRange (s : State) (cls unit start len : Nat) (found : List FoundError) : State × ScrubSum :=
  let within_ := fun a : Nat => start ≤ a && a < start + len
  let old := (s.mem.poison.filter fun p => p.1 = memKey cls unit && within_ p.2).map (·.2)
  let t := old.foldl ScrubSum.bad { corrected := 0, uncorrectable := 0, addrs := [] }
  let flips := s.mem.flipped.filter fun f => f.1 = memKey cls unit && within_ f.2.1 && !old.contains f.2.1
  let a := flips.foldl (fun a f => State.scrubFlip a cls unit f.2.1 f.2.2) (s, t)
  (found.filter fun f => within_ (codewordAt cls f.addr)).foldl (fun a f => State.scrubFound a cls unit f) a

/-! ## The summary and the queue -/

/-- The 64-byte scrub summary (Table 09-16). -/
def scrubSummary (words : Nat) (t : ScrubSum) (entries status end_ : Nat) : List Byte :=
  let none_ := 0xFFFFFFFFFFFFFFFF
  recordBytes 64 [(0, 64, words), (8, 64, t.corrected), (16, 64, t.uncorrectable),
    (24, 64, t.addrs.foldl min none_), (32, 64, if t.addrs.isEmpty then none_ else t.addrs.foldl max 0),
    (40, 32, entries), (44, 32, status), (48, 64, end_)]

/-- Entries added to the log between two of its sequences (R265). -/
def entriesSince (old new : Nat) : Nat := (new + 2 ^ 32 - old) % 2 ^ 32 - (if new < old then 1 else 0)

/-- A scrub ends after `words` codewords: its range is read, its summary written, and its final reply follows (R263,
R264). -/
def State.endScrub (s : State) (c : Scrub) (words status : Nat) (found : List FoundError) : State :=
  let p := c.params
  let len := words * codewordBytes p.cls
  let before := s.mem.logHead
  let s := { s with mem := { s.mem with scrubs := s.mem.scrubs.filter fun x => x.ref ≠ c.ref } }
  let (s, t) := s.scrubRange p.cls (classUnit p.cls p.unit) p.start len found
  let s := s.writePayload c.ref.fn c.ref.spans 0 (scrubSummary words t (entriesSince before s.mem.logHead) status (p.start + len))
  s.reply c.ref Status.done words t.uncorrectable

/-- Classes whose scrubs go through the tolls, one at a time (R263). -/
def tollScrub (cls : Nat) : Bool := cls ≤ 1 || cls = 5

/-- The scrub in progress in the queue that a class and unit belong to (R263). -/
def State.activeScrub (s : State) (cls unit : Nat) : Option Scrub :=
  s.mem.scrubs.find? fun c => if tollScrub cls then tollScrub c.params.cls
    else !tollScrub c.params.cls && c.params.unit = unit

/-- A scrub is cut short after a number of codewords that is free (R263). -/
def State.cutScrub (s : State) (c : Scrub) : State :=
  let (n, s) := s.draw
  s.endScrub c (Config.freeNat n % (c.params.length / codewordBytes c.params.cls + 1)) 1 []

/-- Ranges of Table 09-15. -/
def scrubOk (p : ScrubParams) : Bool :=
  p.cls ≤ 5 && (!within p.cls 2 4 || p.unit ≤ 8) && p.rate ≤ 64 && p.start % codewordBytes p.cls = 0 &&
    p.length % codewordBytes p.cls = 0 && p.start + p.length ≤ classBytes p.cls

/-- SCRUB_RANGE once started (R263). -/
def scrubRangeRun (h : Hdr) (p : ScrubParams) (c : CmdRef) (s : State) : State :=
  if !scrubOk p || payloadBytes h < 64 then s.reply c Status.badParam 0 0
  else
    ({ s with mem := { s.mem with scrubs := s.mem.scrubs ++
      [{ ref := c, params := { p with rate := orDefault p.rate 16 }, stopped := false }] } } : State).accept c 0 0

/-- SCRUB_RANGE (R263). -/
def execScrubRange (h : Hdr) (p : ScrubParams) (s : State) : Host.Outcome State Fault Refusal :=
  .next (s.cmd 0x0501 h (scrubRangeRun h p))

/-- SCRUB_RANGE with STOP once started: the first scrub of the class and unit ends at its next codeword, one that still waits
at its first (R263; log 57). -/
def scrubStopRun (cls unit : Nat) (c : CmdRef) (s : State) : State :=
  if cls > 5 || (within cls 2 4 && unit > 8) then s.reply c Status.badParam 0 0
  else
    let s : State := match s.mem.scrubs.find? fun (x : Scrub) => x.params.cls = cls && classUnit cls x.params.unit = classUnit cls unit with
      | some x =>
        if (s.activeScrub cls unit).map (fun (y : Scrub) => y.ref) = some x.ref then s.cutScrub x else s.endScrub x 0 1 []
      | none => s
    s.reply c Status.done 0 0

/-- SCRUB_RANGE with STOP set (R263). -/
def execScrubStop (h : Hdr) (cls unit : Nat) (s : State) : Host.Outcome State Fault Refusal :=
  .next (s.cmd 0x0501 h (scrubStopRun cls unit))

/-- The scrub in progress runs to its end (R263, R264); a fenced scrubber lets none through the tolls run (Table 09-4). -/
def execScrubRun (cls unit : Nat) (found : List FoundError) (s : State) : Host.Outcome State Fault Refusal :=
  match s.activeScrub cls unit with
  | none => .next s
  | some c =>
    if !s.power.railsOn || c.params.cls ≠ cls || classUnit cls c.params.unit ≠ classUnit cls unit ||
        (tollScrub cls && bitOf s.mem.fence 12) then .next s
    else .next (s.endScrub c (c.params.length / codewordBytes cls) 0 found)

end Sys2Proof.Machine
end

