-- ==== Sys2Proof/Machine/Customs.lean ====
section
/-! DEFINITION. Customs: tenants, key slots, job keys, consent, attestation, the removal of a tenant, and the scans of its
key store (R304 to R333). -/

namespace Sys2Proof.Machine

/-- A tenant that is present or revoking. -/
def State.tenant (s : State) (t : Nat) : Option Tenant := Map.get? s.customs.tenants t

/-- A tenant's record set. -/
def State.setTenant (s : State) (t : Nat) (x : Tenant) : State :=
  { s with customs := { s.customs with tenants := Map.set s.customs.tenants t x } }

/-- A key slot. -/
def State.keySlot (s : State) (n : Nat) : KeySlot := (Map.get? s.customs.slots n).getD (KeySlot.reset n)

/-- A key slot set. -/
def State.setKeySlot (s : State) (n : Nat) (x : KeySlot) : State :=
  { s with customs := { s.customs with slots := Map.set s.customs.slots n x } }

/-! ## The service port (R328) -/

/-- The condition under which the service port is open (R328). -/
def State.portMayOpen (s : State) : Bool :=
  let guests := s.customs.tenants.filter fun p => p.1 ≠ 0 && p.2.state = 1
  let owner := (s.tenant 0).getD Tenant.owner
  (bitOf owner.consent 2 && guests.all fun p => bitOf p.2.consent 2) || (guests.isEmpty && owner.publicKey.isNone)

/-- The port opens or closes with its condition, with one event at each change (R328). -/
def State.checkPort (s : State) : State :=
  let open_ := s.portMayOpen
  if open_ = s.customs.servicePort then s
  else ({ s with customs := { s.customs with servicePort := open_ } } : State).event 0 0x0605 0 (bit open_)

/-! ## ADD_TENANT (R310) -/

/-- The free slot of the lowest generation, then of the lowest number (R308). -/
def State.freeKeySlot (s : State) : Option (Nat × KeySlot) :=
  (s.customs.slots.filter fun p => p.1 ≠ 0 && p.2.state = 0).foldl (fun best p =>
    match best with
    | none => some p
    | some q => if p.2.generation < q.2.generation then some p else some q) none

/-- RESULT0 of ADD_TENANT: the slot and its GENERATION (R310). -/
def addResult (slot generation : Nat) : Nat := slot + 65536 * generation

/-- ADD_TENANT once started (R310). -/
def addTenantRun (h : Hdr) (t hbmQuota wayQuota point : Nat) (c : CmdRef) (s : State) : State :=
  if t > 63 || payloadBytes h < 128 then s.reply c Status.badParam 0 0
  else if t = 0 then
    let x := (s.tenant 0).getD Tenant.owner
    if x.publicKey.isSome then s.reply c Status.notPermitted 0 0
    else if !Config.onCurve point then s.reply c Status.badParam 0 0
    else
      let s := s.setTenant 0 { x with publicKey := some point, hbmQuota := hbmQuota, wayQuota := wayQuota }
      s.checkPort.reply c Status.done (addResult 0 (s.keySlot 0).generation) 0
  else if (s.tenant t).isSome then s.reply c Status.notPermitted 0 0
  else if !Config.onCurve point then s.reply c Status.badParam 0 0
  else
    match s.freeKeySlot with
    | none => s.reply c Status.noKeySlot 0 0
    | some (n, slot) =>
      let (f, s) := s.draw
      let s := s.setKeySlot n { slot with state := 1, pageKey := Config.randomKey f, tenant := some t, lateWrites := 0 }
      let s := s.setTenant t
        { state := 1, slot := n, publicKey := some point, consent := 0, consentCounter := 0, hbmQuota := hbmQuota,
          wayQuota := wayQuota, job := none, oldJob := none, removal := none }
      s.checkPort.reply c Status.done (addResult n slot.generation) 0

/-- ADD_TENANT (R310). -/
def execAddTenant (h : Hdr) (tenant hbmQuota wayQuota point : Nat) (s : State) : Host.Outcome State Fault Refusal :=
  .next (s.cmd 0x0601 h (addTenantRun h tenant hbmQuota wayQuota point))

/-! ## Removal (R329, R330) -/

/-- Commands of a tenant's objects that still wait for a reply: context waiters and moves, stream and session closings,
route drops, loads with the discards behind them, and work on its bays. -/
def State.waitingRefs (s : State) (t : Nat) : List CmdRef :=
  let ofWaiter := fun w : Waiter => match w with
    | .fork c _ => some c
    | .pause c _ => some c
    | .resume c => some c
    | .close c => some c
    | .branch c _ _ _ _ _ => some c
    | .object _ _ _ => none
  let ctxs := (s.ctxs.ctx.filter fun p => p.2.tenant = t).flatMap fun p => p.2.move.toList ++ p.2.waiters.filterMap ofWaiter
  let streams := (s.video.streams.filter fun p => p.2.tenant = t).flatMap fun p => p.2.closing.toList
  let sessions := (s.video.sessions.filter fun p => p.2.tenant = t).flatMap fun p => p.2.closing.toList
  let routes := (s.reqs.routes.filter fun p => p.2.tenant = t).flatMap fun p => p.2.dropping
  let loads := (s.bays.loads.filter fun j => j.tenant = t).flatMap fun j => j.ref :: j.discards.map (·.1)
  let jobs := (s.bays.bay.filter fun p => p.2.owner = t).flatMap fun p => p.2.jobs.filterMap (·.ref)
  ctxs ++ streams ++ sessions ++ routes ++ loads ++ jobs

/-- Contexts of a tenant closed, whatever they wait for (R330). -/
def State.closeContexts (s : State) (t : Nat) : State :=
  (s.ctxs.ctx.filter fun p => p.2.tenant = t).foldl (fun s p =>
    let s := (s.releaseCtx p.2).1
    let s : State := { s with ctxs := { s.ctxs with
      ctx := Map.erase s.ctxs.ctx p.1,
      freedIds := if p.2.family = p.1 then s.ctxs.freedIds else s.ctxs.freedIds ++ [p.1] } }
    (s.leaveFamily p.2.family).clearRecord 0x0004 0 0 p.1 0) s

/-- A tenant's routes, templates, tracks, action streams, sessions and streams deleted (R330). -/
def State.dropObjects (s : State) (t : Nat) : State :=
  let s := (s.video.streams.filter fun p => p.2.tenant = t).foldl (fun s p => s.freeStream p.1) s
  let gone := (s.reqs.routes.filter fun p => p.2.tenant = t).map (·.1)
  { s with
    reqs := { s.reqs with
      routes := s.reqs.routes.filter fun p => p.2.tenant ≠ t,
      templates := s.reqs.templates.filter fun p => p.2.tenant ≠ t },
    mls := { s.mls with
      tracks := s.mls.tracks.filter fun p => p.2.tenant ≠ t,
      streams := s.mls.streams.filter fun p => p.2.tenant ≠ t },
    video := { s.video with
      sessions := s.video.sessions.filter fun p => p.2.tenant ≠ t,
      crops := s.video.crops.filter fun j => !gone.contains j.route } }

/-- Library flash bales of a tenant deleted, or passed to tenant 0 (R330). -/
def State.dropLibrary (s : State) (t : Nat) (keep : Bool) : State :=
  let l := s.persist.library
  { s with persist := { s.persist with
    library := if keep then l.map fun p => if p.2.1 = t then (p.1, (0, p.2.2)) else p
      else l.filter fun p => p.2.1 ≠ t } }

/-- An armed flip-mask aimed at a tenant's data clears with REFUSED set (R327, R270). -/
def State.dropFlip (s : State) (t : Nat) : State :=
  if s.mem.flipArm && !s.mem.flipAny && s.dataOwner s.mem.flipClass s.mem.flipUnit s.mem.flipAddr = t then s.refuseFlip else s

/-- Steps 1 to 5 of a removal, with the removal of the tenant's objects: the slot enters quarantine with its keys destroyed
(R329, R330). -/
def State.removeTenant (s : State) (t : Nat) (ref : Option CmdRef) (keep : Bool) : State :=
  match s.tenant t with
  | none => s
  | some x =>
    let frames := s.held t 0 + s.held t 1
    let s := s.setTenant t { x with state := 2 }
    let s := s.setKeySlot x.slot { s.keySlot x.slot with state := 2 }
    let waiting := s.waitingRefs t
    let s := (s.liveReqs.filter fun r => r.tenant = t).foldl (fun s r => s.cancelReq r Status.tenantRevoked) s
    let s := waiting.foldl (fun s c => s.reply c Status.tenantRevoked 0 0) s
    let s := (s.mls.ledger.filter fun e => e.tenant = t && !s.hasLaunched e).foldl (fun s e => s.endEntry e 8) s
    let sent := s.escort.role = 1 && s.escort.copying
    let marker := if sent then some s.escort.txSeq else none
    let s := s.sendMarker (.revoke t)
    let s := s.dropFlip t
    let s := ((s.dropObjects t).closeContexts t).dropLibrary t keep
    let s : State := { s with bays := { s.bays with
      loads := s.bays.loads.filter fun j => j.tenant ≠ t,
      bay := s.bays.bay.map fun p => if p.2.owner = t then (p.1, { p.2 with jobs := [] }) else p } }
    let s := s.setTenant t { x with
      state := 2, publicKey := none, consent := 0, job := none, oldJob := none,
      removal := some { ref := ref, frames := frames, marker := marker, unconfirmed := s.escort.role = 1 && !sent } }
    (s.setKeySlot x.slot { s.keySlot x.slot with state := 3, pageKey := 0 }).checkPort

/-- REMOVE_TENANT once started (R329, R333). -/
def removeTenantRun (t : Nat) (keep : Bool) (c : CmdRef) (s : State) : State :=
  if t = 0 || t > 63 then s.reply c Status.badParam 0 0
  else
    match s.tenant t with
    | none => s.reply c Status.badParam 0 0
    | some x => if x.state = 2 then s.reply c Status.tenantRevoked 0 0 else s.removeTenant t (some c) keep

/-- REMOVE_TENANT (R329). -/
def execRemoveTenant (h : Hdr) (tenant : Nat) (keepLibrary : Bool) (s : State) : Host.Outcome State Fault Refusal :=
  .next (s.cmd 0x0602 h (removeTenantRun tenant keepLibrary))

/-- No convoy of a tenant's bays is in a stage any longer (R330). -/
def State.baysIdle (s : State) (t : Nat) : Bool :=
  s.bays.bay.all fun p => p.2.owner ≠ t || p.2.ahead.isEmpty

/-- The partner has acknowledged the revoke marker, or none is awaited from it any longer (R329, R330). -/
def State.markerSettled (s : State) (r : Removal) : Bool :=
  match r.marker with
  | none => true
  | some q => q ≤ s.escort.acked || !s.escort.linkUp || !s.escort.copying

/-- A removed tenant's bays emptied and zeroed; they stay defined under tenant 0 (R330, R96). -/
def State.passBays (s : State) (t : Nat) : State :=
  let mine := (s.bays.bay.filter fun p => p.2.owner = t).map (·.1)
  let s := mine.foldl (fun s n =>
    (s.emptyBay n).modBay n fun b => { b with owner := 0, commits := [], nextSettings := none }) s
  let staged := (s.bays.staged.filter fun p => p.2.tenant = t).map (·.1)
  (staged.foldl State.discardStaging s).zeroForeign

/-- Frames that a removed tenant still held return to the pool (R330). -/
def State.freeTenant (s : State) (t : Nat) : State :=
  ((s.ctxs.frames.filter fun p => p.2.tenant = t && p.2.state ≠ 5).map (·.1)).foldl State.freeNow s

/-- A key slot leaves quarantine: FREE with GENERATION + 1, or RETIRED when it is 0xFFFF (R309). -/
def State.releaseSlot (s : State) (n : Nat) : State :=
  let k := s.keySlot n
  if k.generation = 0xFFFF then (s.setKeySlot n { k with state := 4, tenant := none }).event 0 0x0604 n 0
  else s.setKeySlot n { k with state := 0, tenant := none, generation := k.generation + 1 }

/-- Every engine reports drained: the removal ends, with `lateWrites` writes dropped meanwhile (R329, R330). -/
def execSlotQuarantineEnd (slot lateWrites : Nat) (s : State) : Host.Outcome State Fault Refusal :=
  match (s.keySlot slot).tenant with
  | none => .next s
  | some t =>
    match s.tenant t with
    | none => .next s
    | some x =>
      match x.removal with
      | none => .next s
      | some r =>
        if (s.keySlot slot).state ≠ 3 || !s.baysIdle t || !s.markerSettled r then .next s
        else
          let s := (s.passBays t).freeTenant t
          let s := s.count 0x0060 t 0 0 0 32 lateWrites
          let s := s.releaseSlot slot
          let g := (s.keySlot slot).generation
          let s := s.logAdd 0x10 255 255 t true (leBytes 1 t ++ leBytes 1 slot ++ leBytes 2 g ++ leBytes 8 lateWrites)
          let s := s.event 0 0x0601 t (slot + 256 * g)
          let unconfirmed := r.unconfirmed || r.marker.any fun q => s.escort.acked < q
          let s : State := { s with customs := { s.customs with tenants := Map.erase s.customs.tenants t } }
          let s := s.checkPort
          .next (match r.ref with
            | none => s
            | some c => s.reply c Status.done (r.frames + (if unconfirmed then 2 ^ 63 else 0))
                (s.stat (statKey 0x0060 t 0 0 0 32)))

/-! ## Job keys (R315 to R318) -/

/-- A command string that a tenant signs, as ASCII bytes. -/
def ascii (l : List Nat) : List Byte := l.map (BitVec.ofNat 8)

/-- "VN9A-JOBKEYS" (R315). -/
def jobKeysString : List Byte := ascii [0x56, 0x4E, 0x39, 0x41, 0x2D, 0x4A, 0x4F, 0x42, 0x4B, 0x45, 0x59, 0x53]

/-- "VN9A-CONSENT" (R327). -/
def consentString : List Byte := ascii [0x56, 0x4E, 0x39, 0x41, 0x2D, 0x43, 0x4F, 0x4E, 0x53, 0x45, 0x4E, 0x54]

/-- The message a tenant signs for SET_JOB_KEYS (R315). -/
def jobMessage (t gen : Nat) (payload : List Byte) : List Byte :=
  jobKeysString ++ leBytes 4 Config.serial ++ leBytes 1 t ++ leBytes 2 gen ++ slice 0 192 payload

/-- The message a tenant signs for SET_CONSENT (R327). -/
def consentMessage (t gen : Nat) (payload : List Byte) : List Byte :=
  consentString ++ leBytes 4 Config.serial ++ leBytes 1 t ++ leBytes 2 gen ++ slice 0 16 payload

/-- "VN9A-WRAP" (R315). -/
def wrapSalt : List Byte := beBytes 9 0x564E39412D57524150

/-- The wrap key of a SET_JOB_KEYS: HKDF from the ECDH product of EPHEMERAL and the module identity key, with info SERIAL, TENANT
and JOB_GEN (R315). -/
def wrapKey (seed t gen : Nat) (payload : List Byte) : Nat :=
  Config.hkdfExpand (Config.hkdfExtract wrapSalt (Config.ecdhX seed (beNat (slice 0 97 payload))))
    (leBytes 4 Config.serial ++ leBytes 1 t ++ leBytes 2 gen) 32

/-- The job secret J that a SET_JOB_KEYS payload wraps, none when TAG fails: an initial value of zero, and payload bytes 0 to 127 as
additional data (R315). -/
def unwrapJob (seed t gen : Nat) (payload : List Byte) : Option Nat :=
  Config.gcmOpen (wrapKey seed t gen payload) 0 (slice 0 128 payload) (beNat (slice 128 32 payload))
    (beNat (slice 160 16 payload))

/-- A failed signature counted in the tenant record (R315, R327). -/
def State.badSignature (s : State) (t : Nat) : State := s.count 0x0060 t 0 0 0 40 1

/-- The reserved bytes of a SET_JOB_KEYS payload are 0 (Table 11-4). -/
def jobPayloadOk (payload : List Byte) : Bool :=
  leNat (slice 97 31 payload) = 0 && leNat (slice 178 14 payload) = 0 && leNat (slice 176 2 payload) ≤ 3600

/-- A job installed: the previous one stays accepted for its overlap, and GENERATION takes JOB_GEN (R315, R317, R319). -/
def State.installJob (s : State) (t gen overlap secret : Nat) (x : Tenant) : State :=
  let old := x.job.map fun j => (j.1, j.2, s.up + orDefault overlap 2 * giga)
  let s := s.setTenant t { x with job := some (secret, gen), oldJob := old }
  (s.setKeySlot x.slot { s.keySlot x.slot with generation := gen }).recountAll (some t)

/-- SET_JOB_KEYS once started (R315). -/
def setJobKeysRun (h : Hdr) (gen : Nat) (payload : List Byte) (c : CmdRef) (s : State) : State :=
  match s.tenant h.fn with
  | none => s.reply c Status.notPermitted 0 0
  | some x =>
    match x.publicKey with
    | none => s.reply c Status.notPermitted 0 0
    | some key =>
      let now := (s.keySlot x.slot).generation
      if now = 0xFFFF then s.reply c Status.noKeySlot 0 0
      else if gen ≤ now || gen > 0xFFFF || payloadBytes h < 288 || !jobPayloadOk payload then s.reply c Status.badParam 0 0
      else if !Config.ecdsaOk key (jobMessage h.fn gen payload) (beNat (slice 192 96 payload)) then
        (s.badSignature h.fn).reply c Status.notPermitted 0 0
      else
        match unwrapJob s.fuses.identitySeed h.fn gen payload with
        | none => s.reply c Status.badParam 0 0
        | some secret =>
          (s.installJob h.fn gen (leNat (slice 176 2 payload)) secret x).reply c Status.done gen 0

/-- SET_JOB_KEYS (R315). -/
def execSetJobKeys (h : Hdr) (jobGen : Nat) (payload : List Byte) (s : State) : Host.Outcome State Fault Refusal :=
  .next (s.cmd 0x0603 h (setJobKeysRun h jobGen payload))

/-- OVERLAP after a job the previous job's keys are destroyed (R315, Table 11-6). -/
def execJobKeyOverlapEnd (tenant : Nat) (s : State) : Host.Outcome State Fault Refusal :=
  match s.tenant tenant with
  | none => .next s
  | some x =>
    match x.oldJob with
    | some (_, _, till) => .next (if till ≤ s.up then s.setTenant tenant { x with oldJob := none } else s)
    | none => .next s

/-! ## Consent (R326, R327) -/

/-- Flags and counter of a consent take effect (R327). -/
def State.applyConsent (s : State) (t flags counter : Nat) (x : Tenant) : State :=
  let s := s.setTenant t { x with consent := flags, consentCounter := counter }
  let s := if (List.range 8).any fun i => bitOf x.consent i && !bitOf flags i then s.dropFlip t else s
  (s.event2 t 0x0603 t (x.consent + 256 * flags)).checkPort

/-- SET_CONSENT once started (R327). -/
def setConsentRun (h : Hdr) (payload : List Byte) (c : CmdRef) (s : State) : State :=
  match s.tenant h.fn with
  | none => s.reply c Status.notPermitted 0 0
  | some x =>
    let flags := leNat (slice 0 1 payload)
    let counter := leNat (slice 8 8 payload)
    if payloadBytes h < 112 || flags > 7 || leNat (slice 1 7 payload) ≠ 0 then s.reply c Status.badParam 0 0
    else
      match x.publicKey with
      | none => (s.badSignature h.fn).reply c Status.notPermitted 0 0
      | some key =>
        if !Config.ecdsaOk key (consentMessage h.fn (s.keySlot x.slot).generation payload) (beNat (slice 16 96 payload))
        then (s.badSignature h.fn).reply c Status.notPermitted 0 0
        else if counter ≤ x.consentCounter then s.reply c Status.badParam 0 0
        else (s.applyConsent h.fn flags counter x).reply c Status.done 0 0

/-- SET_CONSENT (R327). -/
def execSetConsent (h : Hdr) (payload : List Byte) (s : State) : Host.Outcome State Fault Refusal :=
  .next (s.cmd 0x0605 h (setConsentRun h payload))

/-! ## Attestation (R321 to R325) -/

/-- A measurement block: its index and its bytes. -/
def measured (index : Nat) (bytes : List Byte) : List Byte := leBytes 1 index ++ bytes

/-- The block of bay `n` (Table 11-7). -/
def State.bayBlock (s : State) (n : Nat) : List Byte :=
  match s.bay n with
  | none => measured (0x30 + n) (leBytes 50 0)
  | some b => measured (0x30 + n)
      (leBytes 48 ((b.bale.map (·.digest)).getD 0) ++ leBytes 1 b.owner ++ leBytes 1 b.kind)

/-- The block of tenant `n` (Table 11-7). -/
def State.tenantBlock (s : State) (n : Nat) : List Byte :=
  match s.tenant n with
  | none => measured (0x40 + n) (leBytes 52 0)
  | some x => measured (0x40 + n)
      (leBytes 1 1 ++ leBytes 1 x.consent ++ leBytes 2 (s.keySlot x.slot).generation ++
        leBytes 48 (match x.publicKey with | some k => Config.sha384 (leBytes 97 k) | none => 0))

/-- The measurement blocks that a requester sees (Table 11-7, R324). -/
def State.measurements (s : State) (requester : Nat) : List Byte :=
  let parts := (List.range 7).flatMap fun i => measured (2 + i) (leBytes 48 (s.fw.hashes.getD i 0))
  let fw := measured 0x20 (leBytes 1 (bit s.fw.unverified) ++ leBytes 4 s.fw.running)
  let fuses := measured 0x21 (leBytes 1 1 ++ leBytes 1 s.fuses.lifecycle ++ leBytes 1 s.fuses.debugPolicy ++
    (s.fuses.antiRollback.flatMap fun n => leBytes 1 n) ++ leBytes 48 s.fuses.rootKeyHash)
  let pair := measured 0x22 (leBytes 4 s.escort.epoch ++ leBytes 1 s.escort.role ++ leBytes 4 s.escort.partner)
  let bays := (List.range 8).flatMap s.bayBlock
  let tenants := if requester = 0 then (List.range 64).flatMap s.tenantBlock else s.tenantBlock requester
  measured 1 (leBytes 48 Config.bootRomHash) ++ parts ++ fw ++ fuses ++ pair ++ bays ++ tenants

/-- Request codes of the SPDM messages that Customs supports: GET_DIGESTS, GET_CERTIFICATE, CHALLENGE, GET_VERSION,
GET_MEASUREMENTS, GET_CAPABILITIES and NEGOTIATE_ALGORITHMS (R321; codes of DSP0274, log 136). -/
def spdmRequests : List Nat := [0x81, 0x82, 0x83, 0x84, 0xE0, 0xE1, 0xE3]

/-- The SPDM responder: version 1.2 alone, GET_VERSION under version 1.0 as SPDM has it; an ERROR response to any other version
(VersionMismatch) or message (UnsupportedRequest) (R321, R322; log 136). -/
def spdmAnswer (seed : Nat) (transcript message measurements : List Byte) : List Byte :=
  let version := leNat (slice 0 1 message)
  let code := leNat (slice 1 1 message)
  if !spdmRequests.contains code then ascii [0x12, 0x7F, 0x07, code]
  else if version ≠ (if code = 0x84 then 0x10 else 0x12) then ascii [0x12, 0x7F, 0x41, 0]
  else Config.spdmResponse seed transcript message measurements

/-- GET_ATTESTATION once started: the SPDM responder answers one message and keeps the function's connection state
(R321, R322). -/
def getAttestationRun (h : Hdr) (payload : List Byte) (c : CmdRef) (s : State) : State :=
  let len := leNat (slice 0 4 payload)
  if payloadBytes h < 20544 || !within len 4 4096 then s.reply c Status.badParam 0 0
  else
    let f := s.fn h.fn
    let message := slice 64 len payload
    let response := (spdmAnswer s.fuses.identitySeed f.spdm message (s.measurements h.fn)).take 16384
    let s := s.setFn h.fn { f with spdm := f.spdm ++ message ++ response }
    (s.writePayload h.fn c.spans 4160 response).reply c Status.done response.length 0

/-- GET_ATTESTATION (R322). -/
def execGetAttestation (h : Hdr) (payload : List Byte) (s : State) : Host.Outcome State Fault Refusal :=
  .next (s.cmd 0x0604 h (getAttestationRun h payload))

/-- An SPDM request on the I3C management bus, which serves tenant 0; it waits while Customs firmware restarts (R321,
R333). -/
def execSpdmRequest (message : List Byte) (s : State) : Host.Outcome State Fault Refusal :=
  if s.customs.restarting then .next s
  else
    let response := spdmAnswer s.fuses.identitySeed s.customs.spdm message (s.measurements 0)
    let s : State := { s with customs := { s.customs with spdm := s.customs.spdm ++ message ++ response } }
    .next (s.emit (.spdm response))

/-! ## The scan of the key store and the loader (R307) -/

/-- Both copies of a slot have failed: its tenant is removed, and one event is raised (R307). -/
def State.slotFailed (s : State) (n : Nat) : State :=
  let t := ((s.keySlot n).tenant).getD 0
  let s := if t ≠ 0 && (s.keySlot n).state = 1 then s.removeTenant t none false else s
  s.event 0 0x0606 n t

/-- One scan of the key store and the loader SRAM (R307): a word that fails in one copy is rewritten from the other, which
changes no value; both copies lost remove the tenant; a loader that NOR cannot mend bars activation until power-on. -/
def execKeyStoreScan (_oneCopy bothCopies : List Nat) (loaderBad loaderNorOk : Bool) (s : State) :
    Host.Outcome State Fault Refusal :=
  let s := (bothCopies.filter fun n => n < 128).foldl State.slotFailed s
  .next (if loaderBad && !loaderNorOk then { s with customs := { s.customs with loaderBad := true } } else s)

end Sys2Proof.Machine
end

