-- ==== Sys2Proof/Machine/Copy.lean ====
section
/-! DEFINITION. What crosses the escort link: the bulk state that an active sends at a resync, and how a partner applies the
records it receives (R341, R342, R344, R345, R358, R420). -/

namespace Sys2Proof.Machine

/-! ## Epoch and health (R335, R337) -/

/-- The pair epoch set and stored in library flash (R337); sequence counts restart with it (R319). -/
def State.setEpoch (s : State) (n : Nat) : State :=
  ({ s with escort := { s.escort with epoch := n }, persist := { s.persist with epoch := n } } : State).recountAll none

/-- The resync of the partner is in progress. -/
def State.resyncing (s : State) : Bool := match s.escort.job with | some (.resync _ _ _) => true | _ => false

/-- The health of the pair (R335): COVERED and DEGRADED while the copy runs to an escort, ALONE while the active hears it on neither path
and has fenced its lines (Table 12-8), RESYNC during the bulk transfer. -/
def State.pairHealth (s : State) : Nat :=
  let e := s.escort
  if e.role = 0 then 0
  else if e.copying && (e.role = 2 || (e.role = 1 && e.partnerRole = 2 && !s.resyncing && !s.mls.fenceSelf)) then
    (if e.linkUp && !e.mgmtLost then 1 else 2)
  else if e.copying && (e.role = 4 || (e.role = 1 && s.resyncing)) then 4
  else 3

/-- The pair's health brought up to date. -/
def State.settleHealth (s : State) : State := s.setPair s.escort.role s.pairHealth 0

/-! ## Dropping copied state (R337, R420) -/

/-- A copied request dropped: its slot and its frames return, and nothing is written for it (R345). -/
def State.dropReq (s : State) (r : Req) : State :=
  ((s.unmask r).releaseReq r Status.cancelled).returnSlot r

/-- Copied requests and contexts dropped. -/
def State.dropCopied (s : State) : State :=
  let s := s.liveReqs.foldl State.dropReq s
  (s.customs.tenants.map (·.1)).foldl State.closeContexts s

/-- The module becomes DETACHED: its ledger is discarded and its copied state dropped (Table 12-1, R420). -/
def State.detach (s : State) (reason : Nat) : State :=
  let s := s.discardLedger.dropCopied
  ({ s with escort := { s.escort with
    copying := false, held := [], toApply := [], job := none, shadow := none } } : State).setPair 4 3 reason

/-! ## The bulk transfer (R358) -/

/-- Positions at the front of two page tables that lie in the same frames. -/
def sharedPositions (g : Option (Nat × Nat × Nat × Nat)) (a b : List (List Nat)) (len : Nat) : Nat :=
  let same := ((a.headD []).zip (b.headD [])).takeWhile fun p => p.1 = p.2
  min len (same.length * geomNpf g)

/-- The K and V items of a history from position `first` on, layer by layer. -/
def State.bulkKv (s : State) (name : Nat) (g : Option (Nat × Nat × Nat × Nat)) (writer first length : Nat)
    (pages : List (List Nat)) (kinds : List Nat) : List BulkItem :=
  match g with
  | none => []
  | some g =>
    if length ≤ first then []
    else (List.range g.2.2.2).map fun layer =>
      .kv { name := name, geometry := g, writer := writer, layer := layer, first := first, kinds := kinds.drop first,
            bytes := (List.range (length - first)).flatMap fun j => s.committedRead g pages (first + j) layer }

/-- The K and V items of positions that lie in tail frames. -/
def State.tailItems (s : State) (name : Nat) (g : Nat × Nat × Nat × Nat) (writer : Nat) (tails kinds : List Nat) (first : Nat) :
    List BulkItem :=
  if kinds.isEmpty then []
  else (List.range g.2.2.2).map fun layer =>
    .kv { name := name, geometry := g, writer := writer, layer := layer, first := first, kinds := kinds,
          bytes := (List.range kinds.length).flatMap fun j => s.tailRead g tails j layer }

/-- The K and V items of committed positions whose scatter is still to come, from a request's tail frames (R127, R342). -/
def State.bulkTails (s : State) (r : Req) : List BulkItem :=
  let g := s.historyGeometry r
  let name := if r.branch.isSome then 2 ^ 32 + r.id else r.context
  let writer := ((s.baleOf r.bay r.bale).map (·.digest)).getD 0
  let n := (s.history r).1
  s.tailItems name g writer r.scatTails r.scattering n ++
    s.tailItems name g writer r.tails r.toScatter (n + r.scattering.length)

/-- The context listed before `n` that shares most positions with it. -/
def State.sharer (s : State) (n : Nat) (x : Ctx) : Option (Nat × Nat) :=
  let earlier := s.ctxs.ctx.filter fun p => p.1 < n && p.2.family = x.family && p.2.state ≠ 4
  earlier.foldl (fun best p =>
    let k := sharedPositions x.geometry p.2.pages x.pages (min p.2.length x.length)
    match best with
    | some (_, m) => if k > m then some (p.1, k) else best
    | none => if k > 0 then some (p.1, k) else none) none

/-- The items of one context. -/
def State.bulkCtx (s : State) (n : Nat) (x : Ctx) : List BulkItem :=
  let share := s.sharer n x
  let paused := x.state = 2 || x.state = 3
  BulkItem.context
    { id := n, tenant := x.tenant, paused := paused, limit := x.limit, ttl := x.ttl,
      ttlLeft := match x.ttlEnd with | some t => some (t - s.up) | none => x.ttlLeft,
      poisoned := x.poisoned, share := share } ::
    s.bulkKv n x.geometry x.writer ((share.map (·.2)).getD 0) x.length x.pages x.kinds ++
    (match x.flush with | some f => s.tailItems n f.geometry f.writer f.tails f.kinds x.length | none => [])

/-- The items of one request slot. -/
def State.bulkSlot (s : State) (r : Req) : List BulkItem :=
  match r.branch with
  | none => .slot (r.slotCopy 0) :: s.bulkTails r
  | some b =>
    let shared := match s.ctx r.context with
      | some x => sharedPositions b.geometry x.pages b.pages (min x.length b.length)
      | none => 0
    .slot (r.slotCopy shared) :: s.bulkKv (2 ^ 32 + r.id) b.geometry b.writer shared b.length b.pages b.kinds ++
      s.bulkTails r

/-- The parameters of a bay. -/
def Bay.params (n : Nat) (b : Bay) : BayParams :=
  { bay := n, kind := b.kind, sliceMask := b.sliceMask, tol := b.tol, perString := b.share, swapMode := b.swapMode,
    autoSwap := b.autoSwap, owner := b.owner, minDwell := b.minDwell }

/-- Everything a resync sends, in order (R358). -/
def State.bulkItems (s : State) (shadow : Option ShadowParams) : List BulkItem :=
  let tenants := (s.customs.tenants.filter fun p => p.1 ≠ 0 && p.2.state = 1).map fun p =>
    (p.1, p.2.publicKey, p.2.hbmQuota, p.2.wayQuota)
  [.start tenants (s.bays.bay.map (·.1)) s.mls.cfg s.escort.rule s.escort.nLink s.escort.nMgmt] ++
  ((s.bays.staged.filter fun p => p.2.tier ≠ 2).map fun p => .bale p.1 p.2.tenant p.2.tier p.2.bale) ++
  (s.bays.bay.map fun p => .bay (p.2.params p.1) p.2.policy p.2.seated) ++
  (s.reqs.templates.map fun p => .template p.1 p.2.tenant p.2.body) ++
  (s.mls.tracks.map fun p => .track p.1 p.2.tenant p.2.params) ++
  (s.mls.streams.map fun p => .action p.1 p.2.tenant p.2.nextSeq p.2.params) ++
  ((s.video.streams.filter fun p => p.2.closing.isNone).map fun p => .stream p.1 p.2.tenant p.2.params) ++
  ((s.video.sessions.filter fun p => p.2.closing.isNone).map fun p => .session p.1 p.2.tenant p.2.params) ++
  ((s.ctxs.ctx.filter fun p => p.2.state ≠ 4).flatMap fun p => s.bulkCtx p.1 p.2) ++
  ((s.reqs.routes.filter fun p => p.2.dropping.isEmpty).map fun p => .route p.1 p.2.tenant p.2.params) ++
  (s.liveReqs.flatMap s.bulkSlot) ++
  (s.mls.ledger.map fun e => .entry e) ++ [.last shadow]

/-- Bytes of a bulk item in the transmit retention. -/
def bulkBytes (i : BulkItem) : Nat :=
  match i with
  | .bale _ _ _ b => 64 + b.bytes.length
  | .kv x => 64 + x.bytes.length
  | .entry _ => 328
  | _ => 64

/-! ## Copied KV and slots on the partner (R342) -/

/-- The first frames of a page table that hold `n` positions. -/
def prefixPages (pages : List (List Nat)) (g : Option (Nat × Nat × Nat × Nat)) (n : Nat) : List (List Nat) :=
  pages.map fun l => l.take (ceilDiv n (geomNpf g))

/-- Bytes of one layer's positions written into frames made ready for them. -/
def State.writeLayer (s : State) (x : KvCopy) (tenant family ctx : Nat) (pages : List (List Nat)) :
    Option (List (List Nat) × State) :=
  let per := npf x.geometry.2.1 x.geometry.2.2.1
  let row := x.geometry.2.1 * x.geometry.2.2.1
  let n := x.kinds.length
  let at_ := x.first / per
  match s.readyFrames tenant family ctx [] (pages.getD x.layer []) at_ (ceilDiv (x.first + n) per - at_) with
  | none => none
  | some (mine, _, s) =>
    let s := (List.range n).foldl (fun s j =>
      let k := x.first + j
      let page := mine.getD (k / per) 0
      (s.pageWrite page (k % per * row) (slice (2 * row * j) row x.bytes)).pageWrite page (32768 + k % per * row)
        (slice (2 * row * j + row) row x.bytes)) s
    let room := pages ++ List.replicate (x.geometry.2.2.2 - pages.length) []
    (s.growTables tenant 64).map fun s => (room.set x.layer mine, s)

/-- Prefill that a committed step has consumed leaves the copied slot. -/
def State.consumePrefill (s : State) (name n : Nat) : State :=
  let mine := fun r : Req => if name < 2 ^ 32 then r.context = name && r.branch.isNone else r.id = name - 2 ^ 32
  match s.liveReqs.find? mine with
  | some r => s.setReq { r with prefill := r.prefill.drop n }
  | none => s

/-- Copied positions of one layer appended to a context or branch; the length follows with the last layer. None: it cannot be
applied (R342, R420). -/
def State.appendKv (s : State) (x : KvCopy) : Option State :=
  let last := x.layer + 1 = x.geometry.2.2.2
  if x.name < 2 ^ 32 then
    match s.ctx x.name with
    | none => none
    | some c =>
      if c.length ≠ x.first then none
      else
        (s.writeLayer x c.tenant c.family x.name c.pages).map fun (pages, s) =>
          s.setCtx x.name { c with
            pages := pages, geometry := some (c.geometry.getD x.geometry),
            writer := if c.geometry.isSome then c.writer else x.writer,
            length := if last then c.length + x.kinds.length else c.length,
            kinds := if last then c.kinds ++ x.kinds else c.kinds }
  else
    match s.request (x.name - 2 ^ 32) with
    | none => none
    | some r =>
      match r.branch with
      | none => none
      | some b =>
        if b.length ≠ x.first then none
        else
          (s.writeLayer x r.tenant b.family r.context b.pages).map fun (pages, s) =>
            s.setReq { r with branch := some { b with
              pages := pages, geometry := some (b.geometry.getD x.geometry),
              writer := if b.geometry.isSome then b.writer else x.writer,
              length := if last then b.length + x.kinds.length else b.length,
              kinds := if last then b.kinds ++ x.kinds else b.kinds } }

/-- A copied slot made a request of the partner. None: its context is not held. -/
def State.addSlot (s : State) (x : SlotCopy) : Option State :=
  match s.ctx x.context with
  | none => none
  | some c =>
    let branch : Option Branch := x.branch.map fun b =>
      { length := b.2, limit := b.1, family := c.family, geometry := c.geometry, writer := c.writer,
        pages := prefixPages c.pages c.geometry b.2, kinds := c.kinds.take b.2 }
    let s := s.takeSlotOf x.id
    let s := match branch with | some b => (s.addRefs b.pages.flatten).joinFamily b.family | none => s
    let r : Req :=
      { id := x.id, state := if x.suspended then 3 else if x.steps = 0 then 0 else 2, suspendedFrom := if x.steps = 0 then 0 else 2,
        tenant := x.tenant, route := x.route, context := x.context, branch := branch, template := x.template,
        tmpl := x.tmpl, bay := x.tmpl.bay, bale := x.bale, prefill := x.prefill, nAct := x.nAct, target := x.target,
        stream := x.stream, track := x.track, when_ := x.when_, unformed := x.unformed, lead := x.lead,
        tLaunch16 := if x.target = 1 then some (16 * x.when_.toNat) else none,
        deadline := if x.target = 1 then some (x.when_ - x.lead) else none, seed := x.seed, created := s.up,
        lastCommit := none, sampled := x.sampled, counts := x.counts, drafts := [], depth := x.depth,
        zeroRun := x.zeroRun, fullRun := x.fullRun, aMean := x.aMean, sampleStep := x.sampleStep, steps := x.steps,
        delivered := x.sampled.length, suspect := 0, ttftMiss := false, tbtMiss := false, concealed := x.concealed,
        priority := x.priority, waited := 0, toScatter := [], tails := [], reserved := [], scattering := [], scatTails := [],
        scatReserved := [], layersDone := [], copied := true, poisoned := false,
        order := s.reqs.created, ref := none, spans := [], inputCount := x.prefill.length }
    some (({ s with reqs := { s.reqs with created := s.reqs.created + 1 } } : State).setReq r)

/-- A copied ledger entry inserted; `numbered` where its stream's next SEQUENCE follows it. None: the ledger is full, or the
stream or track is not held (R347, R420). -/
def State.addEntry (s : State) (e : LedgerEntry) (numbered : Bool) : Option State :=
  match s.stream e.stream with
  | none => none
  | some st =>
    if s.ledgerFull || (e.trackBound && !Map.has s.mls.tracks e.track) then none
    else
      let (state, t) := if e.trackBound then armOf (s.entryTime e) else (2, e.tPred16)
      let s := if numbered then s.setStream e.stream { st with nextSeq := nextSequence e.sequence } else s
      some (s.insertEntry { e with state := state, tPred16 := t, loadedPorts := 0 })

/-! ## One convoy's records (R341) -/

/-- The tokens of a committed step join a copied slot (R163, R165). -/
def State.addTokens (s : State) (id : Nat) (toks : List Nat) : Option State :=
  (s.request id).map fun r => s.setReq { r with
    sampled := r.sampled ++ toks, counts := toks.foldl countToken r.counts, sampleStep := r.sampleStep + 1 }

/-- A copied slot's changed fields; one that has ended leaves its slot (R341). -/
def State.addDelta (s : State) (d : ReqDelta) : Option State :=
  match s.request d.request with
  | none => if d.state = 4 then some s else none
  | some r =>
    if d.state = 4 then some (s.dropReq r)
    else some (s.setReq { r with
      state := d.state, steps := d.steps, depth := d.depth, zeroRun := d.zeroRun, fullRun := d.fullRun, aMean := d.aMean,
      ttftMiss := d.ttftMiss, tbtMiss := d.tbtMiss,
      lastCommit := if r.steps < d.steps then some s.up else r.lastCommit })

/-- One record of a convoy applied. None: it cannot be (R420). -/
def State.applyHeld (s : State) (r : CopyRec) : Option State :=
  match r with
  | .convoyBegin bay _ _ => if (s.bay bay).isSome then some s else none
  | .kvAppend x => (s.appendKv x).map fun s =>
      if x.layer + 1 = x.geometry.2.2.2 then s.consumePrefill x.name x.kinds.length else s
  | .tokens id _ toks => s.addTokens id toks
  | .requestDelta d => s.addDelta d
  | .ledgerInsert e => s.addEntry e true
  | _ => some s

/-- Route requests that a convoy first names are created before its other records are applied. -/
def State.addSlots (s : State) (l : List CopyRec) : Option State :=
  l.foldlM (fun s r => match r with
    | .requestDelta d => (match d.slot, s.request d.request with
      | some x, none => if d.state = 4 then some s else s.addSlot x
      | _, _ => some s)
    | _ => some s) s

/-- The held records of a convoy applied together when its CONVOY_END arrives, which counts them (R341). -/
def State.applyConvoy (s : State) (records : Nat) : Option State :=
  let l := s.escort.held
  if l.length ≠ records + 1 then none
  else
    (s.addSlots l).bind fun s =>
      (l.foldlM State.applyHeld s).map fun s => { s with escort := { s.escort with held := [] } }

/-- Whether a record belongs to a tenant's requests (R329 step 4). -/
def State.recordOf (s : State) (t : Nat) (r : CopyRec) : Bool :=
  let mine := fun id : Nat => (s.requestTenant id) = some t
  match r with
  | .kvAppend x => if x.name < 2 ^ 32 then (s.ctx x.name).map (·.tenant) = some t else mine (x.name - 2 ^ 32)
  | .tokens id _ _ => mine id
  | .requestDelta d => mine d.request || (d.slot.any fun x => x.tenant = t)
  | .ledgerInsert e => e.tenant = t
  | _ => false

/-! ## Bulk items on the partner (R358) -/

/-- The partner's tables cleared for a resync; tenants that the active no longer has are removed (R358, R365). -/
def State.bulkStart (s : State) (tenants : List (Nat × Option Nat × Nat × Nat)) (bays : List Nat) (tb : TimebaseParams)
    (rule nLink nMgmt : Nat) : State :=
  let s := s.discardLedger.dropCopied
  let gone := (s.customs.tenants.filter fun p => p.1 ≠ 0 && p.2.state = 1 && !(tenants.any fun t => t.1 = p.1)).map (·.1)
  let s := gone.foldl (fun s t => s.removeTenant t none false) s
  let s := (s.video.streams.map (·.1)).foldl State.freeStream s
  let s := tenants.foldl (fun s t =>
    match s.tenant t.1, s.freeKeySlot with
    | none, some (n, k) =>
      let (f, s) := s.draw
      (s.setKeySlot n { k with state := 1, pageKey := Config.randomKey f, tenant := some t.1, lateWrites := 0 }).setTenant
        t.1 { state := 1, slot := n, publicKey := t.2.1, consent := 0, consentCounter := 0, hbmQuota := t.2.2.1,
              wayQuota := t.2.2.2, job := none, oldJob := none, removal := none }
    | some x, _ => s.setTenant t.1 { x with hbmQuota := t.2.2.1, wayQuota := t.2.2.2 }
    | none, none => s) s
  { s with
    reqs := { s.reqs with routes := [], templates := [], freed := [], nextSlot := 0 },
    mls := { s.mls with tracks := [], streams := [], cfg := tb },
    ctxs := { s.ctxs with freedIds := [], nextId := 1 },
    video := { s.video with sessions := [] },
    bays := { s.bays with bay := s.bays.bay.filter fun p => bays.contains p.1 },
    escort := { s.escort with copying := true, rule := rule, nLink := nLink, nMgmt := nMgmt } }

/-- A staged bale of the active: kept where the partner already holds the same DIGEST (R344). -/
def State.bulkBale (s : State) (handle tenant tier : Nat) (b : Bale) : Option State :=
  match s.stagedBale handle with
  | some g =>
    if g.bale.digest = b.digest && g.tenant = tenant then some s
    else
      let s := s.discardStaging handle
      (s.stageFrames tenant tier b).map fun x => x.2.setStaged handle
        { tenant := tenant, bale := b, tier := tier, library := none, frames := x.1, poisoned := false }
  | none => (s.stageFrames tenant tier b).map fun x => x.2.setStaged handle
      { tenant := tenant, bale := b, tier := tier, library := none, frames := x.1, poisoned := false }

/-- A bay of the active: one that differs is defined anew, and its bale is to be seated; until then it is pending (R344). -/
def State.bulkBay (s : State) (p : BayParams) (policy : PolicyParams) (seated : Option Nat) : Option State :=
  let digest := seated.bind fun h => (s.stagedBale h).map fun g => g.bale.digest
  let same : Bool := match s.bay p.bay with
    | some b => b.kind = p.kind && b.sliceMask = p.sliceMask && b.share = p.perString && b.owner = p.owner &&
        (b.bale.map (·.digest)) = digest
    | none => false
  if same then some (s.modBay p.bay fun b => { b with policy := policy, seated := seated })
  else
    let s := s.emptyBay p.bay
    (allocateBays (Map.set s.bays.bay p.bay { Bay.fresh p with policy := policy }) s.leastWorking).map fun l =>
      let s : State := { s with bays := { s.bays with bay := l } }
      match seated with
      | none => s
      | some h => (s.modBay p.bay fun b => { b with pendingBale := true }).addJob p.bay
          { ref := none, auto := false, handle := some h, preempt := false, discard := false, deleteLibrary := false, started := 0,
            previous := none, stopped := false }

/-- A context of the active. None: the context it shares frames with is not held. -/
def State.bulkContext (s : State) (x : CtxCopy) : Option State :=
  let skipped := (List.range (x.id - s.ctxs.nextId)).map fun i => s.ctxs.nextId + i
  let s : State := { s with ctxs := { s.ctxs with
    nextId := max s.ctxs.nextId (x.id + 1), freedIds := (s.ctxs.freedIds ++ skipped).filter fun n => n ≠ x.id } }
  let fresh := { Ctx.fresh x.tenant x.limit x.id with
    state := if x.paused then 2 else 0, ttl := x.ttl, ttlEnd := x.ttlLeft.map fun t => s.up + t, poisoned := x.poisoned }
  match x.share with
  | none => some ((s.setCtx x.id fresh).joinFamily x.id)
  | some (other, n) => (s.ctx other).map fun c =>
      let pages := prefixPages c.pages c.geometry n
      ((s.addRefs pages.flatten).setCtx x.id { fresh with
        family := c.family, length := n, geometry := c.geometry, writer := c.writer, pages := pages,
        kinds := c.kinds.take n }).joinFamily c.family

/-- The end of a bulk transfer: paused contexts move to the waystation, the fences of DETACHED fall, and the partner becomes
SHADOW or ESCORT (R358). -/
def State.bulkLast (s : State) (shadow : Option ShadowParams) : State :=
  let s := (s.ctxs.ctx.filter fun p => p.2.state = 2).foldl (fun s p =>
    let own := p.2.allPages.filter fun q => (s.frame q).any fun f => f.refs = 1
    let r := s.movePages p.1 1 own
    r.1) s
  let s := (s.setFences s.mls.fenceBreakout s.mls.fenceSelf false).recountAll none
  let s : State := { s with mls := { s.mls with egressClosed := false }, escort := { s.escort with shadow := shadow } }
  match shadow with
  | some _ => s.setPair 3 3 0
  | none => s.setPair 2 (if s.escort.linkUp && !s.escort.mgmtLost then 1 else 2) 0

/-- One bulk item applied. None: it cannot be (R420). -/
def State.applyBulk (s : State) (i : BulkItem) : Option State :=
  match i with
  | .start tenants bays tb rule nLink nMgmt => some ((s.bulkStart tenants bays tb rule nLink nMgmt).setPair 4 4 0)
  | .bale handle tenant tier b => s.bulkBale handle tenant tier b
  | .bay p policy seated => s.bulkBay p policy seated
  | .template n tenant r => some { s with reqs := { s.reqs with
      templates := Map.set s.reqs.templates n { tenant := tenant, body := templateKept r true } } }
  | .track n tenant p => some (s.setTrack n (Track.fresh tenant p))
  | .action n tenant nextSeq p => some (s.setStream n
      { tenant := tenant, params := { p with ringBase := 0, ringEntries := 0 }, nextSeq := nextSeq, renewal := 0,
        renewalRaised := false, producer := 0 })
  | .stream n tenant p => (s.allocFrames tenant 0 1 0 (ceilDiv (streamBytes p) 65536)).map fun x =>
      x.2.setVstream n (VStream.fresh tenant p x.1 s.up)
  | .session n tenant p => some (s.setSession n (Session.fresh tenant p true))
  | .context x => s.bulkContext x
  | .route n tenant p => some { s with reqs := { s.reqs with
      routes := Map.set s.reqs.routes n { tenant := tenant, params := p, dropping := [] } } }
  | .slot x => s.addSlot x
  | .kv x => s.appendKv x
  | .entry e => s.addEntry e false
  | .last shadow => some (s.bulkLast shadow)

end Sys2Proof.Machine
end

