-- ==== Sys2Proof/Machine/Escort.lean ====
section
/-! DEFINITION. The escort engine: pairing, the link, heartbeats and the dead rule, takeover, fences by epoch, shadowing and
the planned swap (R334 to R365, R389, R420). -/

namespace Sys2Proof.Machine

/-! ## Counts of missed heartbeats (R349, R350) -/

/-- missed_link (R349). -/
def State.missedLink (s : State) : Nat := (s.up - s.escort.lastLink) / 50000

/-- missed_mgmt (R349). -/
def State.missedMgmt (s : State) : Nat := (s.up - s.escort.lastMgmt) / 1000000

/-- T_dead in nanoseconds (R350). -/
def State.tDead (s : State) : Nat :=
  let e := s.escort
  if e.rule = 1 && e.mgmtLost then e.nLink * 50000 else max (e.nLink * 50000) (e.nMgmt * 1000000)

/-- The dead rule holds (Table 12-6, R352). -/
def State.deadRuleHolds (s : State) : Bool :=
  let e := s.escort
  (!e.mgmtLost && s.missedLink ≥ e.nLink && s.missedMgmt ≥ e.nMgmt) ||
  (e.rule = 1 && e.mgmtLost && s.missedLink ≥ e.nLink) ||
  (e.leavingSeen && s.missedLink ≥ 1)

/-- The greatest epoch, at which it sticks (R353). -/
def epochMax : Nat := 2 ^ 32 - 1

/-! ## Fences of the pair (R356, R357, R370) -/

/-- The breakout fence follows the role: a breakout without OR_COMBINING bars every line of a paired module (R370). -/
def State.settleBreakout (s : State) : State :=
  let bad := match s.power.breakout with
    | none => true
    | some (orCombining, _) => s.escort.role ≠ 0 && !orCombining
  s.setFences bad s.mls.fenceSelf s.mls.fenceLeave

/-- The self-fence ends (R357). -/
def State.clearSelfFence (s : State) : State :=
  if s.mls.fenceSelf then (s.setFences s.mls.fenceBreakout false s.mls.fenceLeave).event 0 0x0706 0 0 else s

/-- An ACTIVE module that has seen a higher epoch fences itself and becomes DETACHED (R356). -/
def State.fenceByEpoch (s : State) (seen path : Nat) : State :=
  let s := s.setFences s.mls.fenceBreakout s.mls.fenceSelf true
  let s : State := { s with mls := { s.mls with egressClosed := true } }
  let s := s.discardLedger
  let s := (s.bays.bay.map (·.1)).foldl State.abandonConvoys s
  let s := (s.pairAlone.setPair 4 3 0).setEpoch seen
  (s.escRaise 8).event 0 0x0703 seen path

/-! ## The leaving sequence begins (R388) -/

/-- Step 1 of the leaving sequence: LEAVING in the heartbeats, and STATE (R352, R388). -/
def State.startLeaving (s : State) (removal : Bool) (ref : Option CmdRef) : State :=
  { s with
    escort := { s.escort with leaving := true },
    power := { s.power with
      state := if removal then 5 else 4,
      leaving := some { removal := removal, started := s.up, ref := ref, fenced := false, ready := false } } }

/-! ## The planned swap (R361) -/

/-- The old active of a swap becomes ESCORT without fencing, at the epoch that its partner has raised by one; the command
replies, or the leaving sequence that asked for the swap begins (R361, R391). -/
def State.swapDone (s : State) (c : CmdRef) (removal : Bool) : State :=
  let s := s.setEpoch (s.escort.epoch + 1)
  let s : State := { s with escort := { s.escort with
    job := none, partnerRole := 1, retention := [], uncovered := [], held := [], copying := true } }
  let s := (s.setPair 2 1 0).settleHealth
  if removal then s.startLeaving true (some c) else s.reply c Status.done s.escort.epoch 0

/-- Every bay has drained and its last CONVOY_END is covered (R361). -/
def State.swapDrained (s : State) : Bool :=
  (s.bays.bay.all fun p => p.2.ahead.isEmpty && p.2.commits.isEmpty) && s.escort.uncovered.isEmpty

/-- The hand-over of a planned swap: on the active once every bay has drained, on its partner as it raises the epoch and
becomes ACTIVE; its copy does not start while the tolls fence its escort engine (R257, R361). -/
def execPlannedSwapHandover (s : State) : Host.Outcome State Fault Refusal :=
  match s.escort.role, s.escort.job with
  | 1, some (.swap c removal) => .next (if s.swapDrained then s.swapDone c removal else s)
  | 2, _ =>
    if s.escort.health ≠ 1 || !s.escort.held.isEmpty || s.escort.epoch = epochMax then .next s
    else
      let s := s.setEpoch (s.escort.epoch + 1)
      let s : State := { s with escort := { s.escort with
        partnerRole := 2, retention := [], uncovered := [], copying := true, job := none } }
      let s := s.setPair 1 1 0
      .next (if bitOf s.mem.fence 11 then s.pairAlone else s.settleHealth)
  | _, _ => .next s

/-- PROMOTE_ESCORT with OP SWAP once started (R361). -/
def promoteSwapRun (c : CmdRef) (s : State) : State :=
  if s.escort.role ≠ 1 || s.escort.health ≠ 1 || s.escort.epoch = epochMax || s.escort.job.isSome then
    s.reply c Status.notPermitted 0 0
  else { s with escort := { s.escort with job := some (.swap c false) } }

/-- PROMOTE_ESCORT with OP SWAP (R361). -/
def execPromoteEscortSwap (h : Hdr) (s : State) : Host.Outcome State Fault Refusal :=
  .next (s.cmd 0x0704 h promoteSwapRun)

/-! ## Heartbeats received (R348, R349, R354, R356, R357, R389) -/

/-- An epoch seen on a path: 0 link, 1 management (R356, R357, R361). -/
def State.seeEpoch (s : State) (seen path : Nat) : State :=
  let e := s.escort
  if seen > e.epoch then
    if e.role = 1 then
      match e.job with
      | some (.swap c removal) => if seen = e.epoch + 1 then s.swapDone c removal else s.fenceByEpoch seen path
      | _ => s.fenceByEpoch seen path
    else if e.role = 0 then s
    else s.setEpoch seen
  else s.clearSelfFence

/-- What a heartbeat says of the partner: its role, and LEAVING; an active whose partner leaves or holds no copy is ALONE
(R335, R352, R389, R420). -/
def State.seePartner (s : State) (role : Nat) (leaving : Bool) : State :=
  let s : State := { s with escort := { s.escort with
    partnerRole := role, leavingSeen := leaving, partnerLeft := s.escort.partnerLeft || leaving } }
  let lost := leaving || role = 0 || (role = 4 && !s.resyncing)
  if s.escort.role = 1 && lost && (s.escort.copying || s.escort.health ≠ 3) then
    let s := s.pairAlone
    { s with escort := { s.escort with copyStopped := !leaving } }
  else s.settleHealth

/-- A heartbeat of the partner (R349). -/
def State.heartbeat (s : State) (epoch role path : Nat) (leaving : Bool) : State :=
  if s.escort.role = 0 then s else (s.seeEpoch epoch path).seePartner role leaving

/-- A message on the management path: a keep-alive, or the partner's heartbeat (R349). -/
def execMgmtHeartbeatReceive (m : MgmtMsg) (s : State) : Host.Outcome State Fault Refusal :=
  match m with
  | .keepAlive =>
    let s : State := { s with escort := { s.escort with lastKeep := s.up, mgmtLost := false } }
    .next (if s.escort.role = 0 then s else s.settleHealth)
  | .heartbeat serial epoch role _ leaving =>
    if s.escort.role = 0 || serial ≠ s.escort.partner then .next s
    else .next (({ s with escort := { s.escort with lastMgmt := s.up } } : State).heartbeat epoch role 1 leaving)

/-- 3 ms without a keep-alive the management path counts as lost (R349). -/
def execMgmtPathLoss (s : State) : Host.Outcome State Fault Refusal :=
  if s.elapsed s.escort.lastKeep 3000000 && !s.escort.mgmtLost then
    let s : State := { s with escort := { s.escort with mgmtLost := true } }
    .next (if s.escort.role = 0 then s else s.settleHealth)
  else .next s

/-! ## Heartbeats sent (R348) -/

/-- Both heartbeats run: not while the Drover cluster or the escort controller has been out of service for 25 ms, and not
with the rails off or in recovery (R348). -/
def State.heartbeatsRun (s : State) : Bool :=
  s.power.railsOn && s.power.state ≠ 3 && s.escort.role ≠ 0 &&
    !(s.fw.restarting.any fun p => (p.1 = 2 || p.1 = 7) && p.2.2.2 + 25000000 ≤ s.up)

/-- Every 50 µs a HEARTBEAT record goes ahead of queued records; a module that has fenced itself to leave sends none (R348,
R388). -/
def execHeartbeatSend (s : State) : Host.Outcome State Fault Refusal :=
  let gone := s.power.leaving.any fun l => l.fenced
  if s.heartbeatsRun && s.escort.linkUp && !gone && s.elapsed s.escort.sentLink 50000 then
    let s : State := { s with escort := { s.escort with sentLink := s.up } }
    let e := s.escort
    .next (s.emit (.escort (.heartbeat e.epoch e.role e.health e.newestEnd s.now e.leaving)))
  else .next s

/-- Every 1 ms a heartbeat goes to the rack manager (R348). -/
def execMgmtHeartbeatSend (s : State) : Host.Outcome State Fault Refusal :=
  if s.heartbeatsRun && s.elapsed s.escort.sentMgmt 1000000 then
    let s : State := { s with escort := { s.escort with sentMgmt := s.up } }
    .next (s.emit (.mgmtHeartbeat Config.serial s.escort.epoch s.escort.role s.now s.escort.leaving))
  else .next s

/-! ## PAIR_ESCORT (R336, R337) -/

/-- An escort cable module of 8 lanes rated for 106.25 Gb/s each stands in a port (R337). -/
def State.cableOk (s : State) (port : Nat) : Bool :=
  s.escort.cables.any fun c => c.1 = port && c.2.1 = 8 && c.2.2 ≥ 106250

/-- Reply words of PAIR_ESCORT (R337). -/
def State.pairReply (s : State) (c : CmdRef) : State :=
  s.reply c Status.done (s.escort.role + 256 * s.escort.position + 2 ^ 32 * s.escort.partner) s.escort.epoch

/-- The refusal of PAIR_ESCORT, or none (R337). -/
def State.pairRefusal (s : State) (partnerSlot : Nat) (joiner trained spdmOk partnerAsksActive : Bool) (top : Nat) :
    Option Nat :=
  let slotOk := match s.power.slot with
    | some (_, partner, _) => partner = partnerSlot && partnerSlot ≠ 255
    | none => false
  if !slotOk || !s.cableOk 0 || !s.cableOk 1 || !trained then some Status.badParam
  else if !spdmOk || (!joiner && partnerAsksActive) || top ≥ epochMax then some Status.notPermitted
  else none

/-- The LINK_HELLO record that a module sends at a link-up: generation 1 at most and at least, FORMAT 1 (R2, R340). -/
def State.sendHello (s : State) (position random : Nat) : State :=
  s.emit (.escort (.linkHello Config.serial ((s.power.slot.map (·.1)).getD 0) position 1 1 1 random))

/-- A partner's LINK_HELLO leaves a common generation and FORMAT (R340). -/
def helloAgrees (genMax genMin format : Nat) : Bool := genMin ≤ 1 && 1 ≤ genMax && format = 1

/-- Without a common generation and FORMAT the link stays down and PAIR_MISMATCH is raised (R340). -/
def State.helloMismatch (s : State) (genMax format : Nat) : State := s.event 0 0x0707 0 (genMax + 256 * format)

/-- No convoy of a bay is covered any more: the pair begins or ends (Table 06-8). -/
def State.uncoverBays (s : State) : State :=
  { s with bays := { s.bays with bay := s.bays.bay.map fun p => (p.1, { p.2 with covered := 0 }) } }

/-- PAIR_ESCORT with OP PAIR once started: the link is trained and LINK_HELLO records cross it, the generation agreed, the pair key
formed, and the epoch set (R337, R340). Without a common generation and FORMAT the link stays down, so the command replies BAD_PARAM
as for a link that does not train, DEDUCED log 129. -/
def pairRun (joiner : Bool) (partnerSlot partnerSerial epochFloor partnerEpoch : Nat) (partnerHello : PairHello)
    (trained spdmOk partnerAsksActive : Bool) (c : CmdRef) (s : State) : State :=
  let top := max (max s.escort.epoch partnerEpoch) epochFloor
  let position := if (s.power.slot.map (·.1)).getD 0 < partnerSlot then 0 else 1
  let refusal := s.pairRefusal partnerSlot joiner trained spdmOk partnerAsksActive top
  if refusal = some Status.badParam then s.reply c Status.badParam 0 0
  else
    let (f, s) := s.draw
    let mine := Config.randomKey f
    let s := s.sendHello position mine
    match refusal with
    | some status => s.reply c status 0 0
    | none =>
      if !helloAgrees partnerHello.genMax partnerHello.genMin partnerHello.format then
        (s.helloMismatch partnerHello.genMax partnerHello.format).reply c Status.badParam 0 0
      else
        let s := if s.escort.copying then s.pairAlone else s
        let s := if joiner then s.discardLedger.dropCopied else s
        let (a, b) := if position = 0 then (mine, partnerHello.random) else (partnerHello.random, mine)
        let (m, n) := if position = 0 then (Config.serial, partnerSerial) else (partnerSerial, Config.serial)
        let s := s.setEpoch (top + 1)
        let s : State := { s with escort := { s.escort with
          position := position, partner := partnerSerial, partnerRole := if joiner then 1 else 4,
          pairKey := Config.pairKey m n a b, randoms := (a, b), linkUp := true, halfPort := none, copying := false,
          leavingSeen := false, partnerLeft := false, copyStopped := false, lastLink := s.up, lastMgmt := s.up, txSeq := 1,
          rxSeq := 0, acked := 0, retention := [], held := [], toApply := [], uncovered := [], covered := 0, owed := [] } }
        (s.uncoverBays.setPair (if joiner then 4 else 1) 3 0).clearSelfFence.settleBreakout.pairReply c

/-- PAIR_ESCORT with OP PAIR (R337). -/
def execPairEscortPair (h : Hdr) (joiner : Bool) (partnerSlot partnerSerial epochFloor partnerEpoch : Nat) (partnerHello : PairHello)
    (trained spdmOk partnerAsksActive : Bool) (s : State) : Host.Outcome State Fault Refusal :=
  .next (s.cmd 0x0701 h (pairRun joiner partnerSlot partnerSerial epochFloor partnerEpoch partnerHello trained spdmOk
    partnerAsksActive))

/-- PAIR_ESCORT with OP UNPAIR once started (R337). -/
def unpairRun (c : CmdRef) (s : State) : State :=
  let s := if s.escort.role = 1 then s.pairAlone
    else if s.escort.role = 0 then s else s.discardLedger.dropCopied
  let s := (s.uncoverBays.setPair 0 0 0).clearSelfFence
  let s : State := { s with
    mls := { s.mls with egressClosed := if s.power.leaving.isSome then s.mls.egressClosed else false },
    escort := { s.escort with
      partner := 0, partnerRole := 0, position := 0, linkUp := false, copying := false, leavingSeen := false,
      partnerLeft := false, held := [], toApply := [], owed := [], shadow := none } }
  let s := if s.power.leaving.isSome then s else s.setFences s.mls.fenceBreakout s.mls.fenceSelf false
  s.settleBreakout.pairReply c

/-- PAIR_ESCORT with OP UNPAIR (R337). -/
def execPairEscortUnpair (h : Hdr) (s : State) : Host.Outcome State Fault Refusal := .next (s.cmd 0x0701 h unpairRun)

/-- SET_DEAD_RULE once started (R350, Table 12-2). -/
def setDeadRuleRun (rule nLink nMgmt : Nat) (c : CmdRef) (s : State) : State :=
  if rule > 1 || nLink > 255 || nMgmt > 255 then s.reply c Status.badParam 0 0
  else
    ({ s with escort := { s.escort with rule := rule, nLink := orDefault nLink 10, nMgmt := orDefault nMgmt 3 } } :
      State).reply c Status.done 0 0

/-- SET_DEAD_RULE (R350). -/
def execSetDeadRule (h : Hdr) (rule nLink nMgmt : Nat) (s : State) : Host.Outcome State Fault Refusal :=
  .next (s.cmd 0x0702 h (setDeadRuleRun rule nLink nMgmt))

/-! ## The link (R338, R340, R371) -/

/-- Sequence numbers of a link that trains anew: what was not acknowledged is numbered from 1 (R340). -/
def State.renumber (s : State) : State :=
  let e := s.escort
  let base := match e.retention with | r :: _ => r.1 | [] => e.txSeq
  let shift := fun q : Nat => q - base + 1
  { s with
    escort := { e with
      retention := e.retention.map fun r => (shift r.1, 0, r.2.2.1, r.2.2.2), txSeq := shift e.txSeq, rxSeq := 0, acked := 0,
      uncovered := e.uncovered.map fun u => (u.1, u.2.1, shift u.2.2.1, u.2.2.2),
      acksDue := e.acksDue.map fun a => (a.1, shift a.2.1, a.2.2) },
    customs := { s.customs with tenants := s.customs.tenants.map fun t =>
      (t.1, { t.2 with removal := t.2.removal.map fun r => { r with marker := r.marker.map shift } }) } }

/-- The link is up with the session randoms of both modules: cells not acknowledged are sent again, and markers owed follow
(R340, R330). -/
def State.linkTrained (s : State) (random : Nat) : State :=
  let (f, s) := s.draw
  let mine := Config.randomKey f
  let pair := if s.escort.position = 0 then (mine, random) else (random, mine)
  let s := (s.sendHello s.escort.position mine).renumber
  let owed := if s.escort.copying && s.escort.role = 1 then s.escort.owed else []
  let s : State := { s with escort := { s.escort with
    randoms := pair, linkUp := true, halfPort := none, lastLink := s.up,
    owed := if owed.isEmpty then s.escort.owed else [] } }
  let s := s.escort.retention.foldl State.sendCell s
  (owed.foldl (fun s r => s.sendRec r 16) s).settleHealth

/-- The link trains and LINK_HELLO records are exchanged; without a common generation and FORMAT it stays down (R340). -/
def execEscortLinkUp (partnerSerial partnerGenMax partnerGenMin partnerFormat partnerRandom : Nat) (s : State) :
    Host.Outcome State Fault Refusal :=
  if s.escort.role = 0 || s.escort.linkUp || partnerSerial ≠ s.escort.partner || s.escort.cables.isEmpty then .next s
  else if !helloAgrees partnerGenMax partnerGenMin partnerFormat then
    let (f, s) := s.draw
    .next ((s.sendHello s.escort.position (Config.randomKey f)).helloMismatch partnerGenMax partnerFormat)
  else .next (s.linkTrained partnerRandom)

/-- The link goes down: records wait in the retention until it trains again, and commands that wait for an acknowledgement reply
with ESCORT_UNCONFIRMED (R162, R338, R365). -/
def State.linkLost (s : State) : State :=
  let due := s.escort.acksDue
  let s : State := { s with escort := { s.escort with linkUp := false, halfPort := none, acksDue := [] } }
  let s := due.foldl (fun s a => s.reply a.1 Status.done (a.2.2.1 + 2 ^ 63) 0) s
  if s.escort.role = 0 then s else s.settleHealth

/-- Every lane of both ports fails (R338, Table 12-8). -/
def execEscortLinkDown (s : State) : Host.Outcome State Fault Refusal :=
  .next (if s.escort.linkUp then s.linkLost else s)

/-- Every lane of one port fails: the link runs at half rate on the other (R338). -/
def execLinkHalf (port : Nat) (s : State) : Host.Outcome State Fault Refusal :=
  if !s.escort.linkUp || port > 1 then .next s
  else
    match s.escort.halfPort with
    | some left => .next (if left = port then s.linkLost else s)
    | none =>
      let s : State := { s with escort := { s.escort with halfPort := some (1 - port) } }
      .next ((s.escRaise 32).event 0 0x0708 port 0)

/-- A cable module is plugged or removed and its CMIS memory read (R371). -/
def execCablePlugEvent (port lanes laneMbps : Nat) (present : Bool) (s : State) : Host.Outcome State Fault Refusal :=
  if port > 1 then .next s
  else
    let rest := s.escort.cables.filter fun c => c.1 ≠ port
    .next { s with escort := { s.escort with cables := if present then rest ++ [(port, lanes, laneMbps)] else rest } }

/-! ## Cells (R339, R340, R341, R346) -/

/-- The initial value of a cell (R339). -/
def cellIv (c : Cell) : Nat := sendIv (bit (c.source ≠ 0)) c.attempt c.seq

/-- A cell's tag holds under the cell key of its KEY (R317, R318, R339). -/
def State.cellTagHolds (s : State) (c : Cell) : Bool :=
  let ok := fun k : Nat => Config.authTag (cellKey k s.escort.randoms) (cellIv c) (cellHeader c ++ c.payload) = c.tag
  if c.key = 0xFF then ok s.escort.pairKey
  else
    let ofJob := fun j : Option (Nat × Nat) => match j with
      | some (secret, gen) => ok (jobKey secret gen labelES 0 c.key)
      | none => false
    c.key < 64 && (ofJob (s.job c.key) || ofJob (s.oldJob c.key))

/-- Convoys that an acknowledgement covers: counted, shown for their bays, and timed (R341, Table 12-9). -/
def State.coverUpTo (s : State) (ack : Nat) : State :=
  let covered := s.escort.uncovered.filter fun u => u.2.2.1 ≤ ack
  let s : State := { s with escort := { s.escort with
    uncovered := s.escort.uncovered.filter fun u => u.2.2.1 > ack,
    covered := min (s.escort.covered + covered.length) statMax,
    coverLag := match covered.getLast? with
      | some u => min (s.up - u.2.2.2) (2 ^ 32 - 1)
      | none => s.escort.coverLag } }
  covered.foldl (fun s u => s.modBay u.1 fun b => { b with covered := u.2.1 }) s

/-- A command that an ACK answers replies with the partner's own count of launches, the next of those reported; a count that no
report gives is free (R161; log 84). -/
def State.replyAcked (s : State) (c : CmdRef) (r0 : Nat) (counted : Bool) (reports : List Nat) : State × List Nat :=
  if !counted then (s.reply c Status.done r0 0, reports)
  else
    match reports with
    | n :: rest => (s.reply c Status.done (r0 + 2 ^ 32 * (n % 65536)) 0, rest)
    | [] =>
      let (f, s) := s.draw
      (s.reply c Status.done (r0 + 2 ^ 32 * (Config.freeNat f % 65536)) 0, [])

/-- An ACK received with the partner's reports: what it covers leaves the retention, and commands that waited for it reply (R161,
R162, R341). -/
def State.takeAck (s : State) (ack : Nat) (reports : List Nat) : State :=
  if ack ≤ s.escort.acked || ack ≥ s.escort.txSeq then s
  else
    let due := s.escort.acksDue.filter fun a => a.2.1 ≤ ack
    let s : State := { s with escort := { s.escort with
      acked := ack, retention := s.escort.retention.filter fun r => r.1 > ack,
      acksDue := s.escort.acksDue.filter fun a => a.2.1 > ack } }
    (due.foldl (fun (x : State × List Nat) (a : CmdRef × Nat × Nat × Bool) => x.1.replyAcked a.1 a.2.2.1 a.2.2.2 x.2)
      (s.coverUpTo ack, reports)).1

/-- Cells that the partner NACKs are sent again; one sent 31 times over takes the link down to train it anew (R340). -/
def State.resend (s : State) (first count : Nat) : State :=
  let hit := s.escort.retention.filter fun r => first ≤ r.1 && r.1 < first + count
  if hit.any fun r => r.2.1 ≥ 31 then s.linkLost
  else
    let s : State := { s with escort := { s.escort with retention := s.escort.retention.map fun r =>
      if first ≤ r.1 && r.1 < first + count then (r.1, r.2.1 + 1, r.2.2) else r } }
    (hit.foldl (fun s r => s.sendCell (r.1, r.2.1 + 1, r.2.2)) s).count 0x0070 0 0 0 0 16 hit.length

/-- The revoke marker reaches the partner: what it has not applied of the tenant is dropped and the tenant removed (R329). -/
def State.applyRevoke (s : State) (t : Nat) : State :=
  let s : State := { s with escort := { s.escort with held := s.escort.held.filter fun r => !s.recordOf t r } }
  if (s.tenant t).any fun x => x.state = 1 then s.removeTenant t none false else s

/-- A request cancelled by the active's marker, with its entries when it recalls them (R160, R161). -/
def State.applyCancel (s : State) (id : Nat) (withRecall : Bool) : State :=
  let s := match s.request id with | some r => s.dropReq r | none => s
  if withRecall then
    let (s, _, launched) := s.recall fun _ _ rq => rq = id
    { s with escort := { s.escort with reports := s.escort.reports ++ [min launched 65535] } }
  else s

/-- Whether a module takes copied records: an escort or shadow, or a DETACHED module in a resync (R334, R420). -/
def State.takesCopy (s : State) : Bool := within s.escort.role 2 3 || (s.escort.role = 4 && s.escort.copying)

/-- A record of a convoy waits for its CONVOY_END (R341). -/
def State.holdRecord (s : State) (r : CopyRec) : State :=
  if s.takesCopy then { s with escort := { s.escort with held := s.escort.held ++ [r] } } else s

/-- One record in cell order (R341). -/
def State.applyRecord (s : State) (r : CopyRec) : State :=
  match r with
  | .pad => s
  | .linkHello _ _ _ _ _ _ _ => s
  | .heartbeat epoch role _ _ _ leaving =>
    ({ s with escort := { s.escort with lastLink := s.up } } : State).heartbeat epoch role 0 leaving
  | .nack first count => s.resend first count
  | .bulk item =>
    let starts := match item with | .start _ _ _ _ _ _ => true | _ => false
    if !(s.takesCopy || (s.escort.role = 4 && starts)) then s
    else match s.applyBulk item with | some s => s | none => s.detach 1
  | .command op tag next =>
    if s.takesCopy then
      { s with escort := { s.escort with toApply := s.escort.toApply ++ [(op, tag, next)] } }
    else s
  | .cancel id withRecall => if s.takesCopy then s.applyCancel id withRecall else s
  | .revoke t => if s.takesCopy then s.applyRevoke t else s
  | .ledgerRemove stream sequence outcome =>
    if s.takesCopy then
      match s.entry stream sequence with
      | some e => if s.inPulse e then s else s.endEntry e outcome
      | none => s
    else s
  | .shadowInput _ _ => s
  | .convoyEnd _ _ n =>
    if s.takesCopy then match s.applyConvoy n with | some s => s | none => s.detach 1
    else s
  | .convoyBegin _ _ _ => s.holdRecord r
  | .kvAppend _ => s.holdRecord r
  | .tokens _ _ _ => s.holdRecord r
  | .requestDelta _ => s.holdRecord r
  | .ledgerInsert _ => s.holdRecord r

/-- The ACK of what has been received, with the counts owed to the active (R161, R341). -/
def State.sendAck (s : State) : State :=
  ({ s with escort := { s.escort with reports := [] } } : State).emit (.ack s.escort.rxSeq s.escort.reports)

/-- A copied record that an escort engine writes to the memories: not a heartbeat, a NACK, filler or a greeting. -/
def isCopied (r : CopyRec) : Bool :=
  match r with
  | .pad => false
  | .linkHello _ _ _ _ _ _ _ => false
  | .heartbeat _ _ _ _ _ _ => false
  | .nack _ _ => false
  | _ => true

/-- A partner whose escort engine the tolls fence cannot apply a copied record (R257, R420; log 133). -/
def State.cannotApply (s : State) (c : Cell) : Bool :=
  s.takesCopy && bitOf s.mem.fence 11 && c.records.any isCopied

/-- A verified cell in its turn: its ACK, then its records (R341); one that carries POISON, or that a fenced escort engine cannot apply,
detaches a partner (R257, R346, R420). -/
def State.applyCell (s : State) (c : Cell) : State :=
  let s := s.takeAck c.ack c.launched
  let s : State := { s with escort := { s.escort with rxSeq := c.seq } }
  let s := if c.poison then (if within s.escort.role 2 4 then s.detach 0 else s)
    else if s.cannotApply c then s.detach 1
    else c.records.foldl State.applyRecord s
  s.sendAck

/-- Where a received cell lies in the receive staging, which follows the transmit retention in the escort copy buffers, its place there
free (R346, Table 09-2; log 137). -/
def stagingAddr (seq : Nat) : Nat := 552000000000 + 15901934592 + 1000000000 + Config.stagingPlace seq % 1000000000

/-- A codeword lies in the receive staging of a cell. -/
def inStaging (seq : Nat) (p : Nat × Nat) : Bool :=
  p.1 = 0 && p.2 < stagingAddr seq + 10280 && stagingAddr seq < p.2 + 32

/-- A cell that is poisoned in the receive staging is NACKed; the cell sent again is written over it (R346). -/
def State.refuseStaged (s : State) (seq : Nat) : State :=
  ({ s with mem := { s.mem with poison := s.mem.poison.filter fun p => !inStaging seq p } } : State).emit (.escort (.nack seq 1))

/-- A cell from the partner (R339, R340, R341, R346). -/
def execEscortCellReceive (c : Cell) (s : State) : Host.Outcome State Fault Refusal :=
  if !s.escort.linkUp || s.escort.role = 0 then .next s
  else
    let next := s.escort.rxSeq + 1
    if !c.fecOk || !s.cellTagHolds c then .next (s.emit (.escort (.nack next 1)))
    else if c.format ≠ 1 || c.ctype > 1 || c.seq < next then .next s.sendAck
    else if c.seq > next then .next (s.emit (.escort (.nack next (c.seq - s.escort.rxSeq))))
    else if s.mem.poison.any (inStaging c.seq) then .next (s.refuseStaged c.seq)
    else .next (s.applyCell c)

/-! ## Death of a module (R350 to R357) -/

/-- The steps of a takeover (Table 12-7): the epoch rises, records of a convoy not ended are discarded, and the requests it
carried go back to BETWEEN. -/
def State.takeOver (s : State) : State :=
  let discarded := (s.escort.held.filter fun r => match r with | .convoyBegin _ _ _ => true | _ => false).length
  let s := s.setEpoch (s.escort.epoch + 1)
  let s : State := { s with
    escort := { s.escort with
      copying := false, copyStopped := false, held := [], toApply := [], retention := [], uncovered := [], job := none,
      shadow := none, leavingSeen := false },
    reqs := { s.reqs with slot := s.reqs.slot.map fun p =>
      if p.2.state = 1 then (p.1, { p.2 with state := 2 }) else p } }
  let s := ((s.setPair 1 3 0).escRaise 4).count 0x0070 0 0 0 0 24 1
  s.event 0 0x0702 s.escort.epoch discarded

/-- The dead rule is judged on an escort: it takes over, unless the epoch is stuck (R350, R353); one that has lost the link
for T_dead while management heartbeats go on is DETACHED (Table 12-8). -/
def execDeadDeclaration (s : State) : Host.Outcome State Fault Refusal :=
  if s.escort.role ≠ 2 then .next s
  else if s.deadRuleHolds then
    if s.escort.epoch = epochMax then
      .next (if s.escort.stuckRaised then s
        else ({ s with escort := { s.escort with stuckRaised := true } } : State).event 0 0x0705 epochMax 0)
    else .next s.takeOver
  else if !s.escort.mgmtLost && s.elapsed s.escort.lastLink s.tDead && s.missedMgmt < s.escort.nMgmt then
    .next (s.detach 0)
  else .next s

/-- An ACTIVE module without its partner's heartbeats: it fences its lines when the link's are missing and its management path
is lost, its partner staying escort and the copy going on into the retention; with that path alive it is ALONE (R357, Table 12-8). A
partner that has sent LEAVING calls for no fence (R389). -/
def execSelfFence (s : State) : Host.Outcome State Fault Refusal :=
  let e := s.escort
  if e.role ≠ 1 || e.partnerLeft then .next s
  else if e.mgmtLost && s.missedLink ≥ e.nLink then
    let s := if s.mls.fenceSelf then s
      else
        (((s.setFences s.mls.fenceBreakout true s.mls.fenceLeave).escRaise 16).event 0 0x0706 0 1)
    .next (if e.copying && e.partnerRole = 2 && e.job.isNone then s.settleHealth
      else if e.copying || s.escort.health ≠ 3 then s.pairAlone else s)
  else if !e.mgmtLost && s.elapsed e.lastLink s.tDead && (e.copying || e.health ≠ 3) then .next s.pairAlone
  else .next s

/-! ## Shadowing (R358 to R360) -/

/-- Parameters of BEGIN_SHADOW with the defaults of Table 12-2. -/
def shadowDefaults (p : ShadowParams) : ShadowParams :=
  { topK := orDefault p.topK 8, window := orDefault p.window 2000000, agreeMin := orDefault p.agreeMin 9850,
    distMax := if F32.isZero p.distMax then 0x3DCCCCCD else p.distMax }

/-- Ranges of BEGIN_SHADOW (Table 12-2). -/
def shadowOk (p : ShadowParams) : Bool :=
  p.topK ≤ 32 && p.window < 2 ^ 32 && p.agreeMin ≤ 10000 && F32.finite p.distMax && !F32.lt p.distMax F32.zero

/-- BEGIN_SHADOW once started: the copy and the bulk transfer begin (R358). -/
def beginShadowRun (p : ShadowParams) (c : CmdRef) (s : State) : State :=
  if !shadowOk p then s.reply c Status.badParam 0 0
  else if s.escort.role ≠ 1 || s.escort.partnerRole ≠ 4 || !s.escort.linkUp || s.escort.job.isSome ||
      bitOf s.mem.fence 11 then
    s.reply c Status.notPermitted 0 0
  else
    let p := shadowDefaults p
    let toShadow := !s.escort.copyStopped
    let s := s.accept c 0 0
    let s : State := { s with escort := { s.escort with
      copying := true, owed := [], partnerLeft := false, job := some (.resync c p toShadow) } }
    let s := s.settleHealth
    let items := s.bulkItems (if toShadow then some p else none)
    let s := s.liveReqs.foldl (fun s r => s.setReq { r with copied := true }) s
    items.foldl (fun s i => s.sendRec (.bulk i) (bulkBytes i)) s

/-- BEGIN_SHADOW (R358). -/
def execBeginShadow (h : Hdr) (p : ShadowParams) (s : State) : Host.Outcome State Fault Refusal :=
  .next (s.cmd 0x0703 h (beginShadowRun p))

/-- The bulk transfer has reached a partner that is now SHADOW, or ESCORT, whose command then ends (R358). -/
def execBulkTransferEnd (s : State) : Host.Outcome State Fault Refusal :=
  let bulkLeft := s.escort.retention.any fun r => match r.2.2.2 with | .bulk _ => true | _ => false
  match s.escort.job with
  | some (.resync c p toShadow) =>
    if bulkLeft || s.escort.role ≠ 1 then .next s
    else if toShadow then
      if s.escort.partnerRole = 3 then
        .next ({ s with escort := { s.escort with job := some (.window c p) } } : State).settleHealth
      else .next s
    else if s.escort.partnerRole = 2 then
      let s : State := { s with escort := { s.escort with job := none, copyStopped := false } }
      .next (s.settleHealth.reply c Status.done 0 0)
    else .next s
  | _ => .next s

/-- Agreement in 0.01 % (R359). -/
def agreement (agree compared : Nat) : Nat := if compared = 0 then 0 else min 10000 (10000 * agree / compared)

/-- Whether a window passes (R359). -/
def windowPasses (p : ShadowParams) (agree compared : Nat) (distance : F32) : Bool :=
  10000 * agree ≥ p.agreeMin * compared && F32.le distance p.distMax

/-- WINDOW convoys have been compared: the active replies with the result, and a shadow that passes becomes ESCORT (R359). -/
def execShadowWindowEnd (agree compared convoys : Nat) (distance : F32) (s : State) : Host.Outcome State Fault Refusal :=
  let result := fun p : ShadowParams => windowPasses p agree compared distance
  let raise := fun (s : State) (p : ShadowParams) =>
    s.event 0 0x0704 0 (bit (result p) + 256 * agreement agree compared)
  match s.escort.role, s.escort.job, s.escort.shadow with
  | 1, some (.window c p), _ =>
    if convoys < p.window then .next s
    else
      let s : State := { s with escort := { s.escort with job := none } }
      .next ((raise s p).reply c Status.done
        (bit (result p) + 65536 * agreement agree compared + 2 ^ 32 * (convoys % 2 ^ 32)) distance.toNat)
  | 3, _, some p =>
    if convoys < p.window then .next s
    else
      let s := raise { s with escort := { s.escort with shadow := none } } p
      .next (if result p then (s.setPair 2 3 0).settleHealth else s)
  | _, _, _ => .next s

/-- A token bale is seated (R360). -/
def State.tokenBaleSeated (s : State) : Bool := s.bays.bay.any fun p => p.2.kind = 0 && p.2.seated.isSome

/-- PROMOTE_ESCORT with OP ADMIT once started: on the shadow itself, or on the active of a shadow, whose window then ends
(R360). -/
def promoteAdmitRun (c : CmdRef) (s : State) : State :=
  if s.tokenBaleSeated then s.reply c Status.notPermitted 0 0
  else if s.escort.role = 3 then
    let s : State := { s with escort := { s.escort with shadow := none } }
    ((s.setPair 2 3 0).settleHealth).reply c Status.done 0 0
  else if s.escort.role = 1 && s.escort.partnerRole = 3 then
    let s := match s.escort.job with
      | some (.window w _) => ({ s with escort := { s.escort with job := none } } : State).reply w Status.done 0 0
      | _ => s
    (s.sendRec (.bulk (.last none)) 64).reply c Status.done 0 0
  else s.reply c Status.notPermitted 0 0

/-- PROMOTE_ESCORT with OP ADMIT (R360). -/
def execPromoteEscortAdmit (h : Hdr) (s : State) : Host.Outcome State Fault Refusal :=
  .next (s.cmd 0x0704 h promoteAdmitRun)

end Sys2Proof.Machine
end

