-- ==== Sys2Proof/Machine/Power.lean ====
section
/-! DEFINITION. Waterbearer: identity records, start and removal, input thresholds, limits and ramps, the thermal ladder and the
leaving sequence (R366 to R399). -/

namespace Sys2Proof.Machine

/-! ## Effective limits (R378, R387, R392) -/

/-- The least of the limits that are set, 0 meaning none. -/
def leastSet (l : List Nat) (top : Nat) : Nat := (l.filter fun x => x ≠ 0).foldl min top

/-- The effective cap in watts (R378). -/
def State.effectiveCap (s : State) : Nat :=
  let p := s.power
  leastSet [(p.slot.map fun r => r.2.2.1).getD 0, p.rackCap, p.hostCap, if p.rungs.contains 1 then 2400 else 0] 3200

/-- The effective up-ramp limit in W/ms (R378). -/
def State.rampUp (s : State) : Nat :=
  let p := s.power
  leastSet [p.hostUp] (if p.rackUp ≠ 0 then p.rackUp else (p.slot.map fun r => r.2.2.2.1).getD 20)

/-- The effective down-ramp limit in W/ms (R378). -/
def State.rampDown (s : State) : Nat :=
  let p := s.power
  leastSet [p.hostDown] (if p.rackDown ≠ 0 then p.rackDown else (p.slot.map fun r => r.2.2.2.2).getD 20)

/-- Cap, up-ramp and down-ramp in one word, as SET_POWER_LIMITS and LIMITS_CHANGED give them (R392, Table 13-18). -/
def State.limitsWord (s : State) : Nat := s.effectiveCap + 2 ^ 16 * s.rampUp + 2 ^ 32 * s.rampDown

/-- A change of an effective limit raises LIMITS_CHANGED (R378). -/
def State.limitsChanged (s : State) (old : Nat) : State :=
  if s.limitsWord = old then s else (s.pwrRaise 0x40).event 0 0x0906 0 s.limitsWord

/-- SET_POWER_LIMITS once started (R392). -/
def setPowerLimitsRun (cap rampUp rampDown : Nat) (c : CmdRef) (s : State) : State :=
  let ok := (cap = 0 || within cap 1000 3200) && (rampUp = 0 || within rampUp 1 1000) &&
    (rampDown = 0 || within rampDown 1 1000)
  if !ok then s.reply c Status.badParam 0 0
  else
    let old := s.limitsWord
    let s : State := { s with power := { s.power with hostCap := cap, hostUp := rampUp, hostDown := rampDown } }
    let s := if s.limitsWord = old then s.event 0 0x0906 0 s.limitsWord else s.limitsChanged old
    s.reply c Status.done s.limitsWord 0

/-- SET_POWER_LIMITS (R392). -/
def execSetPowerLimits (h : Hdr) (cap rampUp rampDown : Nat) (s : State) : Host.Outcome State Fault Refusal :=
  .next (s.cmd 0x0901 h (setPowerLimitsRun cap rampUp rampDown))

/-- A PLDM numeric effecter: 1 POWER_CAP, 2 RAMP_UP, 3 RAMP_DOWN; a value out of range is rejected (R387). -/
def execPldmEffecterSet (effecter value : Nat) (s : State) : Host.Outcome State Fault Refusal :=
  let ok := value = 0 || (effecter = 1 && within value 1000 3200) || (within effecter 2 3 && within value 1 1000)
  if !within effecter 1 3 || !ok then .next (s.emit (.pldm false))
  else
    let old := s.limitsWord
    let p := s.power
    let p := if effecter = 1 then { p with rackCap := value }
      else if effecter = 2 then { p with rackUp := value } else { p with rackDown := value }
    .next ((({ s with power := p } : State).limitsChanged old).emit (.pldm true))

/-! ## Identity records (R369, R370) -/

/-- A record's bytes carry their CRC-32C (R281). -/
def crcHolds (n : Nat) (bytes : List Byte) : Bool := leNat (slice n 4 bytes) = crc32c (bytes.take n)

/-- A slot record (Table 13-3): SLOT, PARTNER_SLOT, SLOT_POWER_LIMIT, RAMP_UP and RAMP_DOWN of a valid one. -/
def parseSlot (r : IdRecord) : Option (Nat × Nat × Nat × Nat × Nat) :=
  match r with
  | none => none
  | some b =>
    let f := fun o n => leNat (slice o n b)
    let partner := f 9 1
    if f 0 2 = 0x4853 && f 2 1 = 1 && within (f 3 1) 1 32 && f 8 1 ≤ 15 && (within partner 1 32 || partner = 255) &&
        f 10 1 ≤ 15 && within (f 12 2) 1000 3200 && f 14 2 ≤ 1000 && f 16 2 ≤ 1000 && crcHolds 60 b then
      some (f 3 1, partner, f 12 2, orDefault (f 14 2) 20, orDefault (f 16 2) 20)
    else none

/-- A breakout record (R370): OR_COMBINING and SERIAL of a valid one. -/
def parseBreakout (r : IdRecord) : Option (Bool × Nat) :=
  match r with
  | none => none
  | some b =>
    let f := fun o n => leNat (slice o n b)
    if f 0 2 = 0x4C42 && f 2 1 = 1 && f 3 1 = 16 && crcHolds 12 b then some (bitOf (f 4 1) 0, f 8 4) else none

/-- The slot record read: without a valid one the rails stay off and SLOT_INVALID shows (R369). -/
def State.readSlot (s : State) (r : IdRecord) : State :=
  let old := s.limitsWord
  let v := parseSlot r
  (({ s with power := { s.power with slot := v, slotInvalid := v.isNone, slotRead := s.up } } : State)).limitsChanged old

/-- The breakout record read: each change raises BREAKOUT, and the line fences follow (R370). -/
def State.readBreakout (s : State) (r : IdRecord) : State :=
  let v := parseBreakout r
  let changed : Bool := v ≠ s.power.breakout
  let s : State := { s with power := { s.power with breakout := v } }
  let s := if changed then
      (s.pwrRaise 0x20).event 0 0x0905 0 (bit v.isSome + 256 * bit ((v.map (·.1)).getD false))
    else s
  s.settleBreakout

/-- The identity-sense pin changes and the breakout record is read (R370). -/
def execBreakout (r : IdRecord) (s : State) : Host.Outcome State Fault Refusal := .next (s.readBreakout r)

/-- The presence contact mates: Waterbearer starts and reads the records (R369, R372). -/
def execPresenceMate (slot breakout : IdRecord) (s : State) : Host.Outcome State Fault Refusal :=
  if s.power.mated then .next s
  else
    let s : State := { s with power := { s.power with mated := true } }
    .next ((s.readSlot slot).readBreakout breakout)

/-- An invalid slot record is read again every second (R369). -/
def execSlotRecordRetry (slot : IdRecord) (s : State) : Host.Outcome State Fault Refusal :=
  if s.power.mated && s.power.slot.isNone && s.elapsed s.power.slotRead giga then .next (s.readSlot slot) else .next s

/-! ## Resets and the rails (R372 to R377) -/

/-- Everything held in DRAM and SRAM is lost: what persists stays, pins and plugged parts stay as they are, and keys come
anew (R309, R313, R371, R377). -/
def State.loseVolatile (s : State) : State :=
  let r := State.resetWith s.persist s.fuses
  let slot0 := { KeySlot.reset 0 with pageKey := Config.randomKey s.free }
  { r with
    mls := { r.mls with
      holdPin := s.mls.holdPin, holdRose := if s.mls.holdPin then some 0 else none, inputs := s.mls.inputs },
    customs := { r.customs with
      slots := Map.set r.customs.slots 0 slot0, storageKey := Config.randomKey (s.free + 1) },
    escort := { r.escort with cables := s.escort.cables },
    free := s.free + 2, out := s.out, pending := s.pending }

/-- A power-on reset of the whole module with its rails off: the power registers take their reset values, and only what the
tray's contacts and identity memories show stays (R374, R377, R393). -/
def State.powerReset (s : State) : State :=
  let p := s.power
  let r := s.loseVolatile
  ({ r with power := { r.power with
      mated := p.mated, released := p.released, overVoltage := p.overVoltage, slot := p.slot,
      slotInvalid := p.slotInvalid, breakout := p.breakout } } : State).settleBreakout

/-- The high-power rails go off: memories and everything they feed are lost, while Waterbearer keeps its own state on the
standby rail. -/
def State.railsOff (s : State) : State :=
  let r := s.loseVolatile
  let mls := { r.mls with uptime := s.mls.uptime }
  ({ r with mls := mls, power := { s.power with railsOn := false, dip := false, smoothing := false, leaving := none } } :
    State).settleBreakout

/-- Once every condition of step 3 holds, the main path closes and the rails come up: the bulk, as last measured, within 2 V of the
input, 46.5 V or more at the input, a valid slot record, and flow for 1 s (R3, R372). -/
def execStartRailsEnable (s : State) : Host.Outcome State Fault Refusal :=
  let p := s.power
  let flows := match p.flowSince with | some t => s.elapsed t giga | none => false
  if p.railsOn || p.tripped || p.overVoltage || !p.released || !p.mated || p.volts > p.bulk + 2000 || p.volts < 46500 ||
      p.slot.isNone || !flows || p.state = 5 then .next s
  else .next { s with power := { p with railsOn := true, state := 0, allowance := 0, window := s.up } }

/-- The presence contact breaks: Waterbearer opens the main path (R368, R390). -/
def execPresenceBreak (s : State) : Host.Outcome State Fault Refusal :=
  if !s.power.mated then .next s
  else
    let s := s.railsOff
    .next { s with power := { s.power with mated := false, state := 0, slot := none, slotInvalid := false } }

/-- The input rises past 42.0 V: reset is released (R372, R374). -/
def execResetRelease (s : State) : Host.Outcome State Fault Refusal :=
  .next (if s.power.overVoltage then s else { s with power := { s.power with released := true } })

/-- The input falls below 40.0 V: a power-on reset of the whole module (R374, R377). -/
def execResetAssert (s : State) : Host.Outcome State Fault Refusal :=
  let s := s.powerReset
  .next { s with power := { s.power with released := false } }

/-- The input passes 58.0 V: the rails go off and the module resets (R374). -/
def execOverVoltageSet (s : State) : Host.Outcome State Fault Refusal :=
  let s := s.powerReset
  .next { s with power := { s.power with released := false, overVoltage := true } }

/-- The input falls below 57.0 V again: step 1 of the start (R374). -/
def execOverVoltageClear (s : State) : Host.Outcome State Fault Refusal :=
  .next (if s.power.overVoltage then { s with power := { s.power with overVoltage := false, released := true } } else s)

/-- Power state set; a new F takes effect at the next slot boundary, so the slot of the change keeps the F it began with (R48). -/
def State.setPower (s : State) (p : Power) : State :=
  { s with power := if p.fireBudget = s.power.fireBudget then p else { p with budgetWas := (s.slotNow, s.budget) } }

/-! ## Dips (R375) -/

/-- The input falls past 45.0 V: F falls to 128, and the escort engine requests at priority 15 (R375). -/
def execSupplyDip (millivolts : Nat) (s : State) : Host.Outcome State Fault Refusal :=
  if s.power.dip || !s.power.released || millivolts > 45000 then .next s
  else
    let s := s.setPower { s.power with
      dip := true, dipSince := s.up, dipMin := millivolts, volts := millivolts, fireBudget := min 128 s.power.fireBudget }
    .next (({ s with mem := { s.mem with escortBoost := true } } : State).pwrRaise 2)

/-- The input rises past 46.5 V: dip handling ends with one log entry and one event; F and the clock return under the ramp
(R375, R395). -/
def execDipClear (millivolts : Nat) (s : State) : Host.Outcome State Fault Refusal :=
  if !s.power.dip || millivolts < 46500 then .next s
  else
    let us := min ((s.up - s.power.dipSince) / 1000) (2 ^ 32 - 1)
    let low := s.power.dipMin
    let f := s.power.fireBudget
    let s : State := { s with
      mem := { s.mem with escortBoost := false }, power := { s.power with dip := false, volts := millivolts } }
    let s := s.logAdd 0x20 255 255 255 true (leBytes 2 low ++ leBytes 4 us ++ leBytes 2 f)
    .next ((s.pwrRaise 4).event 0 0x0901 0 (low + 2 ^ 16 * us))

/-! ## Ramps, cap, clock and F (R379, R381) -/

/-- Load is slowed by one step: the core clock first, then F (R381). -/
def Power.slow (p : Power) : Power :=
  if p.clock > 0 then { p with clock := p.clock - 1 }
  else { p with fireBudget := max 32 (p.fireBudget - 32) }

/-- Load is let up by one step, in the reverse order; F stays at 128 in a dip (R375, R381). -/
def Power.restore (p : Power) : Power :=
  let top := if p.dip then 128 else 512
  if p.fireBudget < top then { p with fireBudget := min top (p.fireBudget + 32) }
  else { p with clock := min 8 (p.clock + 1) }

/-- The allowance of the ramp after a 1 ms window: it climbs while it binds and falls toward a lower load (R379). -/
def State.nextAllowance (s : State) (watts : Nat) : Nat :=
  let a := s.power.allowance
  if watts ≥ a then min s.effectiveCap (a + s.rampUp) else max watts (a - s.rampDown)

/-- Every 10 µs the input is measured, and ramp, cap, clock and F are enforced: the current hold of a dip lowers the clock
alone, and the throttle rung slows like the cap (R375, R379, R381, Table 13-6). -/
def execPowerSample (watts tenMilliamps : Nat) (volts : SupplyVolts) (s : State) : Host.Outcome State Fault Refusal :=
  let p := s.power
  let p := { p with
    watts := watts, current := tenMilliamps, volts := volts.input, bulk := volts.bulk,
    dipMin := if p.dip then min p.dipMin volts.input else p.dipMin }
  let s : State := { s with power := p }
  if !p.railsOn then .next s
  else
    let cap := s.effectiveCap
    let newWindow := s.elapsed p.window 1000000
    let allowance := if newWindow then s.nextAllowance watts else p.allowance
    let limit := min cap allowance
    let hot := p.rungs.contains 3 && p.junction > 1000
    let p := { p with
      allowance := allowance, window := if newWindow then s.up else p.window, capped := decide (watts ≥ cap),
      rampLimited := decide (watts ≥ allowance && allowance < cap), smoothing := decide (watts + s.rampDown < allowance) }
    let p := if p.dip && tenMilliamps > 7200 then { p with clock := p.clock - 1 }
      else if watts > limit || hot then p.slow
      else if watts < limit && !p.rungs.contains 3 then p.restore
      else p
    .next (s.setPower p)

/-! ## The leaving sequence (R388 to R391) -/

/-- No convoy is in flight or waits for its commit, and the last CONVOY_END is covered (Table 13-8 step 3). -/
def State.leavingCovered (s : State) : Bool :=
  s.bays.bay.all (fun p => p.2.ahead.isEmpty && p.2.commits.isEmpty) &&
    (!s.escort.copying || s.escort.role ≠ 1 || s.escort.uncovered.isEmpty)

/-- Step 4: a paired module fences its lines and gates and discards its ledger; an unpaired one fences them for removal
alone (Table 13-8). -/
def State.leavingFence (s : State) (l : Leaving) : State :=
  let s : State := { s with power := { s.power with leaving := some { l with fenced := true } } }
  if s.escort.role = 0 && !l.removal then s
  else
    let s := s.setFences s.mls.fenceBreakout s.mls.fenceSelf true
    let s : State := { s with mls := { s.mls with egressClosed := true } }
    if s.escort.role = 0 then s else s.discardLedger

/-- The last convoy of the leaving sequence is covered (R388). -/
def execLeavingCopyCovered (s : State) : Host.Outcome State Fault Refusal :=
  match s.power.leaving with
  | some l => .next (if l.fenced || !s.leavingCovered then s else s.leavingFence l)
  | none => .next s

/-- The ramp-down reaches standby: REMOVE lights, PREPARE_REMOVAL replies and the rails are off (R388, R391). -/
def execRemovalReady (s : State) : Host.Outcome State Fault Refusal :=
  match s.power.leaving with
  | none => .next s
  | some l =>
    if !l.removal || !l.fenced || l.ready || s.power.watts > 50 then .next s
    else
      let us := (s.up - l.started) / 1000
      let s := match l.ref with | some c => s.reply c Status.done us 0 | none => s
      let s := (s.pwrRaise 1).event 0 0x0904 0 (us % 2 ^ 32)
      let s := s.railsOff
      .next { s with power := { s.power with leaving := some { l with ready := true, ref := none } } }

/-- A rung that holds the module is in force (R385). -/
def State.holdRung (s : State) : Bool := s.power.rungs.contains 2 || s.power.rungs.contains 4

/-- The leaving sequence ends without removal: a paired module is DETACHED with its ledger discarded; an unpaired one that
left for removal has its ledger and its fence cleared (R385, R391). -/
def State.endLeaving (s : State) (l : Leaving) : State :=
  let s : State := { s with
    escort := { s.escort with leaving := false }, power := { s.power with leaving := none, state := 1 } }
  if s.escort.role ≠ 0 then
    let s := s.setFences s.mls.fenceBreakout s.mls.fenceSelf true
    let s : State := { s with mls := { s.mls with egressClosed := true } }
    let s := if s.escort.role = 1 then s.pairAlone else s
    s.discardLedger.setPair 4 3 0
  else if l.removal then
    let s := s.discardLedger.setFences s.mls.fenceBreakout s.mls.fenceSelf false
    { s with mls := { s.mls with egressClosed := false } }
  else s

/-- OP ABORT before REMOVE lights: the ramp reverses and the outstanding PREPARE_REMOVAL ends CANCELLED; a hold still in force
goes on as one (R385, R391). -/
def State.abortLeaving (s : State) (l : Leaving) : State :=
  let s := s.endLeaving l
  let s := match l.ref with | some c => s.reply c Status.cancelled 0 0 | none => s
  if s.holdRung then s.startLeaving false none else s

/-- A leaving sequence in progress goes on as one for removal: on an unpaired module step 4 then fences, as it does for
removal alone (Table 13-8, R390). -/
def Leaving.forRemoval (l : Leaving) (role : Nat) : Leaving :=
  { l with removal := true, fenced := l.fenced && (l.removal || role ≠ 0) }

/-- PREPARE_REMOVAL once started, by role and health (R391). -/
def prepareRemovalRun (force : Bool) (c : CmdRef) (s : State) : State :=
  match s.power.leaving with
  | some l =>
    if l.ready || (l.removal && l.ref.isSome) ||
        (s.escort.role ≤ 1 && !(s.escort.role = 1 && s.escort.health = 1) && !force) then
      s.reply c Status.notPermitted 0 0
    else
      { s.accept c 0 0 with
        power := { s.power with
          state := 5, leaving := some { l.forRemoval s.escort.role with ref := some c } } }
  | none =>
    if s.escort.role = 1 && s.escort.health = 1 then
      if s.escort.job.isSome || s.escort.epoch = epochMax then s.reply c Status.notPermitted 0 0
      else
        let s := s.accept c 0 0
        { s with escort := { s.escort with job := some (.swap c true) } }
    else if s.escort.role ≤ 1 && !force then s.reply c Status.notPermitted 0 0
    else (s.accept c 0 0).startLeaving true (some c)

/-- PREPARE_REMOVAL (R391). -/
def execPrepareRemoval (h : Hdr) (force : Bool) (s : State) : Host.Outcome State Fault Refusal :=
  .next (s.cmd 0x0902 h (prepareRemovalRun force))

/-- PREPARE_REMOVAL with OP ABORT once started (R391). -/
def prepareRemovalAbortRun (c : CmdRef) (s : State) : State :=
  match s.power.leaving, s.escort.job with
  | some l, _ =>
    if l.ready || !l.removal then s.reply c Status.notPermitted 0 0 else (s.abortLeaving l).reply c Status.done 0 0
  | none, some (.swap w true) =>
    (({ s with escort := { s.escort with job := none } } : State).reply w Status.cancelled 0 0).reply c Status.done 0 0
  | none, _ => s.reply c Status.notPermitted 0 0

/-- PREPARE_REMOVAL with OP ABORT (R391). -/
def execPrepareRemovalAbort (h : Hdr) (s : State) : Host.Outcome State Fault Refusal :=
  .next (s.cmd 0x0902 h prepareRemovalAbortRun)

/-- The lever opens: LATCH_OPEN and its PWR_EVENTS bit are set and LATCH_OPEN is raised (R390). -/
def State.latchOpened (s : State) : State :=
  (({ s with power := { s.power with latchOpen := true } } : State).pwrRaise 16).event 0 0x0903 0 s.escort.role

/-- The latch lever opens: a pull notice, and the leaving sequence for removal at once (R390, R399). -/
def execPullNotice (s : State) : Host.Outcome State Fault Refusal :=
  if s.power.latchOpen then .next s
  else
    let s := s.latchOpened
    match s.power.leaving, s.escort.job with
    | some l, _ => .next { s with power := { s.power with state := 5, leaving := some (l.forRemoval s.escort.role) } }
    | none, some (.swap c true) =>
      .next (({ s with escort := { s.escort with job := none } } : State).startLeaving true (some c))
    | none, _ => .next (if s.power.railsOn then s.startLeaving true none else s)

/-- The lever closes before the presence contact breaks: as OP ABORT; once REMOVE has lit the module starts anew
(R390, R391). -/
def execLatchClose (s : State) : Host.Outcome State Fault Refusal :=
  if !s.power.latchOpen || !s.power.mated then .next s
  else
    let s : State := { s with power := { s.power with latchOpen := false } }
    match s.power.leaving with
    | none => .next s
    | some l =>
      if l.ready then .next { s with power := { s.power with leaving := none, state := 0 } }
      else .next (if l.removal then s.abortLeaving l else s)

/-! ## Coolant and the thermal ladder (R384, R385) -/

/-- A rung's trigger holds at the last sample (Table 13-6). -/
def Power.triggered (p : Power) (rung : Nat) : Bool :=
  match rung with
  | 1 => p.inlet > 450 || p.flow < 400
  | 2 => p.flow < 100
  | 3 => p.junction > 1000
  | 4 => p.junction > 1100
  | 5 => p.junction > 1200
  | _ => false

/-- How long a trigger must hold, in nanoseconds (Table 13-6). -/
def triggerTime (rung : Nat) : Nat :=
  match rung with
  | 1 => 1000000000
  | 2 => 500000000
  | _ => 0

/-- The part of a rung's clearing condition that must last (Table 13-6). -/
def Power.clears (p : Power) (rung : Nat) : Bool :=
  match rung with
  | 1 => p.inlet ≤ 440 && p.flow ≥ 420
  | 2 => p.flow ≥ 400
  | 3 => p.junction ≤ 950
  | 4 => p.junction ≤ 850
  | _ => false

/-- How long a clearing condition must last, in nanoseconds (Table 13-6). -/
def clearTime (rung : Nat) : Nat :=
  match rung with
  | 1 => 10000000000
  | 2 => 10000000000
  | 3 => 1000000000
  | _ => 60000000000

/-- Since when conditions hold, brought up to date at a moment. -/
def timers (old : List (Nat × Nat)) (now : Nat) (holds : Nat → Bool) : List (Nat × Nat) :=
  ([1, 2, 3, 4, 5].filter holds).map fun r => (r, ((old.find? fun p => p.1 = r).map (·.2)).getD now)

/-- The value that triggers or clears a rung, for LADDER (Table 13-18). -/
def Power.rungValue (p : Power) (rung : Nat) : Nat :=
  match rung with
  | 1 => if p.inlet > 450 then twos 16 p.inlet else p.flow % 65536
  | 2 => p.flow % 65536
  | _ => twos 16 p.junction

/-- DETAIL of a THERMAL log entry (R395). -/
def Power.thermalDetail (p : Power) (rung : Nat) (set : Bool) : List Byte :=
  leBytes 1 rung ++ leBytes 1 (bit set) ++ leBytes 2 (twos 16 p.junction) ++ leBytes 2 (twos 16 p.inlet) ++ leBytes 2 p.flow

/-- A rung change reported: PWR_EVENTS, LADDER and a THERMAL log entry (R384, R395). -/
def State.reportRung (s : State) (rung : Nat) (set : Bool) : State :=
  let s := (s.pwrRaise 8).event 0 0x0902 rung (bit set + 256 * s.power.rungValue rung)
  s.logAdd 0x21 255 255 255 true (s.power.thermalDetail rung set)

/-- The trip: the rails go off until the next power-on reset, and standby NOR keeps the entry (Table 13-6). -/
def State.trip (s : State) : State :=
  if s.power.tripped || !s.power.railsOn then s
  else
    let s := s.reportRung 5 true
    let s : State := { s with persist := { s.persist with
      standbyNor := s.persist.standbyNor ++ [(0x21, s.power.thermalDetail 5 true)] } }
    let s := s.railsOff
    { s with power := { s.power with tripped := true, rungs := s.power.rungs ++ [5] } }

/-- A rung sets: the coolant warning caps the power, flow loss and hold begin the leaving sequence for a thermal hold
(R384, R385). -/
def State.setRung (s : State) (rung : Nat) : State :=
  let old := s.limitsWord
  let s : State := { s with power := { s.power with rungs := s.power.rungs ++ [rung] } }
  let s := (s.reportRung rung true).limitsChanged old
  if (rung = 2 || rung = 4) && s.power.leaving.isNone && s.power.railsOn then
    match s.escort.job with
    | some (.swap c true) => ({ s with escort := { s.escort with job := none } } : State).startLeaving true (some c)
    | _ => s.startLeaving false none
  else s

/-- A rung clears: with no rung left that holds the module, a thermal hold ends (R384, R385). -/
def State.clearRung (s : State) (rung : Nat) : State :=
  let old := s.limitsWord
  let s : State := { s with power := { s.power with rungs := s.power.rungs.filter fun r => r ≠ rung } }
  let s := (s.reportRung rung false).limitsChanged old
  match s.power.leaving with
  | some l => if (rung = 2 || rung = 4) && !s.holdRung && !l.removal then s.endLeaving l else s
  | none => s

/-- A rung of the ladder sets or clears once its condition has lasted its time (R384). -/
def execLadder (rung : Nat) (s : State) : Host.Outcome State Fault Refusal :=
  let p := s.power
  let lasted := fun (l : List (Nat × Nat)) (ns : Nat) => l.any fun t => t.1 = rung && s.elapsed t.2 ns
  if rung = 5 then .next (if p.triggered 5 then s.trip else s)
  else if p.rungs.contains rung then
    .next (if lasted p.clearing (clearTime rung) && (rung ≠ 2 || p.junction ≤ 850) then s.clearRung rung else s)
  else .next (if lasted p.trigger (triggerTime rung) && p.railsOn then s.setRung rung else s)

/-- Every 100 µs temperatures and flow are sampled against the ladder; a junction above 120 °C trips at once (R384). -/
def execThermalSample (inlet outlet junction : Int) (flow : Nat) (s : State) : Host.Outcome State Fault Refusal :=
  let p := { s.power with
    inlet := inlet, outlet := outlet, junction := junction, flow := flow,
    flowSince := if flow ≥ 400 then some (s.power.flowSince.getD s.up) else none }
  let p := { p with trigger := timers p.trigger s.up p.triggered, clearing := timers p.clearing s.up p.clears }
  let s : State := { s with power := p }
  .next (if p.triggered 5 then s.trip else s)

/-! ## What Waterbearer shows: lights and PLDM sensors (R372, R387, Table 13-10) -/

/-- The lights of the front panel, each by the patterns of Table 13-10; a light in no pattern of its row is off. -/
inductive Light where
  | off
  | green
  | greenFlashing
  | amber
  | amberFlashing
  | red
  | blue
  | blueFlashing
  | white
  deriving DecidableEq, Repr

/-- A condition of step 3 of the start that is unmet (Table 13-4, R369). -/
inductive StartCondition where
  | inputLow
  | bulkLow
  | slotInvalid
  | noFlow
  deriving DecidableEq, Repr

/-- The conditions of step 3 of the start that are unmet, while presence is mated and the rails are off (R372). -/
def State.startUnmet (s : State) : List StartCondition :=
  let p := s.power
  let flows := match p.flowSince with | some t => s.elapsed t giga | none => false
  if p.railsOn || !p.mated then []
  else
    (if p.volts < 46500 then [.inputLow] else []) ++ (if p.volts > p.bulk + 2000 then [.bulkLow] else []) ++
      (if p.slot.isNone then [.slotInvalid] else []) ++
      (if flows then [] else [.noFlow])

/-- POWER: rails on, standby only, or no input (Table 13-10). -/
def State.powerLight (s : State) : Light :=
  if s.power.railsOn then .green else if s.power.released then .greenFlashing else .off

/-- STATUS: of several patterns the most urgent shows (Table 13-10). -/
def State.statusLight (s : State) : Light :=
  if s.power.tripped || s.power.state = 3 then .red
  else if s.startUnmet ≠ [] then .amberFlashing
  else if s.power.rungs ≠ [] || s.power.dip then .amber
  else if s.power.railsOn && s.power.state = 1 then .green
  else .off

/-- ROLE: ACTIVE or UNPAIRED, ESCORT, or SHADOW or DETACHED (Table 13-10). -/
def State.roleLight (s : State) : Light :=
  match s.escort.role with
  | 0 => .blue
  | 1 => .blue
  | 2 => .blueFlashing
  | _ => .off

/-- REMOVE: safe to withdraw (Table 13-10, R388). -/
def State.removeLight (s : State) : Light := if s.power.leaving.any fun l => l.ready then .white else .off

/-- A PLDM numeric sensor, 1 to 7: input voltage, current and power, inlet, outlet, highest junction, and flow, in the units
of PWR_INPUT and PWR_THERMAL; none for another number (R387). -/
def State.pldmNumeric (s : State) (sensor : Nat) : Option Int :=
  let p := s.power
  match sensor with
  | 1 => some p.volts
  | 2 => some p.current
  | 3 => some p.watts
  | 4 => some p.inlet
  | 5 => some p.outlet
  | 6 => some p.junction
  | 7 => some p.flow
  | _ => none

/-- PLDM state sensor 8, ladder rung: the highest rung in force, 0 for none (R387, Table 13-6). -/
def State.pldmRung (s : State) : Nat := s.power.rungs.foldl max 0

/-- PLDM state sensor 9, latch (R387). -/
def State.pldmLatch (s : State) : Bool := s.power.latchOpen

end Sys2Proof.Machine
end

