-- ==== Sys2Proof/Machine/Firmware.lean ====
section
/-! DEFINITION. Firmware parts: staging, live activation, boot checks, recovery, watchdog restarts and the state record (R400 to
R413). -/

namespace Sys2Proof.Machine

/-! ## Staging (R404) -/

/-- SHA-384 of a manifest as it is staged: every byte before SIGNATURE, then SIGNATURE (R403). -/
def Manifest.digest (m : Manifest) : Nat := Config.sha384 (m.signedBytes ++ beBytes 96 m.signature)

/-- The bytes of a manifest entry (Table 14-4). -/
def PartEntry.bytes (e : PartEntry) : List Byte :=
  leBytes 1 e.partId ++ leBytes 1 e.cls ++ leBytes 1 e.recordFormat ++ leBytes 1 e.recordCompat ++ leBytes 4 e.version ++
    leBytes 1 e.svn ++ leBytes 3 0 ++ leBytes 4 e.length ++ leBytes 48 e.hash ++ leBytes 16 0

/-- The header and entries of a manifest with `chain` bytes of certificate chain (Tables 14-3 and 14-4). -/
def Manifest.head (m : Manifest) (chain : Nat) : List Byte :=
  leBytes 4 m.magic ++ leBytes 2 m.format ++ leBytes 1 m.generation ++ leBytes 1 m.entries.length ++ leBytes 4 m.version ++
    leBytes 1 (bit m.commitSvn) ++ leBytes 3 0 ++ leBytes 4 chain ++ leBytes 44 0 ++ m.entries.flatMap (fun e => PartEntry.bytes e)

/-- A manifest's bytes before SIGNATURE begin with its header and entries, and a certificate chain of CHAIN_LENGTH, 1 to 16,384, bytes
follows (R403). -/
def Manifest.holds (m : Manifest) : Bool :=
  let n := 64 + 80 * m.entries.length
  let chain := m.signedBytes.length - n
  within chain 1 16384 && decide (m.signedBytes.take n = Manifest.head m chain)

/-- What stands in the place of a manifest when the staged bytes are none: a wrong MAGIC (R405). -/
def Manifest.none_ : Manifest :=
  { magic := 0, format := 0, generation := 0, version := 0, commitSvn := false, chainRoot := 0, signKey := 0, entries := [],
    signedBytes := [], signature := 0 }

/-- Hash of a staged payload. -/
def payloadHash (p : StagedPayload) : Nat :=
  match p with
  | .manifest m => Manifest.digest m
  | .image hash => hash

/-- The waystation frames of a part's staged copy returned to the pool. -/
def State.freeStaged (s : State) (part : Nat) : State :=
  let old := (s.fw.frames.filter fun f => f.1 = part).flatMap (·.2)
  let s := s.dropRefs old
  { s with fw := { s.fw with frames := s.fw.frames.filter fun f => f.1 ≠ part } }

/-- A staged copy recorded under its part ID, in place of any earlier one (R404). -/
def Firmware.stage (f : Firmware) (part len : Nat) (p : StagedPayload) : Firmware :=
  if part = 0 then
    { f with manifest := some (match p with
      | .manifest m => if Manifest.holds m then m else Manifest.none_
      | .image _ => Manifest.none_) }
  else { f with staged := (f.staged.filter fun x => x.1 ≠ part) ++ [(part, len, payloadHash p)] }

/-- STAGE_PART once started (R404, Table 14-8). -/
def stagePartRun (h : Hdr) (part : Nat) (p : StagedPayload) (c : CmdRef) (s : State) : State :=
  let len := payloadBytes h
  if part > 7 || len > 67108864 then s.reply c Status.badParam 0 0
  else if s.fw.writing.isSome then s.reply c Status.notPermitted 0 0
  else
    match s.allocFrames 0 1 1 0 (ceilDiv len 65536) with
    | none => s.reply c Status.noPages 0 0
    | some (pages, s) =>
      let s := s.freeStaged part
      let s : State := { s with fw := { s.fw.stage part len p with frames := s.fw.frames ++ [(part, pages)] } }
      s.reply c Status.done len (payloadHash p % 2 ^ 64)

/-- STAGE_PART (R404). -/
def execStagePart (h : Hdr) (partId : Nat) (p : StagedPayload) (s : State) : Host.Outcome State Fault Refusal :=
  .next (s.cmd 0x0801 h (stagePartRun h partId p))

/-- STAGE_PART with DISCARD once started (R404). -/
def stagePartDiscardRun (part : Nat) (c : CmdRef) (s : State) : State :=
  if part > 7 then s.reply c Status.badParam 0 0
  else if s.fw.writing.isSome then s.reply c Status.notPermitted 0 0
  else
    let s := s.freeStaged part
    let f := s.fw
    let f := if part = 0 then { f with manifest := none } else { f with staged := f.staged.filter fun x => x.1 ≠ part }
    ({ s with fw := f } : State).reply c Status.done 0 0

/-- STAGE_PART with DISCARD set (R404). -/
def execStagePartDiscard (h : Hdr) (partId : Nat) (s : State) : Host.Outcome State Fault Refusal :=
  .next (s.cmd 0x0801 h (stagePartDiscardRun partId))

/-! ## Boot (R305, R409, R410) -/

/-- Entry of a part in a manifest. -/
def Manifest.entry (m : Manifest) (part : Nat) : Option PartEntry := m.entries.find? fun e => e.partId = part

/-- The boot checks of R409: the part and the number of the first check that fails, or none; bytes that spell no manifest have no chain
for check 1 to follow. -/
def State.bootCheck (s : State) (b : BootImages) : Option (Nat × Nat) :=
  let m := b.manifest
  if !Manifest.holds m || m.chainRoot ≠ s.fuses.rootKeyHash then some (0, 1)
  else if !Config.ecdsaOk m.signKey m.signedBytes m.signature then some (0, 2)
  else if !b.intact then some (0, 3)
  else
    match m.entries.find? fun e => b.hashes.getD (e.partId - 1) 0 ≠ e.hash with
    | some e => some (e.partId, 3)
    | none => (m.entries.find? fun e => e.svn < s.fuses.antiRollback.getD e.cls 0).map fun e => (e.partId, 4)

/-- ANTI_ROLLBACK after COMMIT_SVN: bits are set until each class counts its SVN, at most 64 (R409). -/
def commitSvn (m : Manifest) (fuses : List Nat) : List Nat :=
  (List.range fuses.length).map fun cls =>
    m.entries.foldl (fun n e => if e.cls = cls then max n (min 64 e.svn) else n) (fuses.getD cls 0)

/-- The parts of a manifest run from power-on: ACTIVATED_UNVERIFIED clear, entries of standby NOR copied into the log, the host
link trained, every array initialised, and the resting core's scrubs run (R32, R68, R395, R409, Table 13-4). -/
def State.boot (s : State) (m : Manifest) (recovered : Bool) : State :=
  let at_ := fun (f : PartEntry → Nat) => (List.range 7).map fun i => ((Manifest.entry m (i + 1)).map f).getD 0
  let micro := ((Manifest.entry m 6).map (·.version)).getD 0
  let notes := s.persist.standbyNor
  let s : State := { s with
    fw := { s.fw with
      versions := at_ (·.version), hashes := at_ (·.hash), formats := at_ (·.recordFormat), lengths := at_ (·.length), running := m.version,
      unverified := false, recovered := recovered, loaderPending := false, coreCommitted := micro, recovery := 0 },
    cores := { s.cores with core := s.cores.core.map fun p => (p.1, { p.2 with microcode := micro }) },
    persist := { s.persist with norVersion := m.version, standbyNor := [] },
    fuses := { s.fuses with
      antiRollback := if m.commitSvn then commitSvn m s.fuses.antiRollback else s.fuses.antiRollback },
    host := { s.host with linkUp := true }, power := { s.power with state := 1 } }
  let s := notes.foldl (fun s e => s.logAdd e.1 255 255 255 (e.1 = 0x21) e.2) s
  let s := (List.range 9).foldl State.initArrays s
  if s.rotates then s.restScrub 8 else s

/-- A power-on reset: all volatile state clears, and with the rails on the boot ROM checks firmware NOR; a failed check writes
standby NOR and enters recovery, and a SCRAPPED module runs nothing (R305, R377, R409, R410). -/
def execPowerOnReset (b : BootImages) (s : State) : Host.Outcome State Fault Refusal :=
  let rails := s.power.railsOn
  let s := s.powerReset
  if !rails then .next s
  else
    let s : State := { s with power := { s.power with railsOn := true } }
    if s.fuses.lifecycle = 7 then .next s
    else
      match s.bootCheck b with
      | none => .next (s.boot b.manifest false)
      | some (part, check) =>
        .next { s with
          persist := { s.persist with
            standbyNor := s.persist.standbyNor ++ [(0x32, leBytes 1 part ++ leBytes 1 check)] },
          fw := { s.fw with recovery := 1, recoverySince := s.up }, power := { s.power with state := 3 } }

/-- No partner has served within 10 s: PCIe trains for recovery from the host (R410). -/
def State.recoverFromHost (s : State) : State :=
  { s with fw := { s.fw with recovery := 2 }, host := { s.host with linkUp := true } }

/-- Recovery from the partner has lasted 10 s (R410). -/
def execRecoveryPartnerTimeout (s : State) : Host.Outcome State Fault Refusal :=
  .next (if s.fw.recovery = 1 && s.elapsed s.fw.recoverySince (10 * giga) then s.recoverFromHost else s)

/-- The partner serves its NOR manifest and parts: with every check of R409 passed the module boots as RECOVERED, otherwise
recovery goes on from the host (R410). -/
def execRecoveryFromPartner (b : BootImages) (s : State) : Host.Outcome State Fault Refusal :=
  let slotted := match s.power.slot with | some r => r.2.1 ≠ 255 | none => false
  if s.fw.recovery ≠ 1 || !slotted || s.escort.cables.isEmpty then .next s
  else if (s.bootCheck b).isSome then .next s.recoverFromHost
  else .next ((s.boot b.manifest true).event 0 0x0804 b.manifest.version 0)

/-! ## Restarts of a part (R401) -/

/-- Processors of a part that a watchdog guards and that the row names (Table 14-1). -/
def partProcessors (part : Nat) : Nat :=
  match part with
  | 2 => 4
  | 3 => 1
  | 4 => 1
  | 5 => 2
  | 6 => 9
  | 7 => 1
  | _ => 0

/-- A part's processor restarts: from its RAM copy, or from NOR when that copy is poisoned. A restart that begins while the last
is still on ends that one as failed, and a sequencer with three such within one second has its core fenced; a Drover that goes
out of service has planned ahead (R83, R170, R401, Table 14-2). -/
def State.restartProcessor (s : State) (part processor : Nat) (poisonedRam : Bool) : State :=
  let cause := bit poisonedRam
  let s := if part = 2 then s.planAll else s
  let failed := s.fw.restarting.any fun r => r.1 = part && r.2.1 = processor
  let others := s.fw.restarting.filter fun r => !(r.1 = part && r.2.1 = processor)
  let s : State := { s with
    fw := { s.fw with
      restarting := others ++ [(part, processor, poisonedRam, s.up)],
      restarts := s.fw.restarts.set (part - 1) (satAdd 16 1 (s.fw.restarts.getD (part - 1) 0)) },
    customs := { s.customs with restarting := s.customs.restarting || part = 3 } }
  let s := s.logAdd 0x30 255 255 255 true (leBytes 1 part ++ leBytes 1 processor ++ leBytes 1 cause)
  let s := s.event 0 0x0803 part (processor + 256 * cause)
  if part = 6 && failed then
    let x := s.core processor
    let recent := (x.seqFailures.filter fun t => !s.elapsed t giga) ++ [s.up]
    let s := s.setCore processor { x with seqFailures := recent }
    if recent.length ≥ 3 then s.fenceCore processor 2 else s
  else s

/-! ## Live activation (R405 to R408) -/

/-- Whether a part of the staged manifest differs from the running part (R405). -/
def State.partChanged (s : State) (e : PartEntry) : Bool := s.fw.hashes.getD (e.partId - 1) 0 ≠ e.hash

/-- Hash of a part's staged image. -/
def State.stagedHash (s : State) (part : Nat) : Option Nat := (s.fw.staged.find? fun x => x.1 = part).map (·.2.2)

/-- A changed part is not staged, or a staged hash differs from its entry (R405). -/
def State.imagesWrong (s : State) (m : Manifest) : Bool :=
  m.entries.any fun e =>
    match s.stagedHash e.partId with
    | some hash => hash ≠ e.hash
    | none => s.partChanged e

/-- MAGIC, FORMAT and GENERATION are those of generation 1 (R405). -/
def Manifest.versionOk (m : Manifest) : Bool := m.magic = 0x4E414D56 && m.format = 1 && m.generation ≤ 1

/-- The changed parts of a class of ID. -/
def State.changes (s : State) (m : Manifest) (part : Nat) : Bool := m.entries.any fun e => e.partId = part && s.partChanged e

/-- The refusal of a live ACTIVATE_MANIFEST, or none (R84, R307, R405). -/
def State.activateRefusal (s : State) : Option Nat :=
  match s.fw.manifest with
  | none => some Status.badParam
  | some m =>
    if !Manifest.versionOk m then some Status.badVersion
    else if s.imagesWrong m || (m.entries.any fun e => s.fw.formats.getD (e.partId - 1) 0 < e.recordCompat) then
      some Status.badParam
    else if s.power.state ≠ 1 || s.fw.writing.isSome || s.customs.loaderBad || (s.changes m 6 && !s.rotates) then
      some Status.notPermitted
    else none

/-- The windows of an activation in their order, as part + 256 × processor (R406). -/
def windowOrder : List Nat := [7, 5, 5 + 256, 4, 3, 2]

/-- How one window ends: the reason code of a failure (0 none) and its time in nanoseconds (R406, R407). -/
def windowEnd (w : PartWindow) : Nat × Nat :=
  match w with
  | .ok ns => if ns ≤ 3000000 then (0, ns) else (3, ns)
  | .noHandoverPoint ns => (1, ns)
  | .stateRejected ns => (2, ns)
  | .notReady ns => (3, ns)
  | .poisoned ns => (4, ns)

/-- Windows carried out in turn under the budget of step 2: the failing part and its reason, and the time in nanoseconds; `n`
windows have been switched after `t` (R406, R407). -/
def runWindows (l : List (Nat × PartWindow)) (t n : Nat) : Option (Nat × Nat) × Nat :=
  match l with
  | [] => (none, t)
  | (p, w) :: r =>
    if t + 3000000 + 1000000 * (n + 1) > 20000000 then (some (p % 256, 5), t)
    else
      let (reason, ns) := windowEnd w
      if reason = 0 then runWindows r (t + ns) (n + 1) else (some (p % 256, reason), t + ns)

/-- Windows whose part goes back to its kept image when an activation fails, the last switched first: those switched, and the
failing one where its new image had started (R407; log 71). -/
def windowsBack (l : List (Nat × PartWindow)) (t n : Nat) (back : List Nat) : List Nat :=
  match l with
  | [] => []
  | (p, w) :: r =>
    if t + 3000000 + 1000000 * (n + 1) > 20000000 then back
    else
      let (reason, ns) := windowEnd w
      if reason = 0 then windowsBack r (t + ns) (n + 1) (p :: back) else if reason = 1 then back else p :: back

/-- Processors of a window: one of VIDEO_CONTROL's, every processor of another part (R406). -/
def windowProcessors (key : Nat) : List Nat :=
  if key % 256 = 5 then [key / 256] else List.range (partProcessors (key % 256))

/-- Parts whose restore failed restart from their NOR copies, as after a watchdog with a poisoned RAM copy (R401, R407). -/
def State.restartFromNor (s : State) (keys : List Nat) : State :=
  keys.foldl (fun s k => (windowProcessors k).foldl (fun s p => s.restartProcessor (k % 256) p true) s) s

/-- DETAIL of an ACTIVATION log entry (R407). -/
def activationDetail (version part reason ns : Nat) : List Byte :=
  leBytes 4 version ++ leBytes 1 part ++ leBytes 1 reason ++ leBytes 4 (ns / 1000)

/-- A list with the value of every changed part but LOADER replaced by its entry's. -/
def State.takeParts (s : State) (m : Manifest) (f : PartEntry → Nat) (old : List Nat) : List Nat :=
  (List.range 7).map fun i =>
    match Manifest.entry m (i + 1) with
    | some e => if i ≠ 0 && s.partChanged e then f e else old.getD i 0
    | none => old.getD i 0

/-- The running image of a part is kept in waystation frames of tenant 0 from step 4 to the end of step 8; with no room it takes none
(R250, Table 14-5; log 71). -/
def State.keepImage (s : State) (part : Nat) : State :=
  match s.allocFrames 0 1 1 0 (ceilDiv (s.fw.lengths.getD (part - 1) 0) 65536) with
  | some (pages, s) => { s with fw := { s.fw with frames := s.fw.frames ++ [(256 + part, pages)] } }
  | none => s

/-- The kept images are freed (Table 14-5 step 8). -/
def State.freeKept (s : State) : State := (List.range 8).foldl (fun s part => s.freeStaged (256 + part)) s

/-- Step 7: the activation commits, and step 8 writes NOR (Table 14-5). -/
def State.commitParts (s : State) (c : CmdRef) (m : Manifest) (parts ns : Nat) : State :=
  { s with fw := { s.fw with
    versions := s.takeParts m (·.version) s.fw.versions,
    hashes := s.takeParts m (·.hash) s.fw.hashes,
    formats := s.takeParts m (·.recordFormat) s.fw.formats,
    lengths := s.takeParts m (·.length) s.fw.lengths,
    coreCommitted := if s.changes m 6 then ((Manifest.entry m 6).map (·.version)).getD 0 else s.fw.coreCommitted,
    loaderPending := s.fw.loaderPending || s.changes m 1,
    running := m.version, unverified := true, activations := satAdd 32 1 s.fw.activations,
    lastPart := 0, lastReason := 0,
    writing := some { ref := c, manifest := m, switched := parts, windowNs := ns } } }

/-- A failed activation: the old images are back, and NOR is untouched (R407, R408). -/
def State.restoreParts (s : State) (c : CmdRef) (m : Manifest) (part reason ns : Nat) : State :=
  let s : State := { s with fw := { s.fw with lastPart := part, lastReason := reason } }
  let s := s.logAdd 0x31 255 255 255 true (activationDetail m.version part reason ns)
  (s.event 0 0x0802 m.version (part + 256 * reason)).reply c Status.handoverFailed (part + 256 * reason) 0

/-- A live activation, step 1 to step 7; `unrestored` names the windows whose restore would fail (R406, R407). -/
def State.activate (s : State) (c : CmdRef) (m : Manifest) (windows : List (Nat × PartWindow)) (unrestored : List Nat) :
    State :=
  let s := s.accept c 0 0
  let keys := windowOrder.filter fun k => s.changes m (k % 256)
  let due := keys.map fun k => (k, ((windows.find? fun w => w.1 = k).map (·.2)).getD (.noHandoverPoint 1000000))
  match runWindows due 0 0 with
  | (none, ns) =>
    let parts := keys.filter fun k => k < 256
    (parts.foldl State.keepImage s).commitParts c m parts.length ns
  | (some (part, reason), ns) =>
    (s.restartFromNor ((windowsBack due 0 0 []).filter fun k => unrestored.contains k)).restoreParts c m part reason ns

/-- ACTIVATE_MANIFEST of a recovering module: the staged images pass the boot checks, NOR is written, and the module resets and
boots as RECOVERED (R410). -/
def State.recoverStaged (s : State) (c : CmdRef) : State :=
  match s.fw.manifest with
  | none => s.reply c Status.badParam 0 0
  | some m =>
    let b : BootImages :=
      { manifest := m, hashes := (List.range 7).map fun i => (s.stagedHash (i + 1)).getD 0, intact := true }
    if !Manifest.versionOk m then s.reply c Status.badVersion 0 0
    else if s.imagesWrong m || (s.bootCheck b).isSome then s.reply c Status.badParam 0 0
    else
      let s := ((s.accept c 0 0).reply c Status.done m.version 0).powerReset
      let s : State := { s with power := { s.power with railsOn := true } }
      (s.boot m true).event 0 0x0804 m.version 1

/-- ACTIVATE_MANIFEST once started (R405, R410). -/
def activateManifestRun (windows : List (Nat × PartWindow)) (unrestored : List Nat) (c : CmdRef) (s : State) : State :=
  if s.power.state = 3 then s.recoverStaged c
  else
    match s.activateRefusal, s.fw.manifest with
    | some status, _ => s.reply c status 0 0
    | none, some m => s.activate c m windows unrestored
    | none, none => s.reply c Status.badParam 0 0

/-- ACTIVATE_MANIFEST (R405). -/
def execActivateManifest (h : Hdr) (windows : List (Nat × PartWindow)) (unrestored : List Nat) (s : State) :
    Host.Outcome State Fault Refusal :=
  .next (s.cmd 0x0802 h (activateManifestRun windows unrestored))

/-- Step 8 ends: NOR holds the manifest and every changed part, and ACTIVATE_MANIFEST replies DONE (R408). -/
def execNorWriteDone (s : State) : Host.Outcome State Fault Refusal :=
  match s.fw.writing with
  | none => .next s
  | some a =>
    let v := a.manifest.version
    let s : State := { s with
      fw := { s.fw with writing := none }, persist := { s.persist with norVersion := v } }
    let s := s.freeKept
    let s := s.logAdd 0x31 255 255 255 true (activationDetail v 0 0 a.windowNs)
    let s := s.event 0 0x0801 v (a.switched + 256 * (a.windowNs / 1000))
    .next (s.reply a.ref Status.done (v + 2 ^ 32 * a.switched) a.windowNs)

/-- A committed core microcode takes effect on a resting core, once its rest scrubs have ended and before its first full
calibration pass of the rest (R71, R84, Table 03-4 row 3). -/
def execCoreMicrocodeHandover (core : Nat) (s : State) : Host.Outcome State Fault Refusal :=
  let x := s.core core
  let before := match x.lastFullCal, x.restStart with
    | some f, some r => decide (f ≤ r)
    | _, _ => true
  if core > 8 || !s.power.railsOn || x.role ≠ 1 || !x.restScrubbed || !before || !s.rotates ||
      x.microcode = s.fw.coreCommitted then .next s
  else .next (s.setCore core { x with microcode := s.fw.coreCommitted })

/-! ## Watchdogs (R401) -/

/-- A processor's watchdog bites and the processor restarts (R401). -/
def execWatchdogBite (part processor : Nat) (poisonedRam : Bool) (s : State) : Host.Outcome State Fault Refusal :=
  if processor ≥ partProcessors part || (part ≠ 4 && !s.power.railsOn) || s.power.state = 3 then .next s
  else .next (s.restartProcessor part processor poisonedRam)

/-- A restarted processor serves again: replies that fell due meanwhile are written, and what waited goes on (R300, R401). -/
def execWatchdogRestartDone (part processor : Nat) (s : State) : Host.Outcome State Fault Refusal :=
  if !(s.fw.restarting.any fun r => r.1 = part && r.2.1 = processor) then .next s
  else
    let s : State := { s with
      fw := { s.fw with restarting := s.fw.restarting.filter fun r => !(r.1 = part && r.2.1 = processor) },
      customs := { s.customs with restarting := s.customs.restarting && part ≠ 3 } }
    .next s.drainAll

/-! ## The state record (R411) -/

/-- The firmware state record (Table 14-6). -/
def State.fwRecord (s : State) : List Byte :=
  let f := s.fw
  let rollout := s.cores.core.any fun p => p.2.microcode ≠ f.coreCommitted
  let flags := bit f.unverified + 2 * bit f.writing.isSome + 4 * bit f.recovered + 8 * bit rollout + 16 * bit f.loaderPending
  leBytes 4 f.running ++ leBytes 4 s.persist.norVersion ++ leBytes 1 flags ++ leBytes 1 f.lastPart ++ leBytes 1 f.lastReason ++
    leBytes 1 0 ++ leBytes 4 f.activations ++ ((List.range 7).flatMap fun i => leBytes 4 (f.versions.getD i 0)) ++
    ((List.range 9).flatMap fun n => leBytes 4 (s.core n).microcode) ++
    ((List.range 7).flatMap fun i => leBytes 2 (f.restarts.getD i 0)) ++ leBytes 2 0

/-- GET_FW_STATE once started (R411). -/
def getFwStateRun (h : Hdr) (c : CmdRef) (s : State) : State :=
  if payloadBytes h < 96 then s.reply c Status.badParam 0 0
  else (s.writePayload h.fn c.spans 0 s.fwRecord).reply c Status.done 0 0

/-- GET_FW_STATE (R411). -/
def execGetFwState (h : Hdr) (s : State) : Host.Outcome State Fault Refusal := .next (s.cmd 0x0803 h (getFwStateRun h))

end Sys2Proof.Machine
end

