-- ==== Sys2Proof/Machine/Fences.lean ====
section
/-! DEFINITION. The grant watchdog of the toll arbiters and what a fenced requester does to the module (R256, R257). -/

namespace Sys2Proof.Machine

/-- The video engine is fenced: every open stream stalls, and what waits for a pipe or stands in one is dropped (Table 09-4;
log 66). -/
def State.fenceVideo (s : State) : State :=
  let open_ := s.video.streams.map (·.1)
  let s := open_.foldl State.stallStream s
  let s : State := { s with video := { s.video with ready := [], pipes := s.video.pipes.map fun p => (p.1, { p.2 with unit := none }) } }
  open_.foldl State.settleStream s

/-- What the fence of a requester does at once (Table 09-4); the host DMA engine and the waystation mover stop for as long as
their bit is set. -/
def State.fenceRequester (s : State) (r : Nat) : State :=
  if r ≤ 8 then s.fenceCore r 1
  else if r = 9 then s.fenceVideo
  else if r = 11 then (if s.escort.role = 1 && s.escort.copying then s.pairAlone else s)
  else if r = 12 then
    match s.activeScrub 0 0 with
    | some c => s.cutScrub c
    | none => s
  else s

/-- A grant reaches TOL_WATCHDOG: it ends, its owner is fenced at all 26 tolls, and one log entry and one event follow
(R256). -/
def execTollWatchdogFence (toll cycles : Nat) (s : State) : Host.Outcome State Fault Refusal :=
  let t := s.toll toll
  match t.owner with
  | none => .next s
  | some w =>
    if toll > 25 || cycles < t.watchdog then .next s
    else
      let s := s.setToll toll { t with owner := none }
      let s : State := { s with mem := { s.mem with fence := setBit s.mem.fence w } }
      let s := s.logAdd 0x07 255 255 255 true (leBytes 1 toll ++ leBytes 1 w ++ leBytes 4 cycles)
      .next ((s.event 0 0x0502 toll (w + 256 * s.mem.logHead)).fenceRequester w)

end Sys2Proof.Machine
end

