-- ==== Sys2Proof/Machine/HostRings.lean ====
section
/-! DEFINITION. Rings, doorbells, the event queue, function resets and the host link's own commands (R271 to R303). -/

namespace Sys2Proof.Machine

/-! ## Fetching (R277, R281, R284, R298) -/

/-- A field of a packet. -/
def packetField (b : List Byte) (o n : Nat) : Nat := leNat (slice o n b)

/-- The header of a packet (Table 10-15); RSVD bits of the parameters are checked with the opcode. -/
def packetHdr (fn ring : Nat) (b : List Byte) : Hdr :=
  let flags := packetField b 3 1
  { fn := fn, ring := ring, tag := packetField b 4 2, tenant := packetField b 6 1, priority := packetField b 7 1,
    signal := bitOf flags 1, barrier := bitOf flags 0,
    rsvdZero := decide (flags / 8 = 0) && decide (packetField b 12 4 = 0),
    inlineLength := packetField b 8 4, payloadAddr := packetField b 48 8, payloadLen := packetField b 56 4,
    scatter := if bitOf flags 2 then some [] else none,
    payloadOk := true, copied := false }

/-- The one final reply of a packet that fails a check (R284). -/
def State.failPacket (s : State) (h : Hdr) (op status : Nat) (crc dup : Bool) : State :=
  s.sendReply h.fn h.ring (s.ring h.fn h.ring).session
    { tag := h.tag, status := status, opcode := op, final := true, crcFailed := crc, dupTag := dup, dmaError := false,
      result0 := 0, result1 := 0, signal := h.signal }

/-- A fetched packet passes steps 1 to 9 and starts, joining the Drover's journal, or is refused (R284, R299, R300). -/
def State.takePacket (s : State) (fn ring : Nat) (b : List Byte) : State :=
  let h := packetHdr fn ring b
  let op := packetField b 0 2
  let p := s.ring fn ring
  if packetField b 60 4 ≠ crc32c (b.take 60) then
    (s.setRing fn ring { p with crcFailed := satAdd 16 1 p.crcFailed }).failPacket h op Status.badParam true false
  else if packetField b 2 1 ≠ 1 then s.failPacket h op Status.badVersion false false
  else if !opcodes.contains op then s.failPacket h op Status.badOpcode false false
  else
    match headerCheck op h s with
    | some (status, dup) => s.failPacket h op status false dup
    | none =>
      let s := s.markStarted h
      let p := s.ring fn ring
      s.setRing fn ring { p with fetched := p.fetched ++ [(h.tag, op, p.session)] }

/-- BARRIER holds the packet at a ring's HEAD (R299). -/
def RingPair.barred (p : RingPair) (b : List Byte) : Bool :=
  bitOf (packetField b 3 1) 0 && p.outstanding.any fun t => !t.2

/-- The entry at a ring's HEAD is fetched, or its read fails and stops the ring (R277). -/
def State.fetchOne (s : State) (fn ring : Nat) : State :=
  let p := s.ring fn ring
  if !s.fetches fn ring then s
  else
    match p.unfetched with
    | [] => s
    | .inr a :: _ => (s.setRing fn ring { p with error := true }).event fn 0x0003 ring a
    | .inl b :: rest =>
      if p.barred b then s
      else
        (s.setRing fn ring { p with unfetched := rest, cmdHead := (p.cmdHead + 1) % 2 ^ p.cmdLog2 }).takePacket fn ring b

/-- Entries of a ring fetched one after another, at most `fuel` of them. -/
def State.fetchRing (s : State) (fn ring fuel : Nat) : State :=
  match fuel with
  | 0 => s
  | n + 1 => (s.fetchOne fn ring).fetchRing fn ring n

/-- Every ring with entries waiting fetches one (R298). -/
def State.fetchAll (s : State) : State :=
  (s.host.rings.filter fun p => !p.2.unfetched.isEmpty).foldl (fun s p => s.fetchOne (p.1 / 8) (p.1 % 8)) s

/-- One TB cycle with no command waiting: time runs on, and each ring with entries waiting fetches one (R211, R298; log 1). -/
def State.tick (s : State) : State := s.idle.fetchAll

/-- A function and ring that exist. -/
def ringOk (fn ring : Nat) : Bool := fn < 64 && ring < ringPairs fn

/-- A doorbell: TAIL is written, and the entries it covers wait to be fetched in ring order; `failAddr` is the address after
them whose read fails (R277, R300). -/
def State.doorbell (s : State) (fn ring tail : Nat) (packets : List (List Byte)) (failAddr : Option Nat) : State :=
  let p := s.ring fn ring
  let size := 2 ^ p.cmdLog2
  let p := { p with cmdTail := tail % size }
  if !p.enable then s.setRing fn ring p
  else
    let covered := (p.cmdTail + size - (p.cmdHead + p.unfetched.length) % size) % size
    let new := (packets.map Sum.inl ++ (failAddr.map Sum.inr).toList).take covered
    (s.setRing fn ring { p with unfetched := p.unfetched ++ new }).fetchRing fn ring (p.unfetched.length + new.length)

/-- DOORBELL (R277). -/
def execDoorbell (fn ring tail : Nat) (packets : List (List Byte)) (failAddr : Option Nat) (s : State) :
    Host.Outcome State Fault Refusal :=
  .next (if ringOk fn ring then s.doorbell fn ring tail packets failAddr else s)

/-! ## Ring registers (R278 to R280) -/

/-- The reply ring's HEAD is written: waiting replies are written while there is room, and with none left fetching goes on
(R278). -/
def State.setReplyHead (s : State) (fn ring head : Nat) : State :=
  let p := s.ring fn ring
  let s := s.setRing fn ring { p with rplHead := head % 2 ^ p.rplLog2 }
  let s := s.drainReplies fn ring p.waiting.length
  s.fetchRing fn ring p.unfetched.length

/-- REPLY_RING_HEAD_WRITE (R278). -/
def execReplyRingHeadWrite (fn ring head : Nat) (s : State) : Host.Outcome State Fault Refusal :=
  .next (if ringOk fn ring then s.setReplyHead fn ring head else s)

/-- ENABLE of a ring pair set: indices 0, phase 1 (R279). -/
def State.enableRing (s : State) (fn ring : Nat) : State :=
  let p := s.ring fn ring
  if p.enable then s
  else
    s.setRing fn ring { p with
      enable := true, cmdHead := 0, cmdTail := 0, rplHead := 0, rplTail := 0, phase := true, open_ := false, unfetched := [],
      sinceMsg := 0, firstSince := none }

/-- RING_ENABLE_SET (R279). -/
def execRingEnableSet (fn ring : Nat) (s : State) : Host.Outcome State Fault Refusal :=
  .next (if ringOk fn ring then s.enableRing fn ring else s)

/-- ENABLE of a ring pair cleared: fetching stops, OPEN and ERROR clear, and replies not yet written are discarded and
counted (R277, R279). -/
def State.disableRing (s : State) (fn ring : Nat) : State :=
  let p := s.ring fn ring
  if !p.enable then s
  else
    s.setRing fn ring { p with
      enable := false, open_ := false, error := false, generation := 0, outstanding := [], unfetched := [], waiting := [],
      discarded := satAdd 16 p.waiting.length p.discarded, sinceMsg := 0, firstSince := none, session := p.session + 1 }

/-- RING_ENABLE_CLEAR (R279). -/
def execRingEnableClear (fn ring : Nat) (s : State) : Host.Outcome State Fault Refusal :=
  .next (if ringOk fn ring then s.disableRing fn ring else s)

/-- COAL_TIME after the first reply since the last message, the message is sent (R280). -/
def execCoalesceTimeout (fn ring : Nat) (s : State) : Host.Outcome State Fault Refusal :=
  let p := s.ring fn ring
  match p.firstSince with
  | none => .next s
  | some t =>
    if !ringOk fn ring || !s.elapsed t (p.coalTime * 1000) then .next s
    else
      .next ((s.setRing fn ring { p with sinceMsg := 0, firstSince := none }).emit (.msix fn (p.vector % vectors fn)))

/-! ## The event queue (R295, R297) -/

/-- ENABLE of the event queue set: both indices 0, phase 1, and a pending EVENT_LOST record written (Table 10-7, R297). -/
def State.enableEvq (s : State) (fn : Nat) : State :=
  let f := s.fn fn
  if f.evqEnable then s
  else (s.setFn fn { f with evqEnable := true, evqTail := 0, evqHead := 0, evqPhase := true }).flushLost fn

/-- EVQ_ENABLE_SET (R295). -/
def execEvqEnableSet (fn : Nat) (s : State) : Host.Outcome State Fault Refusal :=
  .next (if fn < 64 then s.enableEvq fn else s)

/-- HEAD of the event queue written: entries free up (R297). -/
def State.setEvqHead (s : State) (fn head : Nat) : State :=
  let f := s.fn fn
  (s.setFn fn { f with evqHead := head % 2 ^ f.evqLog2 }).flushLost fn

/-- EVQ_HEAD_WRITE (R297). -/
def execEvqHeadWrite (fn head : Nat) (s : State) : Host.Outcome State Fault Refusal :=
  .next (if fn < 64 then s.setEvqHead fn head else s)

/-! ## Resets and power states of a function (R274, R275) -/

/-- A ring pair at a function reset: its registers at their reset values, the commands it started running on with their
replies discarded (R274). -/
def RingPair.afterReset (p : RingPair) : RingPair :=
  { RingPair.reset with fetched := p.fetched, session := p.session + 1 }

/-- Host requests of a tenant with TARGET 0 are cancelled without RECALL (R274). -/
def State.cancelUntargeted (s : State) (tenant : Nat) : State :=
  (s.liveReqs.filter fun r => r.tenant = tenant && r.route.isNone && r.target = 0).foldl
    (fun s r => (s.cancelReq r Status.cancelled).sendMarker (.cancel r.id false)) s

/-- The reset of a function: rings and event queue disabled, registers at their reset values, untargeted requests cancelled,
and nothing written for its tenant until HELLO (R274, R321); `stays` where the function is still enabled afterwards. -/
def State.resetFunction (s : State) (fn : Nat) (stays : Bool) : State :=
  let s := (List.range (ringPairs fn)).foldl (fun s k => s.setRing fn k (s.ring fn k).afterReset) s
  let s := s.setFn fn { FnState.reset with present := stays, awaitHello := true }
  let s : State := { s with host := { s.host with msix := s.host.msix.filter fun p => p.1 / 2 ^ 24 ≠ fn } }
  if s.writesRings then s.cancelUntargeted fn else s

/-- The virtual functions above a number reset and leave the link (R274). -/
def State.removeVfs (s : State) (above : Nat) : State :=
  ((List.range 64).filter fun n => n ≠ 0 && n > above && (s.fn n).present).foldl (fun s n => s.resetFunction n false) s

/-- FLR of a function; that of the physical function clears VF Enable (R274). -/
def execFlr (fn : Nat) (s : State) : Host.Outcome State Fault Refusal :=
  if fn > 63 || !(s.fn fn).present then .next s
  else
    let s := s.resetFunction fn true
    .next (if fn = 0 then s.removeVfs 0 else s)

/-- VF Enable cleared (0), or NumVFs lowered (R274). -/
def execVfEnableClear (numVfs : Nat) (s : State) : Host.Outcome State Fault Refusal := .next (s.removeVfs numVfs)

/-- A hot reset, a conventional reset or a link-down resets every function and nothing else (R274). -/
def execLinkReset (s : State) : Host.Outcome State Fault Refusal := .next ((s.resetFunction 0 true).removeVfs 0)

/-- A function's D-state and Bus Master Enable: out of D3hot with Bus Master Enable set, held replies and EVENT_LOST are
written and fetching goes on (R275). -/
def execFunctionPowerStateChange (fn : Nat) (d3hot busMaster : Bool) (s : State) : Host.Outcome State Fault Refusal :=
  if fn > 63 then .next s
  else
    let s := (s.setFn fn { s.fn fn with d3hot := d3hot, busMaster := busMaster, present := true }).flushHeld fn |>.flushLost fn
    .next ((List.range (ringPairs fn)).foldl (fun s k =>
      let p := s.ring fn k
      (s.drainReplies fn k p.waiting.length).fetchRing fn k p.unfetched.length) s)

/-! ## HELLO, GET_CAPS and SET_EVENT_MASK (R285, R289, R292) -/

/-- HELLO once started (R285). -/
def helloRun (h : Hdr) (genMax genMin : Nat) (c : CmdRef) (s : State) : State :=
  let p := s.ring h.fn h.ring
  if !within genMax 1 3 || !within genMin 1 genMax then s.reply c Status.badParam 0 0
  else if p.open_ && (p.outstanding.any fun t => t.1 ≠ h.tag) then s.reply c Status.notPermitted 0 0
  else if genMin > 1 then s.reply c Status.badVersion 0 0
  else
    let s := s.setRing h.fn h.ring { p with open_ := true, generation := 1 }
    let s := s.setFn h.fn { s.fn h.fn with awaitHello := false }
    s.reply c Status.done (1 + 2 ^ 8 + 2 ^ 16 + 2 ^ 24 * h.ring + 2 ^ 32 * h.fn + 2 ^ 40 * h.fn) (s.fw.versions.getD 1 0)

/-- HELLO (R285). -/
def execHello (h : Hdr) (genMax genMin : Nat) (s : State) : Host.Outcome State Fault Refusal :=
  .next (s.cmd 0x0001 h (helloRun h genMax genMin))

/-- The capability record (Table 10-22). -/
def capsRecord (fn : Nat) : List Byte :=
  recordBytes 64
    [(0, 8, 1), (1, 8, 0), (2, 8, 9), (3, 8, 8), (4, 16, 4160), (6, 8, 64), (7, 8, 4), (8, 64, 576000000000),
     (16, 64, 1536000000000), (24, 16, 16384), (26, 16, 4096), (28, 32, 1048576), (32, 16, 1024), (34, 16, 4096),
     (36, 16, 8192), (38, 16, 256), (40, 8, 64), (41, 8, ringPairs fn), (42, 16, 1024), (44, 8, 16), (45, 8, 8),
     (46, 16, 512), (48, 16, 64), (50, 16, 1024)]

/-- GET_CAPS once started (R289). -/
def getCapsRun (h : Hdr) (c : CmdRef) (s : State) : State :=
  if payloadBytes h < 64 then s.reply c Status.badParam 0 0
  else (s.writePayload h.fn c.spans 0 (capsRecord h.fn)).reply c Status.done 0 0

/-- GET_CAPS (R289). -/
def execGetCaps (h : Hdr) (s : State) : Host.Outcome State Fault Refusal := .next (s.cmd 0x0002 h (getCapsRun h))

/-- SET_EVENT_MASK once started (R292): class 0x00 stays enabled. -/
def setEventMaskRun (h : Hdr) (enable : Nat) (c : CmdRef) (s : State) : State :=
  if enable ≥ 1024 then s.reply c Status.badParam 0 0
  else
    let s := s.reply c Status.done (s.fn h.fn).mask 0
    s.setFn h.fn { s.fn h.fn with mask := setBit enable 0 }

/-- SET_EVENT_MASK (R292). -/
def execSetEventMask (h : Hdr) (enable : Nat) (s : State) : Host.Outcome State Fault Refusal :=
  .next (s.cmd 0x0010 h (setEventMaskRun h enable))

end Sys2Proof.Machine
end

