-- ==== Sys2Proof/Machine/Registers.lean ====
section
/-! DEFINITION. The registers of BAR0: what each reads as and what a write does (R276, R245, R258, R262, R266, R364, R393). -/

namespace Sys2Proof.Machine

/-! ## Places (Tables 10-2 and 10-3) -/

/-- The block of an offset and the offset in it: 0 identity, 1 status and events, 2 ring pairs, 3 MSI-X table, 4 tolls, 5 ECC
and scrub, 6 Milestone, 7 power and thermal, 8 escort; a virtual function has the first four. -/
def regPlace (fn off : Nat) : Option (Nat × Nat) :=
  if fn = 0 then
    if off < 0x10000 then some (0, off)
    else if off < 0x20000 then some (1, off - 0x10000)
    else if off < 0x20200 then some (2, off - 0x20000)
    else if within off 0x80000 0x803FF then some (3, off - 0x80000)
    else if within off 0x100000 0x10FFFF then some (4, off - 0x100000)
    else if within off 0x200000 0x20FFFF then some (5, off - 0x200000)
    else if within off 0x300000 0x30FFFF then some (6, off - 0x300000)
    else if within off 0x400000 0x40FFFF then some (7, off - 0x400000)
    else if within off 0x500000 0x50FFFF then some (8, off - 0x500000)
    else none
  else if off < 0x1000 then some (0, off)
  else if off < 0x2000 then some (1, off - 0x1000)
  else if off < 0x2100 then some (2, off - 0x2000)
  else if within off 0x8000 0x803F then some (3, off - 0x8000)
  else none

/-! ## Reading -/

/-- RNG_ID (Table 10-4). -/
def idWord (fn : Nat) : Nat := 2 ^ 32 * (Config.serial % 2 ^ 32) + 2 ^ 24 + 2 ^ 8 * (Config.stepping % 256) + fn

/-- RNG_MODULE_STATUS (Table 10-5). -/
def State.moduleStatus (s : State) (fn : Nat) : Nat :=
  let tenant := ((Map.get? s.customs.tenants fn).map (·.state)).getD 0
  let rings := (List.range (ringPairs fn)).foldl (fun a k => a + bit (s.ring fn k).open_ * 2 ^ k) 0
  2 ^ 24 * s.power.state + 2 ^ 16 * (if fn = 0 then 1 else tenant) + rings

/-- RNG_EVQ_CTRL (Table 10-7). -/
def FnState.ctrl (f : FnState) : Nat :=
  2 ^ 48 * f.lost + 2 ^ 32 * f.mask + 2 ^ 31 * bit f.evqEnable + 2 ^ 16 * f.evqVector + f.evqLog2

/-- RNG_RING_CTRL (Table 10-11). -/
def RingPair.ctrl (p : RingPair) : Nat :=
  2 ^ 48 * p.coalTime + 2 ^ 40 * p.coalCount + 2 ^ 31 * bit p.enable + 2 ^ 16 * p.vector + 2 ^ 8 * p.rplLog2 + p.cmdLog2

/-- RNG_RING_STATUS (Table 10-14). -/
def RingPair.status (p : RingPair) (paused : Bool) : Nat :=
  2 ^ 48 * p.crcFailed + 2 ^ 32 * p.discarded + 2 ^ 31 * bit p.open_ + 2 ^ 30 * bit (!p.waiting.isEmpty) +
    2 ^ 29 * bit paused + 2 ^ 28 * bit p.error + 2 ^ 16 * p.generation + min p.outstanding.length 0xFFFF

/-- PWR_INPUT (Table 13-14). -/
def Power.inputWord (p : Power) : Nat := 2 ^ 48 * p.watts + 2 ^ 32 * p.current + 2 ^ 16 * p.volts + p.dipMin

/-- PWR_THERMAL (Table 13-15). -/
def Power.thermalWord (p : Power) : Nat :=
  2 ^ 48 * p.flow + 2 ^ 32 * twos 16 p.junction + 2 ^ 16 * twos 16 p.outlet + twos 16 p.inlet

/-- A 64-bit register of a block, by its offset. -/
def State.wideReg (s : State) (fn block off : Nat) : Option Nat :=
  match block with
  | 0 => if off = 0 then some (idWord fn) else none
  | 1 => if off = 8 then some ((s.fn fn).evqBase * 4096) else if off = 0x10 then some (s.fn fn).ctrl else none
  | 2 =>
    let p := s.ring fn (off / 64)
    match off % 64 with
    | 0 => some (p.cmdBase * 4096)
    | 8 => some (p.rplBase * 4096)
    | 0x10 => some p.ctrl
    | 0x20 => some (p.status s.droverDown)
    | _ => none
  | 5 => if off = 8 then some s.mem.flipAddr else if off = 0x48 then some s.mem.overflow else none
  | 6 => if off = 0 then some s.mls.time else none
  | 7 =>
    if off = 8 then some s.power.inputWord
    else if off = 0x10 then some s.power.thermalWord
    else if off = 0x18 then some s.limitsWord
    else none
  | 8 => if off = 0x10 then some s.escort.covered else none
  | _ => none

/-- MLS_SYNC_STATUS (Table 08-18). -/
def Milestone.syncWord (m : Milestone) : Nat :=
  2 ^ 16 * twos 16 (clampInt m.offset (-32767) 32767) + 32 * bit m.stepNeeded + 16 * bit m.ptpPresent +
    8 * bit m.busPresent + m.disc

/-- TOL_STATUS (Table 09-9). -/
def Toll.statusWord (t : Toll) : Nat := 2 ^ 31 * bit t.owner.isSome + 2 ^ 16 * t.owner.getD 0 + t.requests

/-- ECC_FLIP_CTRL (Table 09-12). -/
def MemSys.flipWord (m : MemSys) : Nat :=
  2 ^ 31 * bit m.flipArm + 2 ^ 30 * bit m.flipApplied + 2 ^ 29 * bit m.flipRefused + 2 ^ 16 * m.flipClass +
    2 ^ 8 * m.flipUnit + bit m.flipAny

/-- PWR_STATUS (Table 13-13). -/
def Power.statusWord (p : Power) : Nat :=
  2 ^ 20 * p.clock + 2 ^ 10 * p.fireBudget + 2 ^ 9 * bit p.breakout.isSome + 2 ^ 8 * bit p.latchOpen +
    2 ^ 7 * bit p.railsOn + 2 ^ 6 * bit p.dip + 2 ^ 5 * bit (p.rungs.contains 2 || p.rungs.contains 4) +
    2 ^ 4 * bit (p.rungs.contains 3) + 2 ^ 3 * bit (p.rungs.contains 1) + 4 * bit p.rampLimited + 2 * bit p.capped +
    bit p.smoothing

/-- ESC_STATUS (Table 12-11). -/
def State.escortWord (s : State) : Nat :=
  let e := s.escort
  let missed := fun n top => if e.role = 0 then 0 else min n top
  2 ^ 16 * missed s.missedLink 255 + 2 ^ 12 * missed s.missedMgmt 15 + 2 ^ 11 * bit e.mgmtLost + 2 ^ 10 * bit e.linkUp +
    2 ^ 9 * bit e.copying + 2 ^ 8 * bit e.leavingSeen + 16 * e.health + e.role

/-- A 32-bit register of a block, by its offset; an unassigned offset reads 0. -/
def State.narrowReg (s : State) (fn block off : Nat) : Nat :=
  match block with
  | 1 =>
    if off = 0 then s.moduleStatus fn
    else if off = 0x18 then 2 ^ 16 * (s.fn fn).evqTail + (s.fn fn).evqHead
    else 0
  | 2 =>
    let p := s.ring fn (off / 64)
    match off % 64 with
    | 0x18 => 2 ^ 16 * p.cmdHead + p.cmdTail
    | 0x1C => 2 ^ 16 * p.rplTail + p.rplHead
    | _ => 0
  | 3 => (Map.get? s.host.msix (2 ^ 24 * fn + off)).getD 0
  | 4 =>
    if off = 0xF000 then s.mem.fence
    else if off / 256 > 25 then 0
    else
      let t := s.toll (off / 256)
      let r := off % 256
      if r = 0 then t.prioA.toNat
      else if r = 4 then t.prioB.toNat
      else if within r 0x10 0x44 then (t.limits.getD ((r - 0x10) / 4) 0).toNat
      else if r = 0x48 then t.watchdog
      else if r = 0x4C then t.statusWord
      else 0
  | 5 =>
    if off = 0 then s.mem.flipWord
    else if within off 0x10 0x30 then s.mem.flipMask.getD ((off - 0x10) / 4) 0
    else if off = 0x40 then s.mem.logHead
    else 0
  | 6 =>
    if off = 8 then s.mls.syncWord
    else if off = 0x0C then 2 ^ 16 * s.mls.holdCount + 2 * s.mls.inputs + bit s.mls.hold
    else if off = 0x10 then s.mls.releaseDelay
    else if off = 0x14 then 2 ^ 16 * (if s.linesFenced then 0xFFFF else 0) + s.mls.lineEnable
    else if off = 0x18 then s.mls.events
    else if off = 0x1C then 2 ^ 16 * s.mls.highWater + s.mls.ledger.length
    else 0
  | 7 => if off = 0 then s.power.statusWord else if off = 0x20 then s.power.events else 0
  | 8 =>
    if off = 0 then s.escortWord
    else if off = 8 then s.escort.epoch
    else if off = 0x18 then s.escort.events
    else 0
  | _ => 0

/-- What an aligned 32-bit read of a function's BAR0 gives, the latch of R276 apart. -/
def State.reg32 (s : State) (fn off : Nat) : Nat :=
  match regPlace fn off with
  | none => 0
  | some (b, o) =>
    match s.wideReg fn b (o - o % 8) with
    | some v => if o % 8 = 0 then v % 2 ^ 32 else v / 2 ^ 32
    | none => s.narrowReg fn b o

/-- A 64-bit register stands at an offset. -/
def State.isWide (s : State) (fn off : Nat) : Bool :=
  match regPlace fn off with
  | none => false
  | some (b, o) => (s.wideReg fn b (o - o % 8)).isSome

/-- A 32-bit read: the low half of a 64-bit register latches its high half, and the next read of the high half gives what was
latched (R276). -/
def execLatchedHalfRead (fn offset : Nat) (s : State) : Host.Outcome State Fault Refusal :=
  let f := s.fn fn
  if fn > 63 || offset % 4 ≠ 0 then .next (s.emit (.regRead fn offset 0))
  else if s.isWide fn offset && offset % 8 = 0 then
    let v := s.reg32 fn offset
    .next ((s.setFn fn { f with latched := some (offset, s.reg32 fn (offset + 4)) }).emit (.regRead fn offset v))
  else
    match f.latched with
    | some (o, v) =>
      if s.isWide fn offset && o + 4 = offset then
        .next ((s.setFn fn { f with latched := none }).emit (.regRead fn offset v))
      else .next (s.emit (.regRead fn offset (s.reg32 fn offset)))
    | none => .next (s.emit (.regRead fn offset (s.reg32 fn offset)))

/-! ## Writing -/

/-- A 64-bit value with one half replaced. -/
def setHalf (old : Nat) (high : Bool) (v : Nat) : Nat :=
  if high then old % 2 ^ 32 + v * 2 ^ 32 else old / 2 ^ 32 * 2 ^ 32 + v

/-- Entries of a ring or queue as a power of two, 4 to 16; other values go to the nearer limit (Table 10-7; log 69). -/
def sizeLog2 (v : Nat) : Nat := clampNat (v % 32) 4 16

/-- RNG_EVQ_CTRL bits [31:0] written (Table 10-7). -/
def State.writeEvqCtrl (s : State) (fn v : Nat) : State :=
  let s := s.setFn fn { s.fn fn with evqVector := v / 2 ^ 16 % 64 % vectors fn, evqLog2 := sizeLog2 v }
  if bitOf v 31 then s.enableEvq fn else s.setFn fn { s.fn fn with evqEnable := false }

/-- RNG_RING_CTRL written, one half at a time (Table 10-11). -/
def State.writeRingCtrl (s : State) (fn ring : Nat) (high : Bool) (v : Nat) : State :=
  let p := s.ring fn ring
  if high then s.setRing fn ring { p with coalTime := v / 2 ^ 16 % 2 ^ 16, coalCount := v / 2 ^ 8 % 256 }
  else
    let p := { p with vector := v / 2 ^ 16 % 64 % vectors fn }
    let p := if p.enable then p else { p with rplLog2 := sizeLog2 (v / 256), cmdLog2 := sizeLog2 v }
    let s := s.setRing fn ring p
    if bitOf v 31 then s.enableRing fn ring else s.disableRing fn ring

/-- A 32-bit write into a ring pair's block (Tables 10-9 to 10-14). -/
def State.writeRingReg (s : State) (fn ring off v : Nat) : State :=
  let p := s.ring fn ring
  let high := off % 8 = 4
  match off with
  | 0x18 => s.doorbell fn ring (v % 2 ^ 16) [] none
  | 0x1C => s.setReplyHead fn ring (v % 2 ^ 16)
  | _ =>
    match off / 8 with
    | 0 => if p.enable then s else s.setRing fn ring { p with cmdBase := setHalf (p.cmdBase * 4096) high v / 4096 }
    | 1 => if p.enable then s else s.setRing fn ring { p with rplBase := setHalf (p.rplBase * 4096) high v / 4096 }
    | 2 => s.writeRingCtrl fn ring high v
    | _ => s

/-- A 32-bit write into the toll block (R258). -/
def State.writeTollReg (s : State) (off v : Nat) : State :=
  if off = 0xF000 then (s.clearTollFence v).drainAll
  else if off / 256 ≤ 25 then
    s.setToll (off / 256) ((s.toll (off / 256)).write (off % 256) (BitVec.ofNat 32 v))
  else s

/-- A 32-bit write into the ECC block (R262). -/
def State.writeEccReg (s : State) (off v : Nat) : State :=
  let m := s.mem
  if off = 0 then
    let s : State := { s with mem := { m with
      flipArm := false, flipApplied := m.flipApplied && !bitOf v 30, flipRefused := m.flipRefused && !bitOf v 29,
      flipClass := v / 2 ^ 16 % 16, flipUnit := v / 2 ^ 8 % 256, flipAny := bitOf v 0 } }
    if bitOf v 31 then s.armFlip else s
  else if off = 8 || off = 0x0C then
    { s with mem := { m with flipAddr := setHalf m.flipAddr (off = 0x0C) v % 2 ^ 48 / 8 * 8 } }
  else if within off 0x10 0x30 then { s with mem := { m with flipMask := m.flipMask.set ((off - 0x10) / 4) v } }
  else s

/-- A 32-bit write into the Milestone block (R245). -/
def State.writeMlsReg (s : State) (off v : Nat) : State :=
  if off = 0x10 then { s with mls := { s.mls with releaseDelay := min (v % 2 ^ 20) 1000000 } }
  else if off = 0x14 then s.writeLineEnable (v % 2 ^ 16)
  else if off = 0x18 then { s with mls := { s.mls with events := clearBits 9 s.mls.events v } }
  else s

/-- A 32-bit write to a function's BAR0 (R276): RO fields and unassigned offsets ignore it. -/
def State.write32 (s : State) (fn off v : Nat) : State :=
  match regPlace fn off with
  | none => s
  | some (1, o) =>
    let f := s.fn fn
    if (o = 8 || o = 0x0C) && !f.evqEnable then
      s.setFn fn { f with evqBase := setHalf (f.evqBase * 4096) (o = 0x0C) v / 4096 }
    else if o = 0x10 then s.writeEvqCtrl fn v
    else if o = 0x18 then s.setEvqHead fn (v % 2 ^ 16)
    else s
  | some (2, o) => s.writeRingReg fn (o / 64) (o % 64) v
  | some (3, o) => { s with host := { s.host with msix := Map.set s.host.msix (2 ^ 24 * fn + o) v } }
  | some (4, o) => s.writeTollReg o v
  | some (5, o) => s.writeEccReg o v
  | some (6, o) => s.writeMlsReg o v
  | some (7, o) =>
    if o = 0x20 then { s with power := { s.power with events := clearBits 7 s.power.events v } } else s
  | some (8, o) =>
    if o = 0x18 then { s with escort := { s.escort with events := clearBits 6 s.escort.events v } } else s
  | some _ => s

/-- A write of `size` bytes: aligned accesses of 4 and 8 bytes take effect, others are ignored (R276). -/
def execRegisterWrite (fn offset size : Nat) (value : W64) (s : State) : Host.Outcome State Fault Refusal :=
  if fn > 63 then .next s
  else if size = 4 && offset % 4 = 0 then .next (s.write32 fn offset (value.toNat % 2 ^ 32))
  else if size = 8 && offset % 8 = 0 then
    .next ((s.write32 fn offset (value.toNat % 2 ^ 32)).write32 fn (offset + 4) (value.toNat / 2 ^ 32))
  else .next s

end Sys2Proof.Machine
end

