-- ==== Sys2Proof/Machine/Status.lean ====
section
/-! DEFINITION. GET_STATUS: the module summary and the status records (R30, R58, R61, R80, R141, R169, R208, R209, R226, R243, R269,
R291, R331, R362). -/

namespace Sys2Proof.Machine

/-- Fields of statistics counters of a record: offset, width and value of each (R414). -/
def State.statFields (s : State) (sel a b c d width : Nat) (offs : List Nat) : List (Nat × Nat × Nat) :=
  offs.map fun o => (o, width, s.stat (statKey sel a b c d o))

/-- The core status record (Table 02-11). -/
def State.coreRecord (s : State) (n : Nat) : List Byte :=
  recordBytes 128
    ([(0, 8, n), (1, 8, (s.core n).role), (2, 16, s.budget), (4, 8, s.sparesLeft n), (5, 8, s.stringsExhausted n)] ++
      s.statFields 0x0001 n 0 0 0 64 [8, 16] ++ s.statFields 0x0001 n 0 0 0 48 [24, 32, 40, 48, 56, 64, 72, 80, 88])

/-- The array health record (Table 03-7). -/
def State.arrayRecord (s : State) (core string position : Nat) : List Byte :=
  let a := s.array core string position
  let rests := min (s.cores.restCount - (s.core core).fullAtRest) 0xFFFF
  recordBytes 16
    [(0, 8, string), (1, 8, position), (2, 8, a.state),
     (3, 8, bit a.trimAtLimit + 2 * bit a.planeError + 4 * bit a.probeFailed), (4, 16, a.disagree), (6, 16, a.refired),
     (8, 16, a.suspect), (10, 16, a.calRetries), (12, 16, rests)]

/-- The mean of a bay's tokens per decode step in FP32 (Table 06-8). -/
def Bay.aMeanFloat (b : Bay) : F32 :=
  if b.accepts.isEmpty then F32.zero
  else (F32.div (F32.ofInt (b.accepts.sum : Nat)) (F32.ofInt (b.accepts.length : Nat))).v

/-- The bay convoy record (Table 06-8). -/
def State.bayRecord (s : State) (n : Nat) (b : Bay) : List Byte :=
  recordBytes 128
    ([(0, 8, n), (1, 8, ((b.bale.map (·.slices)).getD 0)), (4, 32, b.pMean), (8, 32, b.intervals.foldl max 0),
      (12, 32, b.aMeanFloat.toNat)] ++
      s.statFields 0x0003 n 0 0 0 48 [16, 24, 32, 40, 48, 56, 64, 72, 80, 88, 96] ++
      s.statFields 0x0003 n 0 0 0 32 [104, 108] ++ [(112, 48, b.covered)] ++ s.statFields 0x0003 n 0 0 0 48 [120])

/-- TTL_LEFT of a context: seconds to expiry while paused (Table 05-9). -/
def State.ttlField (s : State) (x : Ctx) : Nat :=
  if x.state ≠ 2 then 0
  else
    match x.ttlEnd with
    | none => 0xFFFFFFFF
    | some t => roundedQuotient (t - s.up) giga

/-- The context status record (Table 05-9). -/
def State.ctxRecord (s : State) (n : Nat) (x : Ctx) : List Byte :=
  let branches := (s.reqs.slot.filter fun p => p.2.context = n && p.2.branch.isSome).length
  recordBytes 96
    ([(0, 32, n), (4, 8, x.state), (5, 8, x.tenant), (8, 32, x.length), (12, 32, x.limit),
      (16, 64, ((x.geometry.map (·.1)).getD 0)), (24, 32, s.ttlField x), (28, 32, (x.inTier 0).length),
      (32, 32, (x.inTier 1).length), (36, 16, min branches 0xFFFF)] ++
      s.statFields 0x0004 0 0 n 0 48 [40, 48, 56, 64, 72])

/-- The stream status record (Table 07-13). -/
def State.streamRecord (s : State) (n : Nat) (x : VStream) : List Byte :=
  let waits := (x.waits.filter fun w => !s.elapsed w.1 giga).map (·.2)
  let mean := if waits.isEmpty then 0 else roundedQuotient waits.sum waits.length
  recordBytes 128
    ([(0, 16, n), (2, 8, x.state), (3, 8, x.tenant), (4, 16, x.width), (6, 16, x.height)] ++
      s.statFields 0x0005 0 0 n 0 48 [8, 16, 24, 32, 40, 48, 56, 64, 72, 80, 88, 96] ++
      [(104, 32, waits.foldl max 0), (108, 32, mean)] ++ s.statFields 0x0005 0 0 n 0 48 [112, 120])

/-- The ledger entry record (Table 08-8). -/
def LedgerEntry.record (e : LedgerEntry) : List Byte :=
  recordBytes 48
    [(0, 8, e.state), (1, 8, bit e.trackBound + 2 * bit e.line + 4 * bit e.posted), (2, 16, e.stream), (4, 32, e.sequence),
     (8, 32, e.request), (12, 8, e.track), (13, 8, e.tokens.length), (14, 8, e.tenant), (16, 64, twos 64 e.when_),
     (24, 64, e.tPred16 / 16), (32, 32, e.lead), (40, 64, e.expiry)]

/-- Whether a frame has a granule in a unit of a tier (R247). -/
def frameInUnit (page tier unit : Nat) : Bool :=
  page / 2 ^ 30 = tier && (List.range 16).any fun i => errorUnit tier 0 (4096 * (16 * (page % 2 ^ 30) + i)) = unit

/-- The unit of a bank (Table 09-1). -/
def bankUnit (b : Nat × Nat × Nat) : Nat := if b.1 = 0 then b.2.1 / 2 else b.2.1

/-- Frames of a retired bank, one page ID for each of its granules in a frame. -/
def bankPages (b : Nat × Nat × Nat) : List Nat :=
  let groups := if b.1 = 0 then 24 else 12
  let banks := if b.1 = 0 then 1024 else 32
  (List.range (bankFrames b.1 b.2.1 b.2.2)).map fun k =>
    pageId b.1 ((b.2.2 * groups + b.2.1 + k * (groups * banks)) / 16)

/-- Frames retired with a granule in a unit: those marked one by one, and those of retired banks that no record holds
(R267, Table 09-21). -/
def State.retiredFrames (s : State) (tier unit : Nat) : Nat :=
  let one := s.ctxs.frames.filter fun p => p.2.state = 5 && frameInUnit p.1 tier unit
  let banks := s.mem.banks.filter fun b => b.1 = tier
  let inBanks := banks.zipIdx.map fun q =>
    ((bankPages q.1).filter fun page => frameInUnit page tier unit && !Map.has s.ctxs.frames page &&
      !((banks.take q.2).any fun b => frameInBank page b.1 b.2.1 b.2.2)).length
  min (one.length + inBanks.sum) (2 ^ 32 - 1)

/-- A class and unit exist (Table 09-1). -/
def unitOk (cls unit : Nat) : Bool :=
  (cls ≤ 1 && unit ≤ 11) || (within cls 2 4 && unit ≤ 8) || (cls = 5 && unit = 0)

/-- The memory status record (Table 09-21). -/
def State.memoryRecord (s : State) (cls unit : Nat) : List Byte :=
  let banks := (s.mem.banks.filter fun b => b.1 = cls && bankUnit b = unit).length
  let frames := if cls ≤ 1 then s.retiredFrames cls unit else 0
  recordBytes 32
    ([(0, 8, cls), (1, 8, unit), (2, 8, banks), (4, 32, frames)] ++ s.statFields 0x0007 cls unit 0 0 48 [8, 16, 24])

/-- The route record (Table 01-7). -/
def State.routeRecord (s : State) (n : Nat) (r : Route) : List Byte :=
  recordBytes 64
    ([(0, 16, n), (2, 16, r.params.stream), (4, 32, r.params.context)] ++
      s.statFields 0x0008 0 0 0 n 48 [8, 16, 24, 32, 40, 48])

/-- SEQUENCES_LEFT of an action stream (Table 08-24). -/
def ActionStream.sequencesLeft (st : ActionStream) : Nat :=
  if st.params.encrypt then 2 ^ 32 - 1 - st.renewal else 2 ^ 32 - 1

/-- The action stream record (Table 08-24). -/
def State.actionRecord (s : State) (n : Nat) (st : ActionStream) : List Byte :=
  recordBytes 112
    ([(0, 16, n), (2, 8, st.params.kind), (3, 8, st.tenant), (4, 32, st.nextSeq)] ++
      s.statFields 0x0009 0 0 0 n 48 [8, 16, 24, 32, 40, 48, 56, 64, 72, 80, 88, 96] ++
      [(104, 32, st.sequencesLeft), (108, 32, (s.mls.ledger.filter fun e => e.stream = n).length)])

/-- FLAGS of OPEN_ENCODE (Table 07-6). -/
def encodeFlags (p : EncodeParams) : Nat := bit p.main10 + 2 * bit p.cbr + 4 * bit p.overlay + 8 * bit p.srtp

/-- The encode session record (Table 07-15). -/
def State.encodeRecord (s : State) (n : Nat) (x : Session) : List Byte :=
  recordBytes 32
    ([(0, 8, n), (1, 8, encodeFlags x.params), (2, 16, x.params.stream)] ++ s.statFields 0x000A n 0 0 0 48 [8, 16, 24])

/-- A segment of a bale as its record shows it: stage from 0, layer, range step, planned s_l, heads and arrays (R61). -/
structure SegmentView where
  stage : Nat
  layer : Nat
  rangeStep : Nat
  planned : Nat
  heads : Nat
  arrays : Nat
  deriving DecidableEq, Repr

/-- The segments of a bale: by stage, each stage's layer segments and then its head entries, in COST order (R61, R419). -/
def baleSegments (b : Bale) : List SegmentView :=
  (List.range b.slices).flatMap fun i =>
    ((b.segments.filter fun g => g.stage = i).map fun g =>
      { stage := i, layer := g.layer, rangeStep := g.rangeStep, planned := g.sl, heads := g.heads, arrays := g.arrays }) ++
    ((b.heads.filter fun h => h.slice = i).map fun h =>
      { stage := i, layer := if h.outrider = 0 then 0xFFFE else 0xFF00 + h.outrider, rangeStep := h.rangeStep,
        planned := h.se, heads := 0, arrays := h.arrays })

/-- The bay segment record (Table 02-12). -/
def State.segmentRecord (s : State) (bay n : Nat) (b : Bale) (g : SegmentView) : List Byte :=
  recordBytes 32
    ([(0, 8, bay), (1, 8, g.stage + 1), (2, 16, n), (4, 16, g.layer), (6, 8, g.rangeStep), (8, 16, g.planned),
      (10, 16, slotsPer b g.stage g.layer g.arrays s.budget), (12, 8, g.heads)] ++
      s.statFields 0x000B bay 0 0 n 64 [16, 24])

/-- The tenant record (Table 11-10). -/
def State.tenantRecord (s : State) (n : Nat) : List Byte :=
  let t := Map.get? s.customs.tenants n
  let f := fun (g : Tenant → Nat) => (t.map g).getD 0
  let streams := s.mls.streams.filter fun p => p.2.tenant = n && p.2.params.encrypt
  let left := streams.foldl (fun m p => min m p.2.sequencesLeft) (2 ^ 32 - 1)
  recordBytes 64
    ([(0, 8, n), (1, 8, f (·.state)), (2, 8, ((t.map (·.slot)).getD 0xFF)), (3, 8, f (·.consent)),
      (4, 16, ((t.map fun x => (s.keySlot x.slot).generation).getD 0)), (8, 64, f (·.consentCounter)),
      (16, 32, if t.isSome then s.held n 0 else 0), (20, 32, if t.isSome then s.held n 1 else 0),
      (24, 32, f (·.hbmQuota)), (28, 32, f (·.wayQuota))] ++ s.statFields 0x0060 n 0 0 0 48 [32, 40] ++ [(48, 32, left)])

/-- The key slot summary of selector 0x0061 (R331). -/
def State.slotRecord (s : State) : List Byte :=
  let n := fun st => ((List.range 128).filter fun i => (s.keySlot i).state = st).length
  recordBytes 8
    [(0, 8, n 0), (1, 8, n 3), (2, 8, n 4), (3, 8, bit s.customs.servicePort), (4, 8, s.fuses.lifecycle)]

/-- The pair record (Table 12-9). -/
def State.pairRecord (s : State) : List Byte :=
  let e := s.escort
  recordBytes 32
    ([(0, 8, e.role), (1, 8, e.health), (2, 8, e.rule), (3, 8, e.position), (4, 32, e.epoch), (8, 32, e.partner),
      (12, 32, e.coverLag)] ++ s.statFields 0x0070 0 0 0 0 48 [16, 24])

/-- What GET_STATUS finds: the refusal, or the record (R290, R291). -/
inductive Finding where
  | refuse (status : Nat)
  | record (bytes : List Byte)
  deriving DecidableEq, Repr

/-- A record that only its owner, or the physical function where `pf`, may read; a missing object gives BAD_PARAM. -/
def ownedRecord {α : Type} (o : Option α) (fn : Nat) (owner : α → Nat) (pf : Bool) (r : α → List Byte) : Finding :=
  match o with
  | none => .refuse Status.badParam
  | some x => if owner x = fn || (pf && fn = 0) then .record (r x) else .refuse Status.notPermitted

/-- A record for the physical function. -/
def pfRecord (fn : Nat) (ok : Bool) (r : List Byte) : Finding :=
  if fn ≠ 0 then .refuse Status.notPermitted else if ok then .record r else .refuse Status.badParam

/-- The physical function may read a tenant's objects under its PROFILE consent (R326). -/
def State.profiles (s : State) (tenant : Nat) : Bool := s.consents tenant 1

/-- What a selector and its keys name (Table 10-21, R331, R362). -/
def State.findStatus (s : State) (fn sel a b c d : Nat) : Finding :=
  match sel with
  | 0x0001 => pfRecord fn (a ≤ 8) (s.coreRecord a)
  | 0x0002 => pfRecord fn (a ≤ 8 && b ≤ 31 && c ≤ 129) (s.arrayRecord a b c)
  | 0x0003 => ownedRecord (s.bay a) fn (·.owner) true fun x => s.bayRecord a x
  | 0x0004 =>
    ownedRecord (s.ctx c) fn (·.tenant) (((s.ctx c).map fun x => s.profiles x.tenant).getD false) fun x => s.ctxRecord c x
  | 0x0005 =>
    ownedRecord (s.vstream c) fn (·.tenant) (((s.vstream c).map fun x => s.profiles x.tenant).getD false) fun x =>
      s.streamRecord c x
  | 0x0006 =>
    match s.stream d with
    | none => .refuse Status.badParam
    | some x =>
      if x.tenant ≠ fn && !(s.profiles x.tenant && fn = 0) then .refuse Status.notPermitted
      else match s.mls.ledger.find? fun e => e.stream = d && e.sequence = c with
        | none => .refuse Status.badParam
        | some e => .record (LedgerEntry.record e)
  | 0x0007 => pfRecord fn (unitOk a b) (s.memoryRecord a b)
  | 0x0008 => ownedRecord (Map.get? s.reqs.routes d) fn (·.tenant) false fun x => s.routeRecord d x
  | 0x0009 => ownedRecord (s.stream d) fn (·.tenant) false fun x => s.actionRecord d x
  | 0x000A => ownedRecord (Map.get? s.video.sessions a) fn (·.tenant) false fun x => s.encodeRecord a x
  | 0x000B =>
    match s.bay a with
    | none => .refuse Status.badParam
    | some x =>
      if x.owner ≠ fn && fn ≠ 0 then .refuse Status.notPermitted
      else
        match x.bale.bind fun bale => ((baleSegments bale)[d]?).map fun g => (bale, g) with
        | none => .refuse Status.badParam
        | some (bale, g) => .record (s.segmentRecord a d bale g)
  | 0x0060 =>
    if a > 63 then .refuse Status.badParam
    else if fn ≠ 0 && fn ≠ a then .refuse Status.notPermitted
    else .record (s.tenantRecord a)
  | 0x0061 => pfRecord fn true s.slotRecord
  | 0x0070 => pfRecord fn true s.pairRecord
  | _ => .refuse Status.badParam

/-- Free request slots (R143). -/
def State.freeSlots (s : State) : Nat := 16384 - s.reqs.nextSlot + s.reqs.freed.length

/-- RESULT0 of the module summary (R291). -/
def State.summary (s : State) : Nat :=
  s.freeSlots + 2 ^ 16 * s.mls.ledger.length + 2 ^ 32 * s.power.state + 2 ^ 36 * s.mls.disc + 2 ^ 40 * s.unfenced.length

/-- GET_STATUS once started (R290, R291). -/
def getStatusRun (h : Hdr) (sel a b c d : Nat) (r : CmdRef) (s : State) : State :=
  if sel = 0 then s.reply r Status.done s.summary (if h.fn = 0 then s.mem.logHead else 0)
  else
    match s.findStatus h.fn sel a b c d with
    | .refuse status => s.reply r status 0 0
    | .record bytes =>
      if payloadBytes h < bytes.length then s.reply r Status.badParam 0 0
      else (s.writePayload h.fn r.spans 0 bytes).reply r Status.done bytes.length 0

/-- GET_STATUS (R291). -/
def execGetStatus (h : Hdr) (selector keyA keyB keyC keyD : Nat) (s : State) : Host.Outcome State Fault Refusal :=
  .next (s.cmd 0x0003 h (getStatusRun h selector keyA keyB keyC keyD))

end Sys2Proof.Machine
end

