-- ==== Sys2Proof/Machine/Dispatch.lean ====
section
/-! DEFINITION. The meaning of every command and event, one arm per row of spec/opcode_table.json, in its order. -/

namespace Sys2Proof.Machine

/-- A command's effect on everything but the queue. -/
def exec (i : Instr) (s : State) : Host.Outcome State Fault Refusal :=
  match i with
  | .hello h genMax genMin => Sys2Proof.Machine.execHello h genMax genMin s
  | .getCaps h => Sys2Proof.Machine.execGetCaps h s
  | .getStatus h selector keyA keyB keyC keyD => Sys2Proof.Machine.execGetStatus h selector keyA keyB keyC keyD s
  | .setEventMask h enable => Sys2Proof.Machine.execSetEventMask h enable s
  | .loadBale h source tier store libraryIndex bale => Sys2Proof.Machine.execLoadBale h source tier store libraryIndex bale s
  | .loadBaleCopyDone fn ring tag => Sys2Proof.Machine.execLoadBaleCopyDone fn ring tag s
  | .seatBale h handle bay mode => Sys2Proof.Machine.execSeatBale h handle bay mode s
  | .seatWritesDone bay probes => Sys2Proof.Machine.execSeatWritesDone bay probes s
  | .unseatBale h bay mode discard deleteLibrary => Sys2Proof.Machine.execUnseatBale h bay mode discard deleteLibrary s
  | .unseatBaleDiscard h handle discard deleteLibrary => Sys2Proof.Machine.execUnseatBaleDiscard h handle discard deleteLibrary s
  | .bayEmptied bay => Sys2Proof.Machine.execBayEmptied bay s
  | .defineBay h p => Sys2Proof.Machine.execDefineBay h p s
  | .setPeriod h period => Sys2Proof.Machine.execSetPeriod h period s
  | .rotateNow h => Sys2Proof.Machine.execRotateNow h s
  | .unfence h core => Sys2Proof.Machine.execUnfence h core s
  | .setExhaustion h policy => Sys2Proof.Machine.execSetExhaustion h policy s
  | .openContext h limit => Sys2Proof.Machine.execOpenContext h limit s
  | .forkContext h parent position => Sys2Proof.Machine.execForkContext h parent position s
  | .pauseContext h context ttl => Sys2Proof.Machine.execPauseContext h context ttl s
  | .pauseMoveDone context => Sys2Proof.Machine.execPauseMoveDone context s
  | .pausedFrameMove context page => Sys2Proof.Machine.execPausedFrameMove context page s
  | .resumeContext h context => Sys2Proof.Machine.execResumeContext h context s
  | .resumeMoveDone context => Sys2Proof.Machine.execResumeMoveDone context s
  | .closeContext h context => Sys2Proof.Machine.execCloseContext h context s
  | .submitRequest h p inputs => Sys2Proof.Machine.execSubmitRequest h p inputs s
  | .cancelRequest h request withRecall => Sys2Proof.Machine.execCancelRequest h request withRecall s
  | .setSamplingDefine h template r => Sys2Proof.Machine.execSetSamplingDefine h template r s
  | .setSamplingDelete h template => Sys2Proof.Machine.execSetSamplingDelete h template s
  | .setConvoyPolicy h p => Sys2Proof.Machine.execSetConvoyPolicy h p s
  | .openStream h p => Sys2Proof.Machine.execOpenStream h p s
  | .closeStream h stream => Sys2Proof.Machine.execCloseStream h stream s
  | .closeEncode h session => Sys2Proof.Machine.execCloseEncode h session s
  | .openEncode h p => Sys2Proof.Machine.execOpenEncode h p s
  | .defineRoute h p => Sys2Proof.Machine.execDefineRoute h p s
  | .dropRoute h route => Sys2Proof.Machine.execDropRoute h route s
  | .dropRouteDone route => Sys2Proof.Machine.execDropRouteDone route s
  | .setTimebase h p => Sys2Proof.Machine.execSetTimebase h p s
  | .defineTrack h p => Sys2Proof.Machine.execDefineTrack h p s
  | .defineTrackDelete h track => Sys2Proof.Machine.execDefineTrackDelete h track s
  | .defineActionStream h p => Sys2Proof.Machine.execDefineActionStream h p s
  | .postLaunch h p => Sys2Proof.Machine.execPostLaunch h p s
  | .recallLaunch h stream byRequest key count => Sys2Proof.Machine.execRecallLaunch h stream byRequest key count s
  | .scrubRange h p => Sys2Proof.Machine.execScrubRange h p s
  | .scrubStop h cls unit => Sys2Proof.Machine.execScrubStop h cls unit s
  | .scrubRun cls unit found => Sys2Proof.Machine.execScrubRun cls unit found s
  | .readErrorLog h from_ count => Sys2Proof.Machine.execReadErrorLog h from_ count s
  | .retirePage h page => Sys2Proof.Machine.execRetirePage h page s
  | .retirePageBank h page => Sys2Proof.Machine.execRetirePageBank h page s
  | .retireArray h core string position => Sys2Proof.Machine.execRetireArray h core string position s
  | .addTenant h tenant hbmQuota wayQuota point => Sys2Proof.Machine.execAddTenant h tenant hbmQuota wayQuota point s
  | .removeTenant h tenant keepLibrary => Sys2Proof.Machine.execRemoveTenant h tenant keepLibrary s
  | .slotQuarantineEnd slot lateWrites => Sys2Proof.Machine.execSlotQuarantineEnd slot lateWrites s
  | .setJobKeys h jobGen payload => Sys2Proof.Machine.execSetJobKeys h jobGen payload s
  | .jobKeyOverlapEnd tenant => Sys2Proof.Machine.execJobKeyOverlapEnd tenant s
  | .setConsent h payload => Sys2Proof.Machine.execSetConsent h payload s
  | .getAttestation h payload => Sys2Proof.Machine.execGetAttestation h payload s
  | .spdmRequest message => Sys2Proof.Machine.execSpdmRequest message s
  | .pairEscortPair h joiner partnerSlot partnerSerial epochFloor partnerEpoch partnerHello trained spdmOk partnerAsksActive => Sys2Proof.Machine.execPairEscortPair h joiner partnerSlot partnerSerial epochFloor partnerEpoch partnerHello trained spdmOk partnerAsksActive s
  | .pairEscortUnpair h => Sys2Proof.Machine.execPairEscortUnpair h s
  | .setDeadRule h rule nLink nMgmt => Sys2Proof.Machine.execSetDeadRule h rule nLink nMgmt s
  | .beginShadow h p => Sys2Proof.Machine.execBeginShadow h p s
  | .bulkTransferEnd => Sys2Proof.Machine.execBulkTransferEnd s
  | .shadowWindowEnd agree compared convoys distance => Sys2Proof.Machine.execShadowWindowEnd agree compared convoys distance s
  | .promoteEscortSwap h => Sys2Proof.Machine.execPromoteEscortSwap h s
  | .plannedSwapHandover => Sys2Proof.Machine.execPlannedSwapHandover s
  | .promoteEscortAdmit h => Sys2Proof.Machine.execPromoteEscortAdmit h s
  | .stagePart h partId p => Sys2Proof.Machine.execStagePart h partId p s
  | .stagePartDiscard h partId => Sys2Proof.Machine.execStagePartDiscard h partId s
  | .activateManifest h windows unrestored => Sys2Proof.Machine.execActivateManifest h windows unrestored s
  | .norWriteDone => Sys2Proof.Machine.execNorWriteDone s
  | .getFwState h => Sys2Proof.Machine.execGetFwState h s
  | .setPowerLimits h cap rampUp rampDown => Sys2Proof.Machine.execSetPowerLimits h cap rampUp rampDown s
  | .prepareRemoval h force => Sys2Proof.Machine.execPrepareRemoval h force s
  | .prepareRemovalAbort h => Sys2Proof.Machine.execPrepareRemovalAbort h s
  | .doorbell fn ring tail packets failAddr => Sys2Proof.Machine.execDoorbell fn ring tail packets failAddr s
  | .replyRingHeadWrite fn ring head => Sys2Proof.Machine.execReplyRingHeadWrite fn ring head s
  | .ringEnableSet fn ring => Sys2Proof.Machine.execRingEnableSet fn ring s
  | .ringEnableClear fn ring => Sys2Proof.Machine.execRingEnableClear fn ring s
  | .evqEnableSet fn => Sys2Proof.Machine.execEvqEnableSet fn s
  | .evqHeadWrite fn head => Sys2Proof.Machine.execEvqHeadWrite fn head s
  | .lineEnableWrite value => Sys2Proof.Machine.execLineEnableWrite value s
  | .tollPriorityWrite toll offset value => Sys2Proof.Machine.execTollPriorityWrite toll offset value s
  | .tollFenceClear mask => Sys2Proof.Machine.execTollFenceClear mask s
  | .flipArm => Sys2Proof.Machine.execFlipArm s
  | .registerWrite fn offset size value => Sys2Proof.Machine.execRegisterWrite fn offset size value s
  | .latchedHalfRead fn offset => Sys2Proof.Machine.execLatchedHalfRead fn offset s
  | .coalesceTimeout fn ring => Sys2Proof.Machine.execCoalesceTimeout fn ring s
  | .flr fn => Sys2Proof.Machine.execFlr fn s
  | .vfEnableClear numVfs => Sys2Proof.Machine.execVfEnableClear numVfs s
  | .linkReset => Sys2Proof.Machine.execLinkReset s
  | .functionPowerStateChange fn d3hot busMaster => Sys2Proof.Machine.execFunctionPowerStateChange fn d3hot busMaster s
  | .holdAssert => Sys2Proof.Machine.execHoldAssert s
  | .holdRelease => Sys2Proof.Machine.execHoldRelease s
  | .releaseDelayEnd input => Sys2Proof.Machine.execReleaseDelayEnd input s
  | .streamHoldAssert input => Sys2Proof.Machine.execStreamHoldAssert input s
  | .streamHoldRelease input => Sys2Proof.Machine.execStreamHoldRelease input s
  | .inputEdge input rising fraction => Sys2Proof.Machine.execInputEdge input rising fraction s
  | .milestonePulse pllLocked => Sys2Proof.Machine.execMilestonePulse pllLocked s
  | .timeCodeFrame bytes => Sys2Proof.Machine.execTimeCodeFrame bytes s
  | .busLoss pllUnlocked => Sys2Proof.Machine.execBusLoss pllUnlocked s
  | .ptpMessage m => Sys2Proof.Machine.execPtpMessage m s
  | .ptpAnnounceTimeout => Sys2Proof.Machine.execPtpAnnounceTimeout s
  | .ptpSettled => Sys2Proof.Machine.execPtpSettled s
  | .holdoverLimit => Sys2Proof.Machine.execHoldoverLimit s
  | .encoderFrame port f => Sys2Proof.Machine.execEncoderFrame port f s
  | .trackStale track => Sys2Proof.Machine.execTrackStale track s
  | .milestoneTick => Sys2Proof.Machine.execMilestoneTick s
  | .entryExpiry stream sequence => Sys2Proof.Machine.execEntryExpiry stream sequence s
  | .lineMatch stream sequence => Sys2Proof.Machine.execLineMatch stream sequence s
  | .frameRelease stream sequence => Sys2Proof.Machine.execFrameRelease stream sequence s
  | .pulseEnd stream sequence => Sys2Proof.Machine.execPulseEnd stream sequence s
  | .ethernetLinkChange port up => Sys2Proof.Machine.execEthernetLinkChange port up s
  | .rtpPacket p => Sys2Proof.Machine.execRtpPacket p s
  | .senderReport r => Sys2Proof.Machine.execSenderReport r s
  | .auLaterTimeout stream => Sys2Proof.Machine.execAuLaterTimeout stream s
  | .auFramePeriodTimeout stream => Sys2Proof.Machine.execAuFramePeriodTimeout stream s
  | .pipeTake pipe => Sys2Proof.Machine.execPipeTake pipe s
  | .decodeComplete pipe d => Sys2Proof.Machine.execDecodeComplete pipe d s
  | .frameBudgetExpiry e => Sys2Proof.Machine.execFrameBudgetExpiry e s
  | .pipeRestart pipe width height bitDepth => Sys2Proof.Machine.execPipeRestart pipe width height bitDepth s
  | .streamStalled stream => Sys2Proof.Machine.execStreamStalled stream s
  | .encodePicture session startQp headerBits blocks => Sys2Proof.Machine.execEncodePicture session startQp headerBits blocks s
  | .detectorRunDone stream picture bay laterFlushed run => Sys2Proof.Machine.execDetectorRunDone stream picture bay laterFlushed run s
  | .cropBatchDone => Sys2Proof.Machine.execCropBatchDone s
  | .convoyBoundary bay work => Sys2Proof.Machine.execConvoyBoundary bay work s
  | .convoyCommit bay results => Sys2Proof.Machine.execConvoyCommit bay results s
  | .flushScatterDone context => Sys2Proof.Machine.execFlushScatterDone context s
  | .autoSwap bay => Sys2Proof.Machine.execAutoSwap bay s
  | .arrayFiring f => Sys2Proof.Machine.execArrayFiring f s
  | .refire core string position => Sys2Proof.Machine.execRefire core string position s
  | .bgCalVisit core string position first retry => Sys2Proof.Machine.execBgCalVisit core string position first retry s
  | .bgCalOverdue core => Sys2Proof.Machine.execBgCalOverdue core s
  | .fullCalPass core results => Sys2Proof.Machine.execFullCalPass core results s
  | .calStale core => Sys2Proof.Machine.execCalStale core s
  | .restPeriodEnd => Sys2Proof.Machine.execRestPeriodEnd s
  | .handoverLoadEnd firstProbe secondProbe => Sys2Proof.Machine.execHandoverLoadEnd firstProbe secondProbe s
  | .tollDecision toll requests beats cycles => Sys2Proof.Machine.execTollDecision toll requests beats cycles s
  | .tollWatchdogFence toll cycles => Sys2Proof.Machine.execTollWatchdogFence toll cycles s
  | .contextExpired context => Sys2Proof.Machine.execContextExpired context s
  | .watchdogBite part processor poisonedRam => Sys2Proof.Machine.execWatchdogBite part processor poisonedRam s
  | .keyStoreScan oneCopy bothCopies loaderBad loaderNorOk => Sys2Proof.Machine.execKeyStoreScan oneCopy bothCopies loaderBad loaderNorOk s
  | .escortCellReceive c => Sys2Proof.Machine.execEscortCellReceive c s
  | .heartbeatSend => Sys2Proof.Machine.execHeartbeatSend s
  | .mgmtHeartbeatSend => Sys2Proof.Machine.execMgmtHeartbeatSend s
  | .mgmtHeartbeatReceive m => Sys2Proof.Machine.execMgmtHeartbeatReceive m s
  | .mgmtPathLoss => Sys2Proof.Machine.execMgmtPathLoss s
  | .deadDeclaration => Sys2Proof.Machine.execDeadDeclaration s
  | .selfFence => Sys2Proof.Machine.execSelfFence s
  | .linkHalf port => Sys2Proof.Machine.execLinkHalf port s
  | .escortLinkUp partnerSerial partnerGenMax partnerGenMin partnerFormat partnerRandom => Sys2Proof.Machine.execEscortLinkUp partnerSerial partnerGenMax partnerGenMin partnerFormat partnerRandom s
  | .presenceMate slot breakout => Sys2Proof.Machine.execPresenceMate slot breakout s
  | .startRailsEnable => Sys2Proof.Machine.execStartRailsEnable s
  | .powerOnReset b => Sys2Proof.Machine.execPowerOnReset b s
  | .recoveryPartnerTimeout => Sys2Proof.Machine.execRecoveryPartnerTimeout s
  | .presenceBreak => Sys2Proof.Machine.execPresenceBreak s
  | .slotRecordRetry slot => Sys2Proof.Machine.execSlotRecordRetry slot s
  | .breakout r => Sys2Proof.Machine.execBreakout r s
  | .cablePlugEvent port lanes laneMbps present => Sys2Proof.Machine.execCablePlugEvent port lanes laneMbps present s
  | .supplyDip millivolts => Sys2Proof.Machine.execSupplyDip millivolts s
  | .dipClear millivolts => Sys2Proof.Machine.execDipClear millivolts s
  | .resetAssert => Sys2Proof.Machine.execResetAssert s
  | .resetRelease => Sys2Proof.Machine.execResetRelease s
  | .overVoltageSet => Sys2Proof.Machine.execOverVoltageSet s
  | .overVoltageClear => Sys2Proof.Machine.execOverVoltageClear s
  | .powerSample watts tenMilliamps volts => Sys2Proof.Machine.execPowerSample watts tenMilliamps volts s
  | .thermalSample inlet outlet junction flow => Sys2Proof.Machine.execThermalSample inlet outlet junction flow s
  | .ladder rung => Sys2Proof.Machine.execLadder rung s
  | .pullNotice => Sys2Proof.Machine.execPullNotice s
  | .latchClose => Sys2Proof.Machine.execLatchClose s
  | .leavingCopyCovered => Sys2Proof.Machine.execLeavingCopyCovered s
  | .removalReady => Sys2Proof.Machine.execRemovalReady s
  | .pldmEffecterSet effecter value => Sys2Proof.Machine.execPldmEffecterSet effecter value s
  | .escortLinkDown => Sys2Proof.Machine.execEscortLinkDown s
  | .coreMicrocodeHandover core => Sys2Proof.Machine.execCoreMicrocodeHandover core s
  | .recoveryFromPartner b => Sys2Proof.Machine.execRecoveryFromPartner b s
  | .watchdogRestartDone part processor => Sys2Proof.Machine.execWatchdogRestartDone part processor s

end Sys2Proof.Machine
end

