-- ==== Sys2Proof/Safety.lean ====
section
/-! DEFINITION. What the statements about runs say: the state a started host command acts in, the outputs that are launches,
what no command may change, and the canonical form of every memory. -/

namespace Sys2Proof.Machine

/-- The state in which a host command that starts on the host link acts: it stands among its ring's outstanding commands, and
where Table 12-5 lists it an ACTIVE module has copied it to the partner (R299, R343). -/
def State.started (s : State) (op : Nat) (h : Hdr) : State :=
  if copiedOpcode op then (s.markStarted h).sendRec (.command op h.tag (s.markStarted h).reqs.nextId) 64
  else s.markStarted h

/-- An output that launches an action: an Action Frame, or a launch line driven to its active level (R230, R234). -/
def Output.isLaunch : Output → Bool
  | .frame _ => true
  | .line _ level _ => level
  | _ => false

/-- The launches that have left the module, oldest first. -/
def State.launches (s : State) : List Output := s.out.filter Output.isLaunch

/-- The module may not launch: HOLD_n is or was low and its gates have not reopened, or its role is SHADOW or DETACHED
(R236, R238, Table 12-1). -/
def State.mayNotLaunch (s : State) : Prop := s.mls.hold = true ∨ s.escort.role = 3 ∨ s.escort.role = 4

/-- No fuse that R304 leaves unchanged differs, and no set bit of ANTI_ROLLBACK is clear again (R304). -/
def Fuses.keptBy (f g : Fuses) : Prop :=
  g.rootKeyHash = f.rootKeyHash ∧ g.debugPolicy = f.debugPolicy ∧ g.lifecycle = f.lifecycle ∧
    g.identitySeed = f.identitySeed ∧ g.antiRollback.length = f.antiRollback.length ∧
    ∀ i, f.antiRollback.getD i 0 ≤ g.antiRollback.getD i 0

/-- A table whose numbers rise, as every operation on tables keeps it. -/
def Map.rises {α : Type} (m : Map α) : Prop := (m.map (·.1)).Pairwise (· < ·)

/-- Every memory of the module is in its canonical form. -/
def State.memOk (s : State) : Prop := ∀ p ∈ s.mem.mem, Memory.wf p.2 = true

end Sys2Proof.Machine
end

