-- ==== Sys2Proof/Certificates/Slice0/Obligations.lean ====
section
/-! DEFINITION. The statements for the provers. -/

open Sys2Proof Sys2Proof.Machine

/-- For every command c, queue q and state s, one step of s with c in front of q is exec of c on s with the queue q. -/
def Obligations.StepRunsFront : Prop :=
  ∀ (c : Instr) (q : List Instr) (s : State),
    step { s with pending := c :: q } = exec c { s with pending := q }

/-- With an empty queue and no ring holding an unfetched entry, a step advances the interval clock by 4 ns, and module
time by 4 ns while the rails are on, and changes nothing else. That the empty step is a clock cycle, and that module
time stands still with the rails off, is the model's choice (log 1). For every command or event and every state, exec
answers a next state: no rule of the spec stops the module on one. -/
def Obligations.EveryStepAnswers : Prop :=
  (∀ s : State, s.pending = [] → (∀ p ∈ s.host.rings, p.2.unfetched = []) →
    step s = .next { s with mls := { s.mls with
      time := if s.power.railsOn then s.mls.time + 4 else s.mls.time, uptime := s.mls.uptime + 4 } }) ∧
  (∀ (c : Instr) (s : State), ∃ t : State, exec c s = .next t)

/-- A step takes at most the front command off the queue: the queue after it is the tail of the queue before it. The
queue is the model's own field. -/
def Obligations.QueueIsTheSenders : Prop :=
  ∀ s t : State, step s = .next t → t.pending = s.pending.tail

/-- Let f be the fuses of some earlier moment. In every state whose fuses have kept f (root key hash, debug policy,
lifecycle and identity seed equal, and no anti-rollback count lower), every step that answers a next state leaves
fuses that have kept f. -/
def Obligations.FusesSurviveEveryStep : Prop :=
  ∀ (f : Fuses) (s t : State), f.keptBy s.fuses → step s = .next t → f.keptBy t.fuses

/-- At reset the fuses have kept those of a module as shipped, LIFECYCLE is FIELD and DEBUG_POLICY is CONSENT_GATED.
That no anti-rollback bit is set and that the other fuses are 0 are the model's choices (log 6). -/
def Obligations.FusesAtReset : Prop :=
  Fuses.keptBy Fuses.shipped State.reset.fuses ∧ State.reset.fuses.lifecycle = 3 ∧ State.reset.fuses.debugPolicy = 3

/-- For every command or event and every state in which the module-wide gate is closed or the role is SHADOW or
DETACHED, the next state has sent no Action Frame and driven no launch line active beyond those already sent. -/
def Obligations.NoLaunchWhileHeld : Prop :=
  ∀ (c : Instr) (s t : State), s.mayNotLaunch → exec c s = .next t → t.launches = s.launches

/-- At reset the registers whose offsets stand here, of the time base, the tolls, the memories, the power and escort
blocks and the host link, read the values that stand beside them, on the physical function and the last ones on a
virtual function. Readings and choices of the model beside the rules: log 6. -/
def Obligations.RegistersAtReset : Prop :=
  let r := fun off => State.reset.reg32 0 off
  (r 0x300000 = 0 ∧ r 0x300004 = 0 ∧ r 0x300008 = 0 ∧ r 0x30000C = 1 ∧ r 0x300010 = 10000 ∧ r 0x300014 = 0 ∧
    r 0x300018 = 0 ∧ r 0x30001C = 0) ∧
  (∀ toll : Fin 26, r (0x100000 + 0x100 * toll) = 0x88888888 ∧ r (0x100004 + 0x100 * toll) = 0x0041C6A8 ∧
    (∀ q : Fin 14, r (0x100010 + 0x100 * toll + 4 * q) = 0x004000FF) ∧ r (0x100048 + 0x100 * toll) = 65536 ∧
    r (0x10004C + 0x100 * toll) = 0) ∧
  r 0x10F000 = 0 ∧ r 0x200000 = 0 ∧ r 0x200008 = 0 ∧ r 0x20000C = 0 ∧ r 0x200040 = 0 ∧ r 0x200048 = 0 ∧
  r 0x20004C = 0 ∧ (∀ i : Fin 9, r (0x200010 + 4 * i) = 0) ∧
  (r 0x400000 = 2 ^ 20 * 8 + 2 ^ 10 * 512 ∧ r 0x400018 = 3200 + 2 ^ 16 * 20 ∧ r 0x40001C = 20 ∧ r 0x400020 = 0) ∧
  (r 0x500000 = 0 ∧ r 0x500010 = 0 ∧ r 0x500014 = 0 ∧ r 0x500018 = 0) ∧
  (∀ k : Fin 8, r (0x20010 + 0x40 * k) = 0x0404 ∧ r (0x20014 + 0x40 * k) = 0x0100 ∧ r (0x20018 + 0x40 * k) = 0 ∧
    r (0x2001C + 0x40 * k) = 0 ∧ r (0x20020 + 0x40 * k) = 0 ∧ r (0x20024 + 0x40 * k) = 0) ∧
  r 0x10010 = 4 ∧ r 0x10014 = 0xFFFF ∧ r 0x10018 = 0 ∧
  State.reset.reg32 1 0x1010 = 4 ∧ State.reset.reg32 1 0x2010 = 0x0404 ∧ State.reset.reg32 1 0x300010 = 0

/-- A started SET_TIMEBASE with its fields in range (and, with STEP set, an empty ledger and no route) replaces the
settings, makes the step, runs the discipline and replies DONE with the state code and the offset. A started
DEFINE_TRACK with its fields in range makes an unknown track EMPTY with the defaults filled in, keeps the samples of
an own track whose SOURCE_ID stays and takes its parameters from the next accepted frame but for TIMEOUT, and empties
an own track whose SOURCE_ID changes; the ARMED entries of an own track that is then EMPTY return to WAITING; with
DELETE an own track that nothing names is gone. Readings and choices of the model beside the rules: logs 10 and 17. -/
def Obligations.TimeAndTrackCommands : Prop :=
  (∀ (h : Hdr) (p : TimebaseParams) (s : State), startable 0x0401 h s = true →
    let b := s.started 0x0401 h
    timebaseOk p = true → (p.step = true → b.mls.ledger = [] ∧ b.reqs.routes = []) →
    let t := (if p.step then (b.setTimebaseCfg p).stepTime p.stepNs else b.setTimebaseCfg p).discipline
    exec (.setTimebase h p) s = .next (t.reply (cmdRef 0x0401 h s) Status.done t.mls.disc (twos 64 t.mls.offset))) ∧
  (∀ (h : Hdr) (p : TrackParams) (s : State), startable 0x0402 h s = true → trackOk p = true →
    let b := s.started 0x0402 h
    let done := fun t : State => t.reply (cmdRef 0x0402 h s) Status.done 0 0
    (Map.get? b.mls.tracks p.track = none →
      exec (.defineTrack h p) s = .next (done (b.setTrack p.track (Track.fresh h.fn (trackDefaults p))))) ∧
    (∀ t, Map.get? b.mls.tracks p.track = some t → t.tenant = h.fn → t.params.sourceId ≠ p.sourceId →
      exec (.defineTrack h p) s =
        .next (done ((b.setTrack p.track (Track.fresh h.fn (trackDefaults p))).waitEntries p.track))) ∧
    (∀ t, Map.get? b.mls.tracks p.track = some t → t.tenant = h.fn → t.params.sourceId = p.sourceId →
      let u := b.setTrack p.track { t with
        params := { t.params with timeout := (trackDefaults p).timeout }, nextParams := trackDefaults p }
      exec (.defineTrack h p) s = .next (done (if t.state = 0 then u.waitEntries p.track else u)))) ∧
  (∀ (h : Hdr) (n : Nat) (s : State) (t : Track), startable 0x0402 h s = true →
    let b := s.started 0x0402 h
    Map.get? b.mls.tracks n = some t → t.tenant = h.fn → b.trackNamed n = false →
    exec (.defineTrackDelete h n) s = .next (({ b with mls := { b.mls with tracks := Map.erase b.mls.tracks n } } :
      State).reply (cmdRef 0x0402 h s) Status.done 0 0))

/-- A started DEFINE_ACTION_STREAM with its fields in range, on a stream of the sender's own or none, and on lines no
other stream names, sets the stream with MAX_WAIT's default; a new stream's first SEQUENCE is 1, and a redefinition
keeps the next one. A started POST_LAUNCH that no rule refuses takes the stream's next SEQUENCE, inserts its entry and
is ACCEPTED with the sequence and T_PRED. A started RECALL_LAUNCH on an own stream ends every entry it names that has
not launched as RECALLED and replies with the counts of those it ended and those that had launched, once the partner
has acknowledged. Readings and choices of the model beside the rules: logs 17, 79 and 84. -/
def Obligations.LaunchCommands : Prop :=
  (∀ (h : Hdr) (p : ActionParams) (s : State), startable 0x0403 h s = true →
    let b := s.started 0x0403 h
    actionStreamOk p = true → b.lineTaken p = false →
    let q := { p with maxWait := if p.maxWait = 0 then 10000 else p.maxWait }
    (b.stream p.stream = none →
      exec (.defineActionStream h p) s = .next ((b.setStream p.stream
        { tenant := h.fn, params := q, nextSeq := 1, renewal := 0, renewalRaised := false, producer := 0 }).reply
          (cmdRef 0x0403 h s) Status.done 0 0)) ∧
    (∀ o, b.stream p.stream = some o → o.tenant = h.fn →
      exec (.defineActionStream h p) s = .next ((b.setStream p.stream { o with params := q, producer := 0 }).reply
        (cmdRef 0x0403 h s) Status.done 0 0))) ∧
  (∀ (h : Hdr) (p : PostParams) (s : State) (st : ActionStream), startable 0x0404 h s = true →
    let b := s.started 0x0404 h
    b.stream p.stream = some st → postRefusal h p b = none →
    let e := postEntry p (cmdRef 0x0404 h s) b st
    e.sequence = st.nextSeq ∧ e.tokens = (p.tokens.take p.tokenCount).take 64 ∧
    exec (.postLaunch h p) s = .next (((b.takeSequence p.stream).insertEntry e).accept (cmdRef 0x0404 h s) e.sequence
      (e.tPred16 / 16))) ∧
  (∀ (h : Hdr) (stream : Nat) (byRequest : Bool) (key count : Nat) (s : State) (st : ActionStream),
    startable 0x0405 h s = true →
    let b := s.started 0x0405 h
    b.stream stream = some st → st.tenant = h.fn → (byRequest = false → count ≤ 8192) →
    let r := b.recall (recallMatches stream byRequest key (if count = 0 then 1 else count))
    exec (.recallLaunch h stream byRequest key count) s =
      .next (r.1.replyAfterAck (cmdRef 0x0405 h s) (min r.2.1 65535 + 65536 * min r.2.2 65535) true))

/-- When HOLD_n falls from released the gates close, all sixteen lines are cut, HOLD_COUNT rises and HOLD_ASSERT is
raised; when it rises the release delay starts and HOLD_RELEASE is raised; once the delay has run out the gate opens.
A stream hold input that a stream names closes its gate and cuts its streams' lines, and a rise starts its own delay.
An edge on an input that no stream names is reported, and a rise of one whose gate is still closed starts that gate's
delay. A write of the line enables cuts the lines it disables. An Ethernet port that changes joins or leaves the ports
that are up. Readings and choices of the model beside the rules: log 4. -/
def Obligations.HoldsAndLines : Prop :=
  (∀ s : State, s.mls.holdPin = true →
    exec .holdAssert s = .next ((({ s with mls := { s.mls with
      holdPin := false, hold := true, holdRose := none, holdCount := min (s.mls.holdCount + 1) 0xFFFF } } :
        State).cutLines (List.range 16)).mlsRaise 0x04)) ∧
  (∀ s : State, s.mls.holdPin = false →
    exec .holdRelease s = .next (({ s with mls := { s.mls with holdPin := true, holdRose := some s.mls.uptime } } :
      State).mlsRaise 0x08)) ∧
  (∀ (s : State) (rose : Nat), s.mls.holdRose = some rose → rose + 1000 * s.mls.releaseDelay ≤ s.mls.uptime →
    exec (.releaseDelayEnd none) s = .next { s with mls := { s.mls with hold := false, holdRose := none } }) ∧
  (∀ (s : State) (i rose : Nat), s.mls.inputRose.find? (fun p => p.1 = i) = some (i, rose) →
    rose + 1000 * s.mls.releaseDelay ≤ s.mls.uptime →
    exec (.releaseDelayEnd (some i)) s = .next { s with mls := { s.mls with
      closedInputs := s.mls.closedInputs.filter fun j => j != i,
      inputRose := s.mls.inputRose.filter fun q => q.1 != i } }) ∧
  (∀ (s : State) (i : Nat), i ≤ 6 → s.inputNamed i = true →
    exec (.streamHoldAssert i) s = .next (({ s with mls := { s.mls with
      inputs := clearBit s.mls.inputs i, closedInputs := i :: s.mls.closedInputs.filter fun j => j != i,
      inputRose := s.mls.inputRose.filter fun q => q.1 != i } } : State).cutLines (s.inputLines i))) ∧
  (∀ (s : State) (i : Nat), i ≤ 6 → s.mls.closedInputs.contains i = true →
    exec (.streamHoldRelease i) s = .next { s with mls := { s.mls with
      inputs := setBit s.mls.inputs i, inputRose := (i, s.mls.uptime) :: s.mls.inputRose.filter fun q => q.1 != i } }) ∧
  (∀ (s : State) (i fraction : Nat) (rising : Bool), i ≤ 6 → s.inputNamed i = false →
    let rose := s.mls.inputRose.filter fun q => q.1 != i
    exec (.inputEdge i rising fraction) s = .next (({ s with mls := { s.mls with
      inputs := if rising then setBit s.mls.inputs i else clearBit s.mls.inputs i,
      inputRose := if rising = true ∧ i ∈ s.mls.closedInputs then (i, s.mls.uptime) :: rose else rose } } :
        State).event 0 0x0403 i
        ((if rising then 1 else 0) + 256 * (fraction % 64)))) ∧
  (∀ (s : State) (v : Nat),
    let off := (List.range 16).filter fun l => bitOf s.mls.lineEnable l && !bitOf v l
    let t : State := { s with mls := { s.mls with lineEnable := v % 65536 } }
    exec (.lineEnableWrite v) s = .next (if off = [] then t else t.cutLines off)) ∧
  (∀ (s : State) (port : Nat) (up : Bool), port ≤ 3 →
    exec (.ethernetLinkChange port up) s = .next { s with mls := { s.mls with
      portsUp := (if up then [port] else []) ++ s.mls.portsUp.filter fun p => p != port } })

/-- A pulse with a good time code before it is measured, counts towards three that agree, and runs the discipline; one
without qualifies nothing; a good serial time code frame gives the next pulse's time and a bad one none. The bus is
lost on PLL unlock or after 3 ms without a valid pulse, the PTP source after three announce intervals. An announce of
the followed master renews it; one that is first or better replaces it; an event message of the followed master
updates the PTP offset. A servo settled for 10 s runs the discipline, and HOLDOVER beyond its limit enters FREE. The
bound within which pulses agree is the model's choice (log 82). -/
def Obligations.TimeSources : Prop :=
  (∀ (s : State) (lock : Bool) (code : Nat), s.power.railsOn = true → s.mls.nextCode = some code →
    let off : Int := (s.mls.time : Int) - code
    let agree := s.mls.goodPulses = 0 || decide ((off - s.mls.busOffset).natAbs ≤ s.pulseBound)
    let good := if !lock then 0 else if agree then min 3 (s.mls.goodPulses + 1) else 1
    exec (.milestonePulse lock) s = .next ({ s with mls := { s.mls with
      pllLocked := lock, nextCode := none, goodPulses := good, busOffset := off,
      lastPulse := if lock && agree then some s.mls.uptime else s.mls.lastPulse,
      busPresent := lock && (s.mls.busPresent || good = 3) } } : State).discipline) ∧
  (∀ (s : State) (lock : Bool), s.power.railsOn = true → s.mls.nextCode = none →
    exec (.milestonePulse lock) s = .next ({ s with mls := { s.mls with
      pllLocked := lock, goodPulses := 0, busPresent := s.mls.busPresent && lock } } : State).discipline) ∧
  (∀ (s : State) (bytes : List Byte),
    exec (.timeCodeFrame bytes) s = .next { s with mls := { s.mls with
      nextCode := if timeCodeGood bytes then some (beNat (slice 2 8 bytes)) else none } }) ∧
  (∀ (s : State) (unlocked : Bool), s.mls.busPresent = true →
    (unlocked = true ∨ ∀ t, s.mls.lastPulse = some t → t + 3000000 ≤ s.mls.uptime) →
    exec (.busLoss unlocked) s = .next ({ s with mls := { s.mls with
      busPresent := false, goodPulses := 0, pllLocked := s.mls.pllLocked && !unlocked } } : State).discipline) ∧
  (∀ (s : State) (port domain transport vlan master interval : Nat) (better : Bool),
    s.ptpMatches port domain transport vlan = true →
    ((∃ i, s.mls.ptpMaster = some (master, port, i)) →
      exec (.ptpMessage (.announce port domain transport vlan master interval better)) s = .next { s with mls :=
        { s.mls with ptpMaster := some (master, port, interval), lastAnnounce := some s.mls.uptime } }) ∧
    ((s.mls.ptpMaster = none ∨ (better = true ∧ ∀ i, s.mls.ptpMaster ≠ some (master, port, i))) →
      exec (.ptpMessage (.announce port domain transport vlan master interval better)) s = .next ({ s with mls :=
        { s.mls with ptpMaster := some (master, port, interval), lastAnnounce := some s.mls.uptime, ptpPresent := true,
                     ptpOffset := none, settledSince := none } } : State).discipline)) ∧
  (∀ (s : State) (port domain transport vlan master i : Nat) (offset : Int),
    s.ptpMatches port domain transport vlan = true → s.mls.ptpMaster = some (master, port, i) →
    exec (.ptpMessage (.event port domain transport vlan master s.mls.cfg.peerDelay offset)) s = .next ({ s with mls :=
      { s.mls with ptpOffset := some offset,
                   settledSince := if offset.natAbs ≤ 100 then some (s.mls.settledSince.getD s.mls.uptime) else none } } :
      State).discipline) ∧
  (∀ (s : State) (m p i a : Nat), s.mls.ptpMaster = some (m, p, i) → s.mls.lastAnnounce = some a →
    a + 3 * i ≤ s.mls.uptime → exec .ptpAnnounceTimeout s = .next s.dropPtp.discipline) ∧
  (∀ (s : State) (t : Nat), s.mls.settledSince = some t → t + 10000000000 ≤ s.mls.uptime →
    exec .ptpSettled s = .next s.discipline) ∧
  (∀ (s : State) (t : Nat), s.mls.disc = 3 → s.mls.holdoverSince = some t →
    t + s.mls.cfg.holdoverLimit * 1000000000 < s.mls.uptime →
    exec .holdoverLimit s = .next (({ s with mls := { s.mls with disc := 4, holdoverSince := none } } : State).mlsRaise 3))

/-- An encoder frame is offered to every track in turn. A LIVE or DEGRADED track without an accepted frame for TIMEOUT
goes STALE: its ARMED track-bound entries return to WAITING, and TRACK_STALE and the track's event are raised. A tick
walks the ledger in order, and leaves a state off the 10 µs grid alone. A track-bound entry not LOADED at its EXPIRY
ends at the tick, EXPIRED_IN_HOLD with its gate closed and LATE otherwise. Readings and choices of the model beside
the rules: log 10. -/
def Obligations.TracksAndLedgerTicks : Prop :=
  (∀ (s : State) (port : Nat) (f : EncFrame),
    exec (.encoderFrame port f) s = .next ((s.mls.tracks.map (·.1)).foldl (fun s n => s.trackFrame port f n) s)) ∧
  (∀ (s : State) (n a : Nat) (t : Track), Map.get? s.mls.tracks n = some t → t.lastAccept = some a →
    (t.state = 1 ∨ t.state = 2) → a + 1000000 * t.params.timeout ≤ s.mls.uptime →
    exec (.trackStale n) s = .next ((({ s with mls := { s.mls with
      tracks := Map.set s.mls.tracks n { t with state := 3 },
      ledger := s.mls.ledger.map fun e =>
        if e.trackBound && e.track = n && e.state = 2 then { e with state := 1, tPred16 := 0 } else e } } :
      State).mlsRaise 0x10).event t.tenant 0x0402 n 2)) ∧
  (∀ s : State, exec .milestoneTick s =
    .next (if s.mls.time % 10000 = 0 then s.mls.ledger.foldl State.tickEntry s else s)) ∧
  (∀ (s : State) (stream seq : Nat) (e : LedgerEntry), s.entry stream seq = some e → s.mls.time % 10000 = 0 →
    e.trackBound = true → e.state ≠ 3 → e.expiry ≤ s.mls.time →
    exec (.entryExpiry stream seq) s = .next (s.endEntry e (if s.entryGateClosed e then 3 else 4)))

/-- At its earliest match cycle a LOADED LINE entry ends DISCARDED on a SHADOW or DETACHED module, EXPIRED_IN_HOLD
with its gate closed, FENCED with none of its lines open, and otherwise fires on its open lines. At T_PRED - LEAD a
LOADED FRAME entry, with no other due at that instant on a port of its own that has a lower T_PRED or, with the same
T_PRED, a lower SEQUENCE, ends DISCARDED, EXPIRED_IN_HOLD, FENCED with the egress closed or without keys left,
PORT_DOWN with no port up, and otherwise leaves as one Action Frame on each of its ports that is up and ends LAUNCHED.
A pulse whose width has run out falls, and its entry ends LAUNCHED, or TRUNCATED where a line was cut. That a SHADOW
or DETACHED module discards an entry that falls due is read by inference (log 85). Readings and choices of the model
beside the rules: log 11. -/
def Obligations.LaunchesAndTheirOutcomes : Prop :=
  (∀ (s : State) (stream seq : Nat) (e : LedgerEntry) (st : ActionStream), s.entry stream seq = some e →
    s.stream stream = some st → e.line = true → e.state = 3 → s.inPulse e = false →
    earliestMatch e.tPred16 st.params.lineOffset (maskLines st.params.lineMask) ≤ s.mls.time →
    exec (.lineMatch stream seq) s = .next (
      if s.escort.role = 3 ∨ s.escort.role = 4 then s.endEntry e 7
      else if s.gateClosed st.params.holdInput then s.endEntry e 3
      else if (maskLines st.params.lineMask).all (fun l => !s.lineOpen l) then s.endEntry e 5
      else s.fireLines e st ((maskLines st.params.lineMask).filter s.lineOpen))) ∧
  (∀ (s : State) (stream seq : Nat) (e : LedgerEntry) (st : ActionStream), s.entry stream seq = some e →
    s.stream stream = some st → e.line = false → e.state = 3 → e.tPred16 ≤ 16 * (s.mls.time + e.lead) →
    s.frameBefore e = false → exec (.frameRelease stream seq) s = .next (
      if s.escort.role = 3 ∨ s.escort.role = 4 then s.endEntry e 7
      else if s.gateClosed st.params.holdInput then s.endEntry e 3
      else if s.mls.egressClosed || !s.mayRelease st then s.endEntry e 5
      else if s.upPorts e = [] then s.endEntry e 6
      else ((s.upPorts e).foldl (fun s p => s.emit (.frame (s.actionFrame e st p))) s).endEntry e 0)) ∧
  (∀ (s : State) (stream seq : Nat) (p : Pulse),
    s.mls.pulses.find? (fun p => p.entry.stream = stream && p.entry.sequence = seq) = some p → p.end16 ≤ 16 * s.mls.time →
    exec (.pulseEnd stream seq) s = .next ((({ s with mls := { s.mls with
      pulses := s.mls.pulses.filter fun q => !(q.entry.stream = stream && q.entry.sequence = seq) } } :
      State).emitFalls s.activeLines p.end16).endEntry p.entry (if p.cut then 1 else 0)))

/-- After an entry ends with any outcome, no entry of its stream and sequence stands in the ledger, in a launch slot
or in an egress queue, and every other entry of the ledger stands as before. The SEQUENCE after 0xFFFF_FFFF is 1 and
after any other value the next one, so none that starts from 1 to 0xFFFF_FFFF ever becomes 0. For 32-bit a and b, a is
newer than b exactly when (a - b) mod 2^32 lies from 1 to 2^31 - 1; the next SEQUENCE is newer than the one before it. -/
def Obligations.OutcomesAndSequences : Prop :=
  (∀ (s : State) (e : LedgerEntry) (code : Nat),
    let t := s.endEntry e code
    t.entry e.stream e.sequence = none ∧
    (∀ x ∈ t.mls.slots, ¬(x.2.1 = e.stream ∧ x.2.2 = e.sequence)) ∧
    (∀ x ∈ t.mls.egress, ¬(x.2.1 = e.stream ∧ x.2.2 = e.sequence)) ∧
    (∀ stream seq, (stream ≠ e.stream ∨ seq ≠ e.sequence) → t.entry stream seq = s.entry stream seq)) ∧
  (∀ q, 1 ≤ q → q < 2 ^ 32 → 1 ≤ nextSequence q ∧ nextSequence q < 2 ^ 32 ∧
    nextSequence q = (if q = 0xFFFFFFFF then 1 else q + 1) ∧ serialNewer (nextSequence q) q = true) ∧
  (∀ a b : BitVec 32, serialNewer a.toNat b.toNat = true ↔ 1 ≤ (a - b).toNat ∧ (a - b).toNat ≤ 2 ^ 31 - 1)

/-- After HOLD_n falls from released, the module-wide gate is closed and none of the sixteen lines is at its active
level. -/
def Obligations.HoldDropsEveryLine : Prop :=
  ∀ s t : State, s.mls.holdPin = true → exec .holdAssert s = .next t →
    t.mls.hold = true ∧ ∀ l < 16, t.lineActive l = false

/-- When a toll's port holds no grant and requests are raised, the candidates are the requesting, unfenced requesters;
any whose wait counter has reached a non-zero wait limit exclude the others; of these, those with the highest priority
stay, and the first at or after the pointer wins. The pointer moves past the winner, the winner's wait counter and
those of requesters that have dropped their request are cleared, and every other requester's rises by one up to 4,095.
With no candidate no one wins. Readings and choices of the model beside the rules: log 83. A row's grant moves no more
beats than the winner's burst limit and ends with the row unless its cycles reach the watchdog (R255, R256). -/
def Obligations.TollsDecide : Prop :=
  ∀ (s : State) (toll requests beats cycles : Nat), toll ≤ 25 → (beats ≠ 0 ∨ cycles ≠ 0) →
    let t := s.toll toll
    t.owner = none → t.ptr ≤ 13 →
    let cand := fun r : Nat => r < 14 ∧ bitOf requests r = true ∧ bitOf s.mem.fence r = false
    let due := fun r : Nat => cand r ∧ 0 < t.waitLimit r ∧ t.waitLimit r ≤ t.wait.getD r 0
    let kept := fun r : Nat => cand r ∧ ((∃ q, due q) → due r)
    let top := fun r : Nat => kept r ∧ ∀ q, kept q → t.prio s.mem.escortBoost q ≤ t.prio s.mem.escortBoost r
    let away := fun r : Nat => (r + 14 - t.ptr) % 14
    (∀ w, top w → (∀ q, top q → away w ≤ away q) → beats ≤ t.burst w →
      exec (.tollDecision toll requests beats cycles) s = .next (s.setToll toll { t with
        requests := requests % 2 ^ 14, ptr := (w + 1) % 14,
        wait := (List.range 14).map fun r =>
          if r = w ∨ bitOf requests r = false then 0 else min (t.wait.getD r 0 + 1) 4095,
        owner := if t.watchdog ≤ cycles then some w else none })) ∧
    ((∀ r, ¬cand r) →
      exec (.tollDecision toll requests beats cycles) s = .next (s.setToll toll { t with
        requests := requests % 2 ^ 14,
        wait := (List.range 14).map fun r => if bitOf requests r = true then t.wait.getD r 0 else 0 })) ∧
    ((∃ r, cand r) → ∃ w, top w ∧ ∀ q, top q → away w ≤ away q)

/-- A write of a toll's priority or limit register changes that register alone, reserved bits reading 0. A grant that
reaches TOL_WATCHDOG ends, its owner is fenced at all tolls, one WATCHDOG_FENCE entry is logged, one event is raised,
and the fence's own effect follows. Writing 1 to bits of TOL_FENCE clears them, and their requesters compete again
from wait 0 at every toll. ARM of the flip-mask arms it, or is refused where the target is another tenant's data
without debug consent. Readings and choices of the model beside the rules: log 66. -/
def Obligations.TollRegistersAndWatchdog : Prop :=
  (∀ (s : State) (toll : Nat) (v : W32), toll ≤ 25 →
    exec (.tollPriorityWrite toll 0 v) s = .next (s.setToll toll { s.toll toll with prioA := v }) ∧
    exec (.tollPriorityWrite toll 4 v) s = .next (s.setToll toll { s.toll toll with prioB := v &&& 0x00FFFFFF }) ∧
    ∀ r < 14, exec (.tollPriorityWrite toll (0x10 + 4 * r) v) s = .next (s.setToll toll { s.toll toll with
      limits := (s.toll toll).limits.set r (v &&& 0x0FFF0FFF) })) ∧
  (∀ (s : State) (toll w cycles : Nat), toll ≤ 25 → (s.toll toll).owner = some w → (s.toll toll).watchdog ≤ cycles →
    let f : State := s.setToll toll { s.toll toll with owner := none }
    let g : State := ({ f with mem := { f.mem with fence := setBit f.mem.fence w } } : State).logAdd 0x07 255 255 255 true
      (leBytes 1 toll ++ leBytes 1 w ++ leBytes 4 cycles)
    exec (.tollWatchdogFence toll cycles) s =
      .next ((g.event 0 0x0502 toll (w + 256 * g.mem.logHead)).fenceRequester w)) ∧
  (∀ (s : State) (mask : Nat),
    let freed := (List.range 14).filter fun r => bitOf s.mem.fence r && bitOf mask r
    exec (.tollFenceClear mask) s = .next ({ s with mem := { s.mem with
      fence := clearBits 14 s.mem.fence mask,
      tolls := s.mem.tolls.map fun p => (p.1, { p.2 with
        wait := p.2.wait.zipIdx.map fun q => if freed.contains q.2 then 0 else q.1 }) } } : State).drainAll) ∧
  (∀ s : State,
    let owner := s.dataOwner s.mem.flipClass s.mem.flipUnit s.mem.flipAddr
    exec .flipArm s = .next (
      if s.mem.flipAny = false ∧ owner ≠ 255 ∧ owner ≠ 0 ∧ s.consents owner 0 = false
      then { s with mem := { s.mem with flipArm := false, flipRefused := true } }
      else { s with mem := { s.mem with flipArm := true } }))

/-- A started SCRUB_RANGE with a range inside its class joins the queue and is ACCEPTED, and the scrub in progress
ends with its range read, its summary written and DONE; STOP ends the first scrub of its class and unit and replies
DONE. A started READ_ERROR_LOG with room for its entries writes them, oldest first, moves the read mark and replies
with their number and the sequence after the last. A started RETIRE_PAGE of a free frame retires it at once, of a
frame in use marks and records it, and with BANK marks the frames of the bank in use, the others being retired from
then on; each is logged, and the reply counts the frames retired at once and those pending. Readings and choices of
the model beside the rules: logs 31, 57 and 80. -/
def Obligations.ScrubLogAndRetirement : Prop :=
  (∀ (h : Hdr) (p : ScrubParams) (s : State), startable 0x0501 h s = true → scrubOk p = true → 64 ≤ payloadBytes h →
    let b := s.started 0x0501 h
    exec (.scrubRange h p) s = .next (({ b with mem := { b.mem with scrubs := b.mem.scrubs ++
      [{ ref := cmdRef 0x0501 h s, params := { p with rate := if p.rate = 0 then 16 else p.rate },
         stopped := false }] } } : State).accept (cmdRef 0x0501 h s) 0 0)) ∧
  (∀ (s : State) (cls unit : Nat) (found : List FoundError) (c : Scrub), s.power.railsOn = true →
    s.activeScrub cls unit = some c → c.params.cls = cls → classUnit cls c.params.unit = classUnit cls unit →
    (tollScrub cls = true → bitOf s.mem.fence 12 = false) →
    exec (.scrubRun cls unit found) s = .next (s.endScrub c (c.params.length / codewordBytes cls) 0 found)) ∧
  (∀ (h : Hdr) (cls unit : Nat) (s : State), startable 0x0501 h s = true → cls ≤ 5 → (within cls 2 4 = true → unit ≤ 8) →
    let b := s.started 0x0501 h
    let named := fun x : Scrub => x.params.cls = cls && classUnit cls x.params.unit = classUnit cls unit
    (b.mem.scrubs.find? named = none →
      exec (.scrubStop h cls unit) s = .next (b.reply (cmdRef 0x0501 h s) Status.done 0 0)) ∧
    (∀ x y, b.mem.scrubs.find? named = some x → b.activeScrub cls unit = some y →
      exec (.scrubStop h cls unit) s = .next ((if y.ref = x.ref then b.cutScrub x else b.endScrub x 0 1 []).reply
        (cmdRef 0x0501 h s) Status.done 0 0))) ∧
  (∀ (h : Hdr) (from_ count : Nat) (s : State) (e : LogEntry), startable 0x0502 h s = true →
    let b := s.started 0x0502 h
    let es := (logFrom b.mem.log from_).take count
    1 ≤ count → count ≤ 1024 → 64 * es.length ≤ payloadBytes h → es.getLast? = some e →
    let lost := match b.mem.log with | x :: _ => from_ ≠ 0 && serialNewer x.seq from_ | [] => false
    let w := b.writePayload h.fn (payloadSpans h) 0 (es.flatMap LogEntry.bytes)
    exec (.readErrorLog h from_ count) s = .next (({ w with mem := { w.mem with
      readMark := if w.mem.readMark = 0 || serialNewer e.seq w.mem.readMark then e.seq else w.mem.readMark } } :
      State).reply (cmdRef 0x0502 h s) Status.done (es.length + if lost then 2 ^ 63 else 0)
        (if e.seq = 2 ^ 32 - 1 then 1 else e.seq + 1))) ∧
  (∀ (h : Hdr) (page : Nat) (s : State), startable 0x0503 h s = true →
    let b := s.started 0x0503 h
    pageOk page = true → b.frameRetired page = false → b.retirements (page / 2 ^ 30) < 65536 →
    (b.frame page = none →
      exec (.retirePage h page) s = .next ((((b.setFrames (Map.set b.ctxs.frames page
        { refs := 0, tenant := 0, state := 5, family := 0, retireDue := false, poisoned := false })).recordRetired
          page).logRetired page 1 0).reply (cmdRef 0x0503 h s) Status.done 1 0)) ∧
    (∀ f, b.frame page = some f → f.retireDue = false →
      exec (.retirePage h page) s = .next ((((b.modFrame page fun f => { f with retireDue := true }).recordRetired page).logRetired page 0
        1).reply (cmdRef 0x0503 h s) Status.done 0 1))) ∧
  (∀ (h : Hdr) (page : Nat) (s : State), startable 0x0503 h s = true →
    let b := s.started 0x0503 h
    let tier := page / 2 ^ 30
    let place := granulePlace tier (16 * (page % 2 ^ 30))
    pageOk page = true → b.mem.banks.contains (tier, place.1, place.2) = false →
    (b.mem.banks.filter fun x => x.1 = tier).length < 32 →
    let here := b.ctxs.frames.filter fun p => frameInBank p.1 tier place.1 place.2
    let used := here.filter fun p => p.2.state ≠ 5
    let atOnce := bankFrames tier place.1 place.2 - here.length - b.retiredBefore tier place.1 place.2
    let banks := b.mem.banks ++ [(tier, place.1, place.2)]
    let m := b.setFrames (b.ctxs.frames.map fun p =>
      if frameInBank p.1 tier place.1 place.2 && p.2.state ≠ 5 then (p.1, { p.2 with retireDue := true }) else p)
    exec (.retirePageBank h page) s = .next ((({ m with
      mem := { m.mem with banks := banks }, persist := { m.persist with retiredBanks := banks } } : State).logRetired page
        atOnce used.length).reply (cmdRef 0x0503 h s) Status.done atOnce used.length))

/-- With every memory in its canonical form and no flip-mask armed, after a data write every byte of the class and
unit written reads the byte written in its range and its old value outside it, every other memory is unchanged, and
poison is gone from each codeword the write replaces whole and stays everywhere else. Readings and choices of the
model beside the rules: log 3. -/
def Obligations.DataWritesStore : Prop :=
  ∀ (s : State) (cls unit addr tenant : Nat) (bytes : List Byte), cls ≤ 5 → unit ≤ 8 → s.memOk →
    s.mem.flipArm = false →
    let t := s.memWrite cls unit addr bytes tenant
    (∀ a, Memory.read (t.memory cls unit) a =
      if addr ≤ a ∧ a < addr + bytes.length then bytes.getD (a - addr) 0 else Memory.read (s.memory cls unit) a) ∧
    (∀ c u, c ≤ 5 → u ≤ 8 → memKey c u ≠ memKey cls unit → t.memory c u = s.memory c u) ∧
    (∀ k w, (k, w) ∈ t.mem.poison ↔ (k, w) ∈ s.mem.poison ∧
      ¬(k = memKey cls unit ∧ addr ≤ w ∧ w + codewordBytes cls ≤ addr + bytes.length))

/-- A log entry appended to a log takes the SEQUENCE after the newest, 1 after 0xFFFF_FFFF, and becomes the newest;
the log never grows beyond 1,024 entries and loses only its oldest; and the overflow counter rises by one exactly when
the entry lost is newer than the read mark, up to its maximum. -/
def Obligations.ErrorLogKeepsOrder : Prop :=
  ∀ (s : State) (kind cls unit tenant : Nat) (raised : Bool) (detail : List Byte), s.mem.log.length ≤ 1024 →
    let t := s.logAdd kind cls unit tenant raised detail
    let seq := if s.mem.logHead = 2 ^ 32 - 1 then 1 else s.mem.logHead + 1
    t.mem.logHead = seq ∧ t.mem.log.length ≤ 1024 ∧
    t.mem.log = (if s.mem.log.length = 1024 then s.mem.log.tail else s.mem.log) ++
      [{ seq := seq, kind := kind, cls := cls, unit := unit, eventRaised := raised, time := s.mls.time, rep := 0,
         tenant := tenant, detail := detail }] ∧
    t.mem.overflow = (match s.mem.log with
      | old :: _ => if s.mem.log.length = 1024 ∧ (s.mem.readMark = 0 ∨ serialNewer old.seq s.mem.readMark = true)
          then min (s.mem.overflow + 1) (2 ^ 48 - 1) else s.mem.overflow
      | [] => s.mem.overflow) ∧
    t.mem.mem = s.mem.mem ∧ t.mem.readMark = s.mem.readMark

/-- Counting n on a 48-bit statistics counter adds n and sticks at 2^48 - 1, and leaves every other counter as it was;
a prescaled counter adds n and, once its upper 48 bits reach their maximum, reads all ones. -/
def Obligations.CountersStick : Prop :=
  ∀ (s : State) (sel a b c d off n key : Nat),
    let k := statKey sel a b c d off
    (s.count sel a b c d off n).stat k = min (s.stat k + n) (2 ^ 48 - 1) ∧
    (s.countPrescaled sel a b c d off n).stat k =
      (if (s.stat k + n) / 65536 ≥ 2 ^ 48 - 1 then 2 ^ 64 - 1 else s.stat k + n) ∧
    (key ≠ k → (s.count sel a b c d off n).stat key = s.stat key ∧
      (s.countPrescaled sel a b c d off n).stat key = s.stat key)

/-- A started HELLO with GEN_MAX 1 to 3 and GEN_MIN 1 to GEN_MAX opens its ring at generation 1 when GEN_MIN is 1 and
no other command of an open ring is outstanding; its DONE carries the agreed generation, the module's generation, the
packet version, the ring, the function and the tenant in RESULT0 and the Drover's version in RESULT1. A GEN_MIN above
1 gives BAD_VERSION and changes nothing of the ring but its outstanding tag. With a command outstanding on an open
ring it gives NOT_PERMITTED. Generations outside their ranges give BAD_PARAM. Readings and choices of the model beside
the rules: log 98. -/
def Obligations.HelloOpensTheRing : Prop :=
  ∀ (h : Hdr) (genMax genMin : Nat) (s : State), startable 0x0001 h s = true →
    let b := s.started 0x0001 h
    let c := cmdRef 0x0001 h s
    let p := b.ring h.fn h.ring
    let busy := p.open_ = true ∧ ∃ t ∈ p.outstanding, t.1 ≠ h.tag
    (1 ≤ genMax → genMax ≤ 3 → genMin = 1 → ¬ busy →
      let o := b.setRing h.fn h.ring { p with open_ := true, generation := 1 }
      exec (.hello h genMax genMin) s = .next ((o.setFn h.fn { o.fn h.fn with awaitHello := false }).reply c Status.done
        (1 + 1 * 2 ^ 8 + 1 * 2 ^ 16 + h.ring * 2 ^ 24 + h.fn * 2 ^ 32 + h.fn * 2 ^ 40) (b.fw.versions.getD 1 0))) ∧
    (1 < genMin → genMin ≤ genMax → genMax ≤ 3 → ¬ busy →
      exec (.hello h genMax genMin) s = .next (b.reply c Status.badVersion 0 0)) ∧
    (1 ≤ genMin → genMin ≤ genMax → genMax ≤ 3 → busy →
      exec (.hello h genMax genMin) s = .next (b.reply c Status.notPermitted 0 0)) ∧
    ((genMin = 0 ∨ genMax < genMin ∨ genMax > 3) →
      exec (.hello h genMax genMin) s = .next (b.reply c Status.badParam 0 0))

/-- When an event of an enabled class falls due and its function's queue is full or disabled, the only change is that
LOST rises by one, sticking at its maximum, and that the count for EVENT_LOST rises by one: no record leaves, and none
is kept for later. When an entry is free and records were lost, flushing writes exactly one EVENT_LOST record of that
count at TAIL and the count is 0 again, nothing of the dropped records with it. Enabling the queue and writing its
HEAD both flush. -/
def Obligations.EventLostAccounting : Prop :=
  (∀ (s : State) (fn code object detail : Nat), code / 256 = 0 ∨ bitOf (s.fn fn).mask (code / 256) = true →
    (s.fn fn).evqEnable = false ∨ ((s.fn fn).evqTail + 1) % 2 ^ (s.fn fn).evqLog2 = (s.fn fn).evqHead →
    s.event fn code object detail = s.setFn fn { s.fn fn with
      lost := min ((s.fn fn).lost + 1) 65535, pendingLost := (s.fn fn).pendingLost + 1 }) ∧
  (∀ (s : State) (fn : Nat), (s.fn fn).pendingLost ≠ 0 → (s.fn fn).evqEnable = true → s.canDma fn = true →
    ((s.fn fn).evqTail + 1) % 2 ^ (s.fn fn).evqLog2 ≠ (s.fn fn).evqHead →
    let t := s.flushLost fn
    (t.fn fn).pendingLost = 0 ∧ (t.fn fn).lost = (s.fn fn).lost ∧
    (t.fn fn).evqTail = ((s.fn fn).evqTail + 1) % 2 ^ (s.fn fn).evqLog2 ∧
    ∃ msgs : List Output, (∀ o ∈ msgs, o = .msix fn ((s.fn fn).evqVector % vectors fn)) ∧
      t.out = s.out ++ .event fn (s.fn fn).evqTail (s.fn fn).evqPhase 0x0001 0 (s.fn fn).pendingLost s.mls.time :: msgs) ∧
  (∀ (s : State) (fn : Nat), fn < 64 → (s.fn fn).evqEnable = false →
    exec (.evqEnableSet fn) s = .next ((s.setFn fn { s.fn fn with
      evqEnable := true, evqTail := 0, evqHead := 0, evqPhase := true }).flushLost fn)) ∧
  (∀ (s : State) (fn head : Nat), fn < 64 →
    exec (.evqHeadWrite fn head) s = .next ((s.setFn fn { s.fn fn with
      evqHead := head % 2 ^ (s.fn fn).evqLog2 }).flushLost fn))

/-- A started GET_CAPS with a payload of 64 bytes or more writes the capability record and replies DONE; a shorter
payload gives BAD_PARAM. A started GET_STATUS of selector 0 answers the module summary, with the head of the error log
for the physical function alone; of any other selector it writes the record it finds to a long enough payload and
replies DONE with the record's length, gives BAD_PARAM for a short payload, and otherwise the refusal of its selector.
The capability record is 64 bytes long, with 576,000,000,000 in its eight bytes at offset 8 and 1,024 in its two at
offset 42, and every tenant's record is 64 bytes long. A started SET_EVENT_MASK with bits 15 to 10 zero replies DONE
with the previous mask in RESULT0, and the mask then has the bits of ENABLE with bit 0 kept set; with one of bits 15
to 10 set it gives BAD_PARAM. An event of a disabled class other than 0x00 changes nothing. An event of class 0x00 or
of an enabled class is counted for EVENT_LOST or leaves as a record at TAIL with the queue's phase. The mask of a
function after its reset is 0xFFFF. That bit 0 reads as set is the model's reading of an ignored bit (log 72).
Readings and choices of the model beside the rules: logs 72 and 74. -/
def Obligations.StatusAndMasks : Prop :=
  (∀ (h : Hdr) (s : State), startable 0x0002 h s = true →
    let b := s.started 0x0002 h
    let c := cmdRef 0x0002 h s
    (64 ≤ payloadBytes h →
      exec (.getCaps h) s = .next ((b.writePayload h.fn (payloadSpans h) 0 (capsRecord h.fn)).reply c Status.done 0 0)) ∧
    (payloadBytes h < 64 → exec (.getCaps h) s = .next (b.reply c Status.badParam 0 0))) ∧
  (∀ (h : Hdr) (sel a b' c' d : Nat) (s : State), startable 0x0003 h s = true →
    let b := s.started 0x0003 h
    let c := cmdRef 0x0003 h s
    (sel = 0 → exec (.getStatus h sel a b' c' d) s =
      .next (b.reply c Status.done b.summary (if h.fn = 0 then b.mem.logHead else 0))) ∧
    (∀ bytes, sel ≠ 0 → b.findStatus h.fn sel a b' c' d = .record bytes → bytes.length ≤ payloadBytes h →
      exec (.getStatus h sel a b' c' d) s =
        .next ((b.writePayload h.fn (payloadSpans h) 0 bytes).reply c Status.done bytes.length 0)) ∧
    (∀ bytes, sel ≠ 0 → b.findStatus h.fn sel a b' c' d = .record bytes → payloadBytes h < bytes.length →
      exec (.getStatus h sel a b' c' d) s = .next (b.reply c Status.badParam 0 0)) ∧
    (∀ status, sel ≠ 0 → b.findStatus h.fn sel a b' c' d = .refuse status →
      exec (.getStatus h sel a b' c' d) s = .next (b.reply c status 0 0))) ∧
  (∀ fn : Nat, (capsRecord fn).length = 64 ∧ leNat (slice 8 8 (capsRecord fn)) = 576000000000 ∧
    leNat (slice 42 2 (capsRecord fn)) = 1024) ∧
  (∀ (s : State) (n : Nat), (s.tenantRecord n).length = 64) ∧
  (∀ (h : Hdr) (enable : Nat) (s : State), startable 0x0010 h s = true →
    let b := s.started 0x0010 h
    let c := cmdRef 0x0010 h s
    (enable < 1024 →
      let t := b.reply c Status.done (b.fn h.fn).mask 0
      exec (.setEventMask h enable) s = .next (t.setFn h.fn { t.fn h.fn with mask := setBit enable 0 })) ∧
    (1024 ≤ enable → exec (.setEventMask h enable) s = .next (b.reply c Status.badParam 0 0))) ∧
  (∀ (s : State) (fn code object detail : Nat), code / 256 ≠ 0 → bitOf (s.fn fn).mask (code / 256) = false →
    s.event fn code object detail = s) ∧
  (∀ (s : State) (fn code object detail : Nat), code / 256 = 0 ∨ bitOf (s.fn fn).mask (code / 256) = true →
    ((s.event fn code object detail).fn fn).pendingLost = (s.fn fn).pendingLost + 1 ∨
    .event fn (s.fn fn).evqTail (s.fn fn).evqPhase code object detail s.mls.time ∈ (s.event fn code object detail).out) ∧
  FnState.reset.mask = 0xFFFF

/-- A record of the core, array, memory unit, key slot or pair selector goes to the physical function alone. A
context's, a stream's or a ledger entry's record goes to its tenant, or to the physical function under the tenant's
PROFILE consent; a route's, an action stream's or an encode session's record to its tenant alone; a bay's or a
segment's to the bay's owner or the physical function; a tenant's to itself or the physical function. Every selector
outside the table is refused with BAD_PARAM, and every refusal is BAD_PARAM or NOT_PERMITTED. Readings and choices of
the model beside the rules: logs 77 and 81. -/
def Obligations.StatusIsReadByItsOwners : Prop :=
  ∀ (s : State) (fn sel a b c d : Nat),
    (∀ bytes, s.findStatus fn sel a b c d = .record bytes →
      (sel = 0x0001 ∨ sel = 0x0002 ∨ sel = 0x0007 ∨ sel = 0x0061 ∨ sel = 0x0070 → fn = 0) ∧
      (sel = 0x0003 ∨ sel = 0x000B → ∃ x, s.bay a = some x ∧ (x.owner = fn ∨ fn = 0)) ∧
      (sel = 0x0004 → ∃ x, s.ctx c = some x ∧ (x.tenant = fn ∨ (fn = 0 ∧ s.profiles x.tenant = true))) ∧
      (sel = 0x0005 → ∃ x, s.vstream c = some x ∧ (x.tenant = fn ∨ (fn = 0 ∧ s.profiles x.tenant = true))) ∧
      (sel = 0x0006 → ∃ x, s.stream d = some x ∧ (x.tenant = fn ∨ (fn = 0 ∧ s.profiles x.tenant = true))) ∧
      (sel = 0x0008 → ∃ x, Map.get? s.reqs.routes d = some x ∧ x.tenant = fn) ∧
      (sel = 0x0009 → ∃ x, s.stream d = some x ∧ x.tenant = fn) ∧
      (sel = 0x000A → ∃ x, Map.get? s.video.sessions a = some x ∧ x.tenant = fn) ∧
      (sel = 0x0060 → a ≤ 63 ∧ (fn = 0 ∨ fn = a)) ∧
      sel ∈ [0x0001, 0x0002, 0x0003, 0x0004, 0x0005, 0x0006, 0x0007, 0x0008, 0x0009, 0x000A, 0x000B, 0x0060, 0x0061,
        0x0070]) ∧
    (∀ status, s.findStatus fn sel a b c d = .refuse status → status = Status.badParam ∨ status = Status.notPermitted)

/-- A doorbell on a disabled ring only writes TAIL. On an enabled ring that may fetch and holds nothing, one new
packet is fetched, HEAD passes it, and it goes through the packet checks; a read that fails stops the ring, sets ERROR
and raises RING_ERROR with the address. Writing the reply ring's HEAD writes waiting replies and fetches on. Setting
ENABLE sets the indices to 0 and the phase to 1 with the ring closed; clearing it closes the ring, clears ERROR, drops
what was not fetched, and discards and counts the replies not yet written. COAL_TIME after the first unreported reply
the message is sent. An FLR of a present virtual function resets it alone and one of the physical function resets
every function; VF Enable cleared or NumVFs lowered resets the virtual functions above the new number; a hot reset,
conventional reset or link-down resets the physical function and every virtual one. A change of D-state or Bus Master
Enable is recorded and then held results, held replies, lost-event records and fetching go on where the function may
use host memory. Readings and choices of the model beside the rules: logs 16, 70 and 73. -/
def Obligations.RingAndFunctionRows : Prop :=
  (∀ (s : State) (fn ring tail : Nat) (packets : List (List Byte)) (failAddr : Option Nat), ringOk fn ring = true →
    (s.ring fn ring).enable = false → exec (.doorbell fn ring tail packets failAddr) s =
      .next (s.setRing fn ring { s.ring fn ring with cmdTail := tail % 2 ^ (s.ring fn ring).cmdLog2 })) ∧
  (∀ (s : State) (fn ring : Nat) (b : List Byte), ringOk fn ring = true → s.fetches fn ring = true →
    let p := s.ring fn ring
    let next := (p.cmdHead + 1) % 2 ^ p.cmdLog2
    p.unfetched = [] → 1 ≤ p.cmdLog2 → p.cmdHead < 2 ^ p.cmdLog2 →
    (p.barred b = false → exec (.doorbell fn ring next [b] none) s =
      .next ((s.setRing fn ring { p with cmdTail := next, cmdHead := next }).takePacket fn ring b)) ∧
    (∀ a, exec (.doorbell fn ring next [] (some a)) s = .next ((s.setRing fn ring { p with
      cmdTail := next, unfetched := [.inr a], error := true }).event fn 0x0003 ring a))) ∧
  (∀ (s : State) (fn ring head : Nat), ringOk fn ring = true →
    let p := s.ring fn ring
    exec (.replyRingHeadWrite fn ring head) s =
      .next (((s.setRing fn ring { p with rplHead := head % 2 ^ p.rplLog2 }).drainReplies fn ring
        p.waiting.length).fetchRing fn ring p.unfetched.length)) ∧
  (∀ (s : State) (fn ring : Nat), ringOk fn ring = true → (s.ring fn ring).enable = false →
    exec (.ringEnableSet fn ring) s = .next (s.setRing fn ring { s.ring fn ring with
      enable := true, cmdHead := 0, cmdTail := 0, rplHead := 0, rplTail := 0, phase := true, open_ := false,
      unfetched := [], sinceMsg := 0, firstSince := none })) ∧
  (∀ (s : State) (fn ring : Nat), ringOk fn ring = true → (s.ring fn ring).enable = true →
    let p := s.ring fn ring
    exec (.ringEnableClear fn ring) s = .next (s.setRing fn ring { p with
      enable := false, open_ := false, error := false, generation := 0, outstanding := [], unfetched := [], waiting := [],
      discarded := min (p.discarded + p.waiting.length) 65535, sinceMsg := 0, firstSince := none,
      session := p.session + 1 })) ∧
  (∀ (s : State) (fn ring since : Nat), ringOk fn ring = true → (s.ring fn ring).firstSince = some since →
    since + 1000 * (s.ring fn ring).coalTime ≤ s.mls.uptime →
    exec (.coalesceTimeout fn ring) s = .next ((s.setRing fn ring { s.ring fn ring with
      sinceMsg := 0, firstSince := none }).emit (.msix fn ((s.ring fn ring).vector % vectors fn)))) ∧
  (∀ (s : State) (fn : Nat), 0 < fn → fn ≤ 63 → (s.fn fn).present = true →
    exec (.flr fn) s = .next (s.resetFunction fn true)) ∧
  (∀ s : State, (s.fn 0).present = true → exec (.flr 0) s = .next ((s.resetFunction 0 true).removeVfs 0)) ∧
  (∀ (s : State) (n : Nat), exec (.vfEnableClear n) s =
    .next (((List.range 64).filter fun k => k ≠ 0 && k > n && (s.fn k).present).foldl
      (fun t k => t.resetFunction k false) s)) ∧
  (∀ s : State, exec .linkReset s = .next ((s.resetFunction 0 true).removeVfs 0)) ∧
  (∀ (s : State) (fn : Nat) (d3hot busMaster : Bool), fn ≤ 63 →
    exec (.functionPowerStateChange fn d3hot busMaster) s = .next ((List.range (ringPairs fn)).foldl (fun t k =>
      (t.drainReplies fn k (t.ring fn k).waiting.length).fetchRing fn k (t.ring fn k).unfetched.length)
      (((s.setFn fn { s.fn fn with d3hot := d3hot, busMaster := busMaster, present := true }).flushHeld fn).flushLost fn)))

/-- A packet whose CRC does not match is answered BAD_PARAM with CRC_FAILED and counted; else one whose version is not
1 BAD_VERSION; else one whose opcode is outside the table BAD_OPCODE; else one on a closed ring, other than HELLO,
BAD_VERSION; else one of another tenant NOT_PERMITTED; else one of an absent tenant NOT_PERMITTED and of a revoking
one TENANT_REVOKED, but for HELLO, GET_CAPS and GET_ATTESTATION; else one with a bad inline length, priority or
payload alignment BAD_PARAM; else one with a tag outstanding BAD_PARAM with DUPLICATE_TAG; else a command of the
physical function alone from another function NOT_PERMITTED. In each case the state is the one before with that one
final reply sent; a packet that passes them all joins the outstanding and the started commands of its ring. RSVD bytes
inside the parameters are checked with the opcode. -/
def Obligations.PacketChecksInOrder : Prop :=
  ∀ (s : State) (fn ring : Nat) (b : List Byte),
    let h := packetHdr fn ring b
    let op := leNat (slice 0 2 b)
    let p := s.ring fn ring
    let fail := fun (t : State) (status : Nat) (crc dup : Bool) => t.sendReply fn ring p.session
      { tag := leNat (slice 4 2 b), status := status, opcode := op, final := true, crcFailed := crc, dupTag := dup,
        dmaError := false, result0 := 0, result1 := 0, signal := bitOf (leNat (slice 3 1 b)) 1 }
    let tenant := Map.get? s.customs.tenants fn
    let exempt := op = 0x0001 ∨ op = 0x0002 ∨ op = 0x0604
    let crcOk := leNat (slice 60 4 b) = crc32c (b.take 60)
    let versionOk := leNat (slice 2 1 b) = 1
    let opens := p.open_ = true ∨ op = 0x0001
    let mine := leNat (slice 6 1 b) = fn
    let fieldsOk := h.inlineLength = 32 ∧ h.rsvdZero = true ∧ h.priority ≤ 7 ∧ (h.payloadLen = 0 ∨ h.payloadAddr % 64 = 0)
    let fresh := ∀ t ∈ p.outstanding, t.1 ≠ h.tag
    (¬ crcOk → s.takePacket fn ring b =
      fail (s.setRing fn ring { p with crcFailed := min (p.crcFailed + 1) 65535 }) Status.badParam true false) ∧
    (crcOk → ¬ versionOk → s.takePacket fn ring b = fail s Status.badVersion false false) ∧
    (crcOk → versionOk → op ∉ opcodes → s.takePacket fn ring b = fail s Status.badOpcode false false) ∧
    (crcOk → versionOk → op ∈ opcodes → ¬ opens → s.takePacket fn ring b = fail s Status.badVersion false false) ∧
    (crcOk → versionOk → op ∈ opcodes → opens → ¬ mine →
      s.takePacket fn ring b = fail s Status.notPermitted false false) ∧
    (crcOk → versionOk → op ∈ opcodes → opens → mine → ¬ exempt →
      (tenant = none → s.takePacket fn ring b = fail s Status.notPermitted false false) ∧
      (∀ t, tenant = some t → t.state = 2 → s.takePacket fn ring b = fail s Status.tenantRevoked false false)) ∧
    (crcOk → versionOk → op ∈ opcodes → opens → mine → (exempt ∨ ∃ t, tenant = some t ∧ t.state ≠ 2) →
      (¬ fieldsOk → s.takePacket fn ring b = fail s Status.badParam false false) ∧
      (fieldsOk → ¬ fresh → s.takePacket fn ring b = fail s Status.badParam false true) ∧
      (fieldsOk → fresh → pfOnly op = true → fn ≠ 0 → s.takePacket fn ring b = fail s Status.notPermitted false false) ∧
      (fieldsOk → fresh → (pfOnly op = false ∨ fn = 0) →
        s.takePacket fn ring b = s.setRing fn ring { p with
          outstanding := p.outstanding ++ [(h.tag, false)], fetched := p.fetched ++ [(h.tag, op, p.session)] }))

/-- When no untargeted request of its tenant is live, the reset of a function leaves each of its ring pairs at the
reset values but for the commands already started and a new session, its event queue and mask at their reset values,
every other function's rings, event queue and vectors as they were, its own vectors gone, and nothing written for its
tenant: its memory may not be written, because it awaits HELLO, and a payload write changes nothing. -/
def Obligations.ResetLeavesTheFunctionSilent : Prop :=
  ∀ (s : State) (fn : Nat) (stays : Bool), fn ≤ 63 →
    (∀ r ∈ s.liveReqs, r.tenant = fn → r.route.isSome = true ∨ r.target ≠ 0) →
    let t := s.resetFunction fn stays
    (∀ k, k < ringPairs fn → t.ring fn k = { RingPair.reset with
      fetched := (s.ring fn k).fetched, session := (s.ring fn k).session + 1 }) ∧
    t.fn fn = { FnState.reset with present := stays, awaitHello := true } ∧
    (∀ g k, g ≠ fn → k < 8 → t.ring g k = s.ring g k) ∧ (∀ g, g ≠ fn → t.fn g = s.fn g) ∧
    t.host.msix = s.host.msix.filter (fun p => p.1 / 2 ^ 24 ≠ fn) ∧ t.canWriteTenant fn = false ∧
    (∀ spans off bytes, t.writePayload fn spans off bytes = t) ∧ t.reqs = s.reqs ∧ t.mls = s.mls ∧ t.out = s.out

/-- A write of four aligned bytes writes that register and one of eight aligned bytes both halves, low half first; a
write of any other size or alignment changes nothing. A 32-bit read of the low half of a 64-bit register returns it
and latches the high half; the next read of that high half returns what was latched, whatever the register holds by
then. -/
def Obligations.RegisterRows : Prop :=
  (∀ (s : State) (fn offset : Nat) (value : W64), fn ≤ 63 →
    (offset % 4 = 0 → exec (.registerWrite fn offset 4 value) s = .next (s.write32 fn offset (value.toNat % 2 ^ 32))) ∧
    (offset % 8 = 0 → exec (.registerWrite fn offset 8 value) s =
      .next ((s.write32 fn offset (value.toNat % 2 ^ 32)).write32 fn (offset + 4) (value.toNat / 2 ^ 32))) ∧
    (∀ size, size ≠ 4 ∧ size ≠ 8 ∨ offset % size ≠ 0 → exec (.registerWrite fn offset size value) s = .next s)) ∧
  (∀ (s : State) (fn offset : Nat), fn ≤ 63 → offset % 8 = 0 → s.isWide fn offset = true →
    exec (.latchedHalfRead fn offset) s = .next ((s.setFn fn { s.fn fn with
      latched := some (offset, s.reg32 fn (offset + 4)) }).emit (.regRead fn offset (s.reg32 fn offset))) ∧
    ∀ t : State, (t.fn fn).latched = some (offset, s.reg32 fn (offset + 4)) → t.isWide fn (offset + 4) = true →
      exec (.latchedHalfRead fn (offset + 4)) t = .next ((t.setFn fn { t.fn fn with latched := none }).emit
        (.regRead fn (offset + 4) (s.reg32 fn (offset + 4)))))

/-- A read/write register reads back what was written, as far as its field reaches; a write-one-to-clear register
reads back its bits with the ones written cleared; a read-only register and an unassigned offset ignore a write, and
an unassigned offset reads 0; the base and size of a ring change only while the ring is disabled. Readings and choices
of the model beside the rules: log 69. -/
def Obligations.RegistersReadBack : Prop :=
  (∀ (s : State) (v : Nat), (s.write32 0 0x300010 v).reg32 0 0x300010 = min (v % 2 ^ 20) 1000000) ∧
  (∀ (s : State) (i v : Nat), i < 9 → s.mem.flipMask.length = 9 →
    (s.write32 0 (0x200010 + 4 * i) v).reg32 0 (0x200010 + 4 * i) = v) ∧
  (∀ (s : State) (fn k v : Nat), 0 < fn → fn ≤ 63 → k < 16 →
    (s.write32 fn (0x8000 + 4 * k) v).reg32 fn (0x8000 + 4 * k) = v) ∧
  (∀ (s : State) (v i : Nat),
    bitOf ((s.write32 0 0x300018 v).reg32 0 0x300018) i = (bitOf s.mls.events i && !(decide (i < 9) && bitOf v i)) ∧
    bitOf ((s.write32 0 0x400020 v).reg32 0 0x400020) i = (bitOf s.power.events i && !(decide (i < 7) && bitOf v i)) ∧
    bitOf ((s.write32 0 0x500018 v).reg32 0 0x500018) i = (bitOf s.escort.events i && !(decide (i < 6) && bitOf v i))) ∧
  (∀ (s : State) (v off : Nat),
    off ∈ [0, 4, 0x10000, 0x20020, 0x20024, 0x200040, 0x200048, 0x20004C, 0x300000, 0x300004, 0x300008, 0x30000C, 0x30001C,
      0x400000, 0x400008, 0x40000C, 0x400010, 0x400014, 0x400018, 0x40001C, 0x500000, 0x500008, 0x500010, 0x500014] →
    s.write32 0 off v = s) ∧
  (∀ (s : State) (fn off v : Nat), regPlace fn off = none → s.write32 fn off v = s ∧ s.reg32 fn off = 0) ∧
  (∀ (s : State) (ring off v : Nat), ring < 8 → off < 16 → (s.ring 0 ring).enable = true →
    s.write32 0 (0x20000 + 64 * ring + off) v = s) ∧
  (∀ (s : State) (ring v : Nat), ring < 8 → (s.ring 0 ring).enable = false →
    (s.write32 0 (0x20000 + 64 * ring) (v * 4096 % 2 ^ 32)).reg32 0 (0x20000 + 64 * ring) = v * 4096 % 2 ^ 32)

/-- Replies of a ring that is enabled in the command's session are written at TAIL with the ring's phase, or wait in
due order when replies already wait or the ring has no room; those of a ring closed or opened again since are
discarded and counted. Writing one advances TAIL, inverting the phase where it wraps, and sends the ring's message at
once when COAL_COUNT is 0 or 1 or COAL_TIME is 0, when COAL_COUNT replies have been written since the last message, or
when it is the final reply of a command with SIGNAL; otherwise it counts towards COAL_COUNT and starts COAL_TIME. No
other ring changes. -/
def Obligations.RepliesAndMessages : Prop :=
  ∀ (s : State) (fn ring session : Nat) (r : Reply),
    let p := s.ring fn ring
    let t := s.sendReply fn ring session r
    let tail := (p.rplTail + 1) % 2 ^ p.rplLog2
    let now := p.coalCount ≤ 1 ∨ p.coalTime = 0 ∨ p.coalCount ≤ p.sinceMsg + 1 ∨ (r.final = true ∧ r.signal = true)
    let message : List Output := [.msix fn (p.vector % vectors fn)]
    (p.enable = true → p.session = session → p.waiting = [] → s.replyRoom fn ring = true →
      (t.ring fn ring).rplTail = tail ∧ (t.ring fn ring).phase = (if tail = 0 then !p.phase else p.phase) ∧
      (now → t.out = s.out ++ .reply fn ring p.rplTail p.phase r s.mls.time :: message ∧
        (t.ring fn ring).sinceMsg = 0 ∧ (t.ring fn ring).firstSince = none) ∧
      (¬ now → t.out = s.out ++ [.reply fn ring p.rplTail p.phase r s.mls.time] ∧
        (t.ring fn ring).sinceMsg = p.sinceMsg + 1 ∧
        (t.ring fn ring).firstSince = some (p.firstSince.getD s.mls.uptime))) ∧
    (p.enable = true → p.session = session → (p.waiting ≠ [] ∨ s.replyRoom fn ring = false) →
      t = s.setRing fn ring { p with waiting := p.waiting ++ [r] }) ∧
    ((p.enable = false ∨ p.session ≠ session) →
      t = s.setRing fn ring { p with discarded := min (p.discarded + 1) 65535 }) ∧
    (∀ g k, 8 * g + k ≠ 8 * fn + ring → t.ring g k = s.ring g k)

/-- A started SET_PERIOD of 0 or 300 to 14,400 s takes effect at once and replies DONE with the previous period. A
started ROTATE_NOW during a handover joins it; otherwise, with rotation running, a core to leave, a resting core, and
no hold on the rotation of the leaving core's slice, it begins the handover, and without any one of these it is
refused with NOT_PERMITTED. A started UNFENCE of a core that is not fenced replies DONE with no effect; of one fenced
by policy, or with its toll bit still set, it is refused with NOT_PERMITTED; of another fenced core it makes it a
resting core and replies DONE, with its rest scrubs where rotation then runs and every slice has a core. A started
SET_EXHAUSTION replies DONE with the previous policy. A started RETIRE_ARRAY of a working array that backs a mapped
index joins a switch of that index that already waits; else with a spare in its string the spare takes the index at
once and the array is recorded, its tile written first where the core loads or the bay's slice is being written; on a
core in service that serves a seated bale the spare is written and probed and the switch waits for the next boundary,
and on one that a handover takes from service it waits unwritten; with no spare the array is retired under the
exhaustion policy. One of an array that backs no index, or is not working, records it unless it is recorded. Readings
and choices of the model beside the rules: logs 38, 39, 43 and 76. -/
def Obligations.CoreCommands : Prop :=
  (∀ (h : Hdr) (period : Nat) (s : State), startable 0x0110 h s = true → period = 0 ∨ (300 ≤ period ∧ period ≤ 14400) →
    let b := s.started 0x0110 h
    exec (.setPeriod h period) s = .next (({ b with cores := { b.cores with restPeriod := period } } : State).reply
      (cmdRef 0x0110 h s) Status.done b.cores.restPeriod 0)) ∧
  (∀ (h : Hdr) (s : State), startable 0x0110 h s = true →
    let b := s.started 0x0110 h
    let c := cmdRef 0x0110 h s
    (∀ g, b.cores.handover = some g → exec (.rotateNow h) s = .next { b with cores := { b.cores with
      handover := some { g with refs := g.refs ++ [c] } } }) ∧
    (∀ out inc, b.cores.handover = none → b.outgoingCore = some out → b.restingCore = some inc → b.rotates = true →
      b.rotationHeld out = false →
      let t := b.setCore inc { b.core inc with role := 3, slice := (b.core out).slice }
      let g : Handover := { outgoing := some out, incoming := inc, loaded := false, refs := [c], forFence := false }
      exec (.rotateNow h) s = .next { t with cores := { t.cores with handover := some g } }) ∧
    (b.cores.handover = none → (b.rotates = false ∨ b.outgoingCore = none ∨ b.restingCore = none ∨
        ∃ out, b.outgoingCore = some out ∧ b.rotationHeld out = true) →
      exec (.rotateNow h) s = .next (b.reply c Status.notPermitted 0 0))) ∧
  (∀ (h : Hdr) (core : Nat) (s : State), startable 0x0110 h s = true → core ≤ 8 →
    let b := s.started 0x0110 h
    let c := cmdRef 0x0110 h s
    ((b.core core).role ≠ 2 → exec (.unfence h core) s = .next (b.reply c Status.done 0 0)) ∧
    ((b.core core).role = 2 → (b.core core).fenceReason = 0 ∨ bitOf b.mem.fence core = true →
      exec (.unfence h core) s = .next (b.reply c Status.notPermitted 0 0)) ∧
    ((b.core core).role = 2 → (b.core core).fenceReason ≠ 0 → bitOf b.mem.fence core = false →
      let t := b.setCore core { b.core core with role := 1, slice := none, restStart := some b.mls.uptime,
                                                 restScrubbed := false }
      let whole := ∀ i, i < 8 → ∃ p ∈ t.cores.core, p.2.slice = some i
      (t.rotates = true → whole → exec (.unfence h core) s = .next ((t.restScrub core).reply c Status.done 0 0)) ∧
      ((t.rotates = false ∨ ¬ whole) → exec (.unfence h core) s = .next (t.reply c Status.done 0 0)))) ∧
  (∀ (h : Hdr) (policy : Nat) (s : State), startable 0x0110 h s = true → policy ≤ 1 →
    let b := s.started 0x0110 h
    exec (.setExhaustion h policy) s = .next (({ b with cores := { b.cores with exhaustion := policy } } : State).reply
      (cmdRef 0x0110 h s) Status.done b.cores.exhaustion 0)) ∧
  (∀ (h : Hdr) (core string position : Nat) (s : State), startable 0x0504 h s = true →
    core ≤ 8 → string ≤ 31 → position ≤ 129 →
    let b := s.started 0x0504 h
    let c := cmdRef 0x0504 h s
    let a := b.array core string position
    (∀ i, b.indexAt core string position = some i → a.state = 0 → b.remapWaits core string i = true →
      exec (.retireArray h core string position) s = .next (b.queueRemap core string i position (some c))) ∧
    (∀ i p, b.indexAt core string position = some i → a.state = 0 → b.remapWaits core string i = false →
      b.nextSpare core string = some p →
      let t := b.setArray core string p { b.array core string p with state := 0, standbyFor := none, writeEnd := none }
      let written := b.writtenIndex core i
      (b.leavesService core = true → written = false →
        exec (.retireArray h core string position) s = .next (t.queueRemap core string i p (some c))) ∧
      (b.leavesService core = false → (b.core core).role = 0 → b.servesBay core = true → written = false →
        exec (.retireArray h core string position) s = .next ((b.takeSpare core string i p).queueRemap core string i p (some c))) ∧
      ((b.core core).role = 3 ∨ written = true → exec (.retireArray h core string position) s =
        .next ((((t.writeIndex core string i p).setRemap core string i p).recordArray core string position).reply c
          Status.done 0 0)) ∧
      (written = false → ((b.core core).role = 1 ∨ (b.core core).role = 2 ∨
          ((b.core core).role = 0 ∧ b.leavesService core = false ∧ b.servesBay core = false)) →
        exec (.retireArray h core string position) s =
          .next (((t.setRemap core string i p).recordArray core string position).reply c Status.done 0 0))) ∧
    (∀ i, b.indexAt core string position = some i → a.state = 0 → b.remapWaits core string i = false →
      b.nextSpare core string = none →
      exec (.retireArray h core string position) s =
        .next ((b.retireNoSpare core string position i).reply c Status.done 0 0)) ∧
    (b.indexAt core string position = none ∨ a.state ≠ 0 → exec (.retireArray h core string position) s =
      .next ((if a.state = 3 then b else b.recordArray core string position).reply c Status.done 0 0)))

/-- A background visit of an array of an in-service core whose 27 calibration firings are made, 54 where an error is
large, counts the saturated conversions among them, moves each column's trims against the measured errors, and counts
the array as visited; before its firings are made it changes nothing. Ten pass periods without a complete pass raise
BG_CAL_OVERDUE once, and thirty days without a full calibration while none runs raise CAL_STALE once. A full pass that
is due on the resting core counts its firings, sets every column's trims at every step, leaves the pattern in the
core's weight storage and records the time; one that is not due changes nothing. A rest period that ends, with the
final pass of the resting core made, begins the handover to the resting core unless the rotation of the leaving slice
is held. A load that ends with its probes good swaps the roles at the next boundary, at once where no bay is seated on
the slice; each probe that disagrees is counted and its array written anew, and a second failed probe abandons the
handover. What a free visit's counter and the pattern of its storage are is the model's choice (logs 36 and 37).
Readings and choices of the model beside the rules: logs 8, 35, 38 and 44. -/
def Obligations.CalibrationAndRotation : Prop :=
  (∀ (s : State) (core string position : Nat) (first retry : List CalMeasure), s.power.railsOn = true → core ≤ 8 →
    string ≤ 31 → position ≤ 129 → (s.core core).role = 0 →
    let a := s.array core string position
    let redo := first.zipIdx.any fun p => calLarge (columnStep a p.2) p.1
    let need := if redo = true then 54 else 27
    let n := calSaturated a (if redo = true then first ++ retry else first)
    let t := s.setArray core string position { a with
      calFired := 0, calRetries := if redo = true then min (a.calRetries + 1) 65535 else a.calRetries }
    let u := if n = 0 then t else t.countPrescaled 0x0001 core 0 0 0 16 n
    (need ≤ a.calFired → exec (.bgCalVisit core string position first retry) s =
      .next ((u.visitColumns core string position first (if redo = true then retry else [])).markVisited core string
        position)) ∧
    (a.calFired < need → exec (.bgCalVisit core string position first retry) s = .next s)) ∧
  (∀ (s : State) (core : Nat), core ≤ 8 → (s.core core).role = 0 → (s.core core).overdue = false →
    (s.core core).passStart + 10 * s.cores.passPeriod * 1000000 ≤ s.mls.uptime → exec (.bgCalOverdue core) s =
      .next ((s.setCore core { s.core core with overdue := true }).event 0 0x0101 core 0)) ∧
  (∀ (s : State) (core : Nat) (results : List FullCalResult), s.power.railsOn = true → core ≤ 8 →
    (s.core core).role = 1 →
    let d : State := { s with free := s.free + 1 }
    let u := ((d.countFirings core fullCalFirings).fullColumns core s.free results).writePatterns core
    (s.fullCalDue core = true → exec (.fullCalPass core results) s = .next (u.setCore core { u.core core with
      lastFullCal := some u.mls.uptime, fullAtRest := u.cores.restCount, calStale := false })) ∧
    (s.fullCalDue core = false → exec (.fullCalPass core results) s = .next s)) ∧
  (∀ (s : State) (core : Nat), core ≤ 8 → (s.core core).role = 0 → (s.core core).calStale = false → s.rotates = false →
    let since := (s.core core).lastFullCal.getD 0
    since + 30 * 86400 * 1000000000 ≤ s.mls.uptime → exec (.calStale core) s =
      .next ((s.setCore core { s.core core with calStale := true }).event 0 0x0102 core
        (min 65535 ((s.mls.uptime - since) / 86400000000000)))) ∧
  (∀ (s : State) (out inc : Nat), s.rotates = true → s.power.railsOn = true → s.cores.handover = none →
    s.cores.restFrom + s.cores.restPeriod * 1000000000 ≤ s.mls.uptime → s.restingCore = some inc →
    s.finalPassDone inc = true →
    let t : State := { s with cores := { s.cores with restFrom := s.mls.uptime, restCount := s.cores.restCount + 1 } }
    t.outgoingCore = some out →
    (t.rotationHeld out = false → exec .restPeriodEnd s = .next (t.beginHandover out inc [])) ∧
    (t.rotationHeld out = true → exec .restPeriodEnd s = .next t)) ∧
  (∀ (s : State) (g : Handover) (slice : Nat) (first second : List (Nat × Nat)), s.cores.handover = some g →
    g.loaded = false → (s.core g.incoming).slice = some slice →
    let t := ((s.readSliceStaging slice).initArrays g.incoming).loadSlice slice g.incoming
    let again := second.filter first.contains
    let u := again.foldl (fun v p => v.probeDisagrees g.incoming p.1 p.2)
      (first.foldl (fun v p => (v.probeDisagrees g.incoming p.1 p.2).rewriteArray g.incoming p.1 p.2)
        (t.countFirings g.incoming (t.loadedArrays slice + first.length)))
    let seated := ∃ b ∈ u.bays.bay, b.2.seated.isSome = true ∧ bitOf b.2.sliceMask slice = true
    (again = [] → seated → exec (.handoverLoadEnd first second) s =
      .next { u with cores := { u.cores with handover := some { g with loaded := true } } }) ∧
    (again = [] → ¬ seated → exec (.handoverLoadEnd first second) s = .next (u.swapRoles { g with loaded := true })) ∧
    (∀ st p rest, again = (st, p) :: rest →
      let v := (again.foldl (fun v q => v.probeFailed g.incoming q.1 q.2) u).abandonHandover.event 0 0x0103 g.incoming
        (g.outgoing.getD 255 + 256 * st + 65536 * p)
      exec (.handoverLoadEnd first second) s = .next (if g.forFence then v.loseSlice slice g.incoming else v)))

/-- A core makes a firing when the rails are on, its sequencer runs, the place exists, its role makes firings of the
kind, and a data firing serves a tile, a probe follows the end of a load, keep-warm firings stay below the mean rate
of the in-service cores, and a filler firing smooths the load; a fenced core makes none, and data firings come from
in-service cores alone. Such a firing goes on when the budget, the string cap, the one firing of an array in a slot
and the cap of calibration firings leave room: its group is aligned, its flushed elements are counted once for the
group, and it goes on with the aligned elements; a calibration firing is counted on its core and array. A group with a
NaN scale is not fired, whatever the room, and gives quiet NaN results. Without room, or where the core makes no such
firing, nothing happens. A pending re-fire is made on its standby in a later slot that has room, and waits otherwise.
Readings and choices of the model beside the rules: logs 8 and 9. -/
def Obligations.Firings : Prop :=
  (∀ (s : State) (f : Firing), s.fires f = true →
    let i := s.inputOf f
    let tile := if f.kind = .data then (s.dataEntry f).map fun e => tileRef f e.1 e.2 else none
    let al := alignGroup i.1
    let room := s.mayFire f.core f.string f.position (f.kind = .calibration)
    (f.kind ≠ .calibration → groupNaN i.1 = true → exec (.arrayFiring f) s = .next (i.2.fireNaN f tile)) ∧
    (f.kind ≠ .calibration → groupNaN i.1 = false → room = true → exec (.arrayFiring f) s =
      .next ((if newGroup f = true ∧ al.2.2 ≠ 0 then i.2.count 0x0001 f.core 0 0 0 24 al.2.2 else i.2).fireAligned f tile
        al.1 al.2.1)) ∧
    (f.kind = .calibration → room = true → exec (.arrayFiring f) s = .next (s.fireCalibration f)) ∧
    (f.kind = .calibration ∨ groupNaN i.1 = false → room = false → exec (.arrayFiring f) s = .next s)) ∧
  (∀ (s : State) (f : Firing), s.fires f = false → exec (.arrayFiring f) s = .next s) ∧
  (∀ (s : State) (f : Firing), s.fires f = true ↔ s.power.railsOn = true ∧ s.sequencerDown f.core = false ∧ f.core ≤ 8 ∧
    f.string ≤ 31 ∧ f.position ≤ 129 ∧ roleFires (s.core f.core).role f.kind = true ∧
    (f.kind = .data → ∃ e, s.dataEntry f = some e) ∧
    (f.kind = .probe → ∃ g, s.cores.handover = some g ∧ g.loaded = true ∧ g.incoming = f.core) ∧
    (f.kind = .keepWarm → (s.lastSecond id (s.core f.core).recentWarm).length < s.serviceRate) ∧
    (f.kind = .filler → s.power.smoothing = true)) ∧
  (∀ k, roleFires 2 k = false) ∧
  (∀ role, roleFires role .data = true → role = 0) ∧
  (∀ (s : State) (core string position : Nat) (p : PendingRefire),
    s.cores.refires.find? (fun q => q.firing.core = core && q.firing.string = string && q.firing.position = position) =
      some p →
    (p.slot < s.slotNow → s.mayFire core string p.standby false = true →
      exec (.refire core string position) s = .next (s.makeRefire p)) ∧
    (s.slotNow ≤ p.slot ∨ s.mayFire core string p.standby false = false →
      exec (.refire core string position) s = .next s))

/-- A data firing that is made, whose checksum difference does not exceed the threshold and whose array holds no
suspect word, advances the free values by the 1,044 conversions it made, leaves every other core as it was and every
array too, and leaves the contexts, requests, bays, module time, memory, video, tenants, escort, power and firmware as
the storing or reading of its input group left them; ARRAY_FIRINGS of its core rises by one where it has not stuck.
Readings and choices of the model beside the rules: log 8. -/
def Obligations.AgreeingFiring : Prop :=
  ∀ (s t : State) (f : Firing), s.fires f = true → f.kind = .data →
    s.mayFire f.core f.string f.position false = true →
    let g := (s.inputOf f).1
    let u := (s.inputOf f).2
    groupNaN g = false → (u.array f.core f.string f.position).wordSuspect = false →
    (u.fire f.core f.string f.position (alignGroup g).1 u.free).dis ≤ checkThreshold (u.tolerance f.bay) →
    exec (.arrayFiring f) s = .next t →
    t.free = u.free + 1044 ∧ t.ctxs = u.ctxs ∧ t.reqs = u.reqs ∧ t.bays = u.bays ∧ t.mls = u.mls ∧ t.mem = u.mem ∧
    t.video = u.video ∧ t.customs = u.customs ∧ t.escort = u.escort ∧ t.power = u.power ∧ t.fw = u.fw ∧
    (∀ n, n ≠ f.core → t.core n = u.core n) ∧
    (∀ c st p, t.array c st p = u.array c st p) ∧
    (u.stat (statKey 0x0001 f.core 0 0 0 8) + 1 < 2 ^ 64 - 65536 →
      t.stat (statKey 0x0001 f.core 0 0 0 8) = u.stat (statKey 0x0001 f.core 0 0 0 8) + 1)

/-- The four digits of an aligned activation are 0 to 3 for digits 0 to 2 and -2 to 1 for digit 3, and weigh up to the
activation. An error-free conversion is within half an LSB of its partial sum wherever it is not clamped, and every
conversion lies in the converter's range. The three checksum cells of a row carry its weight sum with the published
offsets. The cells of a weight word lie in -8 to 7. A column integer of four codes that are each within half an LSB of
their digit's partial sum is within 85 half LSBs of the column's exact sum, both in half units. -/
def Obligations.DigitsCodesAndChecksums : Prop :=
  (∀ x : Int, -128 ≤ x → x ≤ 127 →
    64 * digit x 3 + 16 * digit x 2 + 4 * digit x 1 + digit x 0 = x ∧ -2 ≤ digit x 3 ∧ digit x 3 ≤ 1 ∧
    ∀ k, k < 3 → 0 ≤ digit x k ∧ digit x k ≤ 3) ∧
  (∀ (p err : Int) (step : Nat), -512 ≤ convert p step err ∧ convert p step err ≤ 511) ∧
  (∀ (p : Int) (step : Nat), -512 * (lsb2 step : Int) ≤ 2 * p → 2 * p ≤ 511 * (lsb2 step : Int) →
    2 * (2 * p - (lsb2 step : Int) * convert p step 0).natAbs ≤ lsb2 step) ∧
  (∀ r : Int, -2048 ≤ r → r ≤ 2047 →
    256 * cellValue (checksumTriple r).1 + 16 * cellValue (checksumTriple r).2.1 + cellValue (checksumTriple r).2.2 + 136 = r) ∧
  (∀ w : W64, ∀ c ∈ wordCells w, -8 ≤ c ∧ c ≤ 7) ∧
  (∀ (p : Nat → Int) (step : Nat), (∀ k, k < 4 → -512 * (lsb2 step : Int) ≤ 2 * p k ∧ 2 * p k ≤ 511 * (lsb2 step : Int)) →
    let code := fun k => convert (p k) step 0
    2 * (columnInt step (code 3) (code 2) (code 1) (code 0) -
      2 * (64 * p 3 + 16 * p 2 + 4 * p 1 + p 0)).natAbs ≤ 85 * lsb2 step)

/-- In a core table whose numbers rise, as they do at reset and after every change of a core, fencing a core that is
not yet fenced leaves it in role FENCED with no slice, no output sum and no pending re-fire, with the reason recorded;
fencing a fenced core changes nothing. RETIRE_ARRAY on a resting core, of an array whose index waits for no switch and
whose bay is not being written, moves the mapped index of the array to the spare it takes, leaves the array retired
and in the flash record, and adds one log entry. Readings and choices of the model beside the rules: log 43. -/
def Obligations.FencedCore : Prop :=
  (∀ (s : State) (n reason : Nat), Map.rises s.cores.core → (s.core n).role ≠ 2 →
    let t := s.fenceCore n reason
    (t.core n).role = 2 ∧ (t.core n).slice = none ∧ (t.core n).fenceReason = reason ∧ (t.core n).sums = [] ∧
    ∀ r ∈ t.cores.refires, r.firing.core ≠ n) ∧
  (∀ (s : State) (n reason : Nat), (s.core n).role = 2 → s.fenceCore n reason = s) ∧
  (∀ (h : Hdr) (core string position i p : Nat) (s t : State), startable 0x0504 h s = true →
    core ≤ 8 → string ≤ 31 → position ≤ 129 →
    let b := s.started 0x0504 h
    b.indexAt core string position = some i → b.nextSpare core string = some p → (b.array core string position).state = 0 →
    (b.core core).role = 1 → b.remapWaits core string i = false → b.writtenIndex core i = false → exec (.retireArray h core string position) s = .next t →
    t.physical core string i = p ∧ (t.array core string position).state = 3 ∧ (t.array core string p).state = 0 ∧
    arrayKey core string position ∈ t.persist.retiredArrays ∧
    t.mem.logHead = (if b.mem.logHead = 2 ^ 32 - 1 then 1 else b.mem.logHead + 1)) ∧
  Map.rises State.reset.cores.core ∧ (∀ (s : State) (n : Nat) (c : Core), Map.rises s.cores.core →
    Map.rises (s.setCore n c).cores.core)

/-- A started LOAD_BALE with its fields in range begins the copy of the payload's bale, or of the tenant's own bale of
a flash index; an index that holds no bale of the tenant gives BAD_PARAM. A started SEAT_BALE or UNSEAT_BALE of a bay
by its owner joins the bay's work; by another function it is refused. A started UNSEAT_BALE of a handle waits behind a
load of the same bale, is refused where it would discard a bale in use, and otherwise applies its flags and replies. A
started DEFINE_BAY in range whose shares fit, that no seated bale forbids and whose owner exists allocates the bays
again, zeroes indices of other tenants and replies; with PER_STRING 0 and an owner that exists it deletes a bay that
holds no bale and has no work. Readings and choices of the model beside the rules: logs 52, 54 and 56. -/
def Obligations.BaleCommands : Prop :=
  (∀ (h : Hdr) (source tier index : Nat) (store : Bool) (bale l : Bale) (s : State), startable 0x0101 h s = true →
    source ≤ 1 → tier ≤ 2 → (source = 1 → index ≤ 1023) →
    let b := s.started 0x0101 h
    let c := cmdRef 0x0101 h s
    (source = 0 → l = bale) → (source = 1 → b.libraryBale index h.fn = some l) →
    let j : LoadJob := { ref := c, tenant := h.fn, source := source, tier := tier, store := store,
                         library := if source = 1 then some index else none, bale := l, discards := [] }
    exec (.loadBale h source tier store index bale) s =
      .next { b with bays := { b.bays with loads := b.bays.loads ++ [j] } }) ∧
  (∀ (h : Hdr) (tier index : Nat) (store : Bool) (bale : Bale) (s : State), startable 0x0101 h s = true →
    (s.started 0x0101 h).libraryBale index h.fn = none → exec (.loadBale h 1 tier store index bale) s =
      .next ((s.started 0x0101 h).reply (cmdRef 0x0101 h s) Status.badParam 0 0)) ∧
  (∀ (h : Hdr) (handle n mode : Nat) (s : State) (bay : Bay), startable 0x0102 h s = true →
    let b := s.started 0x0102 h
    let c := cmdRef 0x0102 h s
    b.bay n = some bay →
    (bay.owner ≠ h.fn → exec (.seatBale h handle n mode) s = .next (b.reply c Status.notPermitted 0 0)) ∧
    (bay.owner = h.fn → mode ≤ 2 → exec (.seatBale h handle n mode) s = .next (b.addJob n
      { ref := some c, auto := false, handle := some handle, preempt := decide (mode = 1 ∨ (mode = 2 ∧ bay.swapMode = 1)),
        discard := false, deleteLibrary := false, started := 0, previous := none, stopped := false }))) ∧
  (∀ (h : Hdr) (n mode : Nat) (discard delete : Bool) (s : State) (bay : Bay), startable 0x0103 h s = true →
    let b := s.started 0x0103 h
    let c := cmdRef 0x0103 h s
    b.bay n = some bay →
    (bay.owner ≠ h.fn → exec (.unseatBale h n mode discard delete) s = .next (b.reply c Status.notPermitted 0 0)) ∧
    (bay.owner = h.fn → mode ≤ 2 → exec (.unseatBale h n mode discard delete) s = .next (b.addJob n
      { ref := some c, auto := false, handle := none, preempt := decide (mode = 1 ∨ (mode = 2 ∧ bay.swapMode = 1)),
        discard := discard, deleteLibrary := delete, started := 0, previous := none, stopped := false }))) ∧
  (∀ (h : Hdr) (handle : Nat) (discard delete : Bool) (s : State) (g : Staged), startable 0x0103 h s = true →
    let b := s.started 0x0103 h
    let c := cmdRef 0x0103 h s
    let same := fun j : LoadJob => decide (j.tenant = g.tenant) && decide (j.bale.digest = g.bale.digest)
    b.stagedBale handle = some g → g.tenant = h.fn →
    let later := fun j : LoadJob => if same j = true then { j with discards := j.discards ++ [(c, discard, delete)] } else j
    ((∃ j ∈ b.bays.loads, same j = true) → exec (.unseatBaleDiscard h handle discard delete) s =
      .next { b with bays := { b.bays with loads := b.bays.loads.map later } }) ∧
    ((∀ j ∈ b.bays.loads, same j = false) →
      (discard = true → b.handleInUse handle none = true → exec (.unseatBaleDiscard h handle discard delete) s =
        .next (b.reply c Status.notPermitted 0 0)) ∧
      ((discard = false ∨ b.handleInUse handle none = false) → exec (.unseatBaleDiscard h handle discard delete) s =
        .next ((b.applyFlags handle discard delete).reply c Status.done handle 0)))) ∧
  (∀ (h : Hdr) (p : BayParams) (s : State) (l : Map Bay), startable 0x0104 h s = true → bayParamsOk p = true →
    let b := s.started 0x0104 h
    let c := cmdRef 0x0104 h s
    (0 < p.perString → 0 < p.sliceMask →
      allocateBays (Map.set b.bays.bay p.bay (redefined (b.bay p.bay) p)) b.leastWorking = some l →
      seatedForbids (b.bay p.bay) p = false → Map.has b.customs.tenants p.owner = true →
      exec (.defineBay h p) s =
        .next ((({ b with bays := { b.bays with bay := l } } : State).zeroForeign).reply c Status.done 0 0)) ∧
    (∀ bay, p.perString = 0 → b.bay p.bay = some bay → bay.seated = none → bay.jobs = [] →
      Map.has b.customs.tenants p.owner = true → exec (.defineBay h p) s =
      .next (({ b with bays := { b.bays with bay := Map.erase b.bays.bay p.bay } } : State).reply c Status.done 0 0)))

/-- When a load's copy and digest check end, a bale of another version is answered BAD_VERSION, one that is not
accepted is logged and answered BAD_PARAM, and an accepted one takes its frames and handle; the discards that waited
then run. When the writes of a stopped, drained seating end outside a handover, the staging copy is read; where that
leaves nothing to refuse it is written on the bay's slices, arrays whose probes fail are rewritten, and the bay
switches, and otherwise the seating ends with the refusal. A bay that an unseating has drained is left empty, and the
command's flags are applied and it replies with the handle, or it is refused where it would discard a handle that has
come into use meanwhile. AUTO_SWAP adds the seating of the most urgent waiting bale, to be judged anew at the
boundary, MIN_DWELL after the last seating and with no work on the bay. Readings and choices of the model beside the
rules: logs 51, 52 and 53. -/
def Obligations.BayEvents : Prop :=
  (∀ (s : State) (fn ring tag : Nat) (j : LoadJob), s.customs.restarting = false → s.droverDown = false →
    s.bays.loads.find? (fun j => j.ref.fn = fn && j.ref.ring = ring && j.ref.tag = tag) = some j → j.discards = [] →
    let b : State := { s with bays := { s.bays with loads := s.bays.loads.filter fun x => x.ref ≠ j.ref } }
    (baleVersionOk j.bale = false → exec (.loadBaleCopyDone fn ring tag) s =
      .next (b.reply j.ref Status.badVersion 0 0)) ∧
    (baleVersionOk j.bale = true → baleContentOk j.bale = false → exec (.loadBaleCopyDone fn ring tag) s =
      .next ((b.logRejected j.tenant j.bale).reply j.ref Status.badParam 0 0)) ∧
    (baleVersionOk j.bale = true → baleContentOk j.bale = true → exec (.loadBaleCopyDone fn ring tag) s =
      .next (b.stageLoaded j))) ∧
  (∀ (s : State) (n handle : Nat) (bay : Bay) (j : SeatJob) (rest : List SeatJob) (g : Staged)
      (first second : List (Nat × Nat × Nat)), s.bay n = some bay → bay.jobs = j :: rest → j.handle = some handle →
    s.stagedBale handle = some g → j.stopped = true → s.drained n bay j = true → s.cores.handover = none →
    s.droverDown = false → g.tier ≠ 2 →
    let t := s.readStaging handle
    (t.jobRefusal n bay j = none → exec (.seatWritesDone n ⟨first, second⟩) s =
      .next ((((t.writeBay bay g.bale).probeBay n first second).switchBay n handle j rest g.bale).settleJobs n
        rest.length)) ∧
    (∀ status, t.jobRefusal n bay j = some status → exec (.seatWritesDone n ⟨first, second⟩) s =
      .next (t.seatRefused n status bay j rest))) ∧
  (∀ (s : State) (n : Nat) (bay : Bay) (j : SeatJob) (rest : List SeatJob), s.bay n = some bay →
    bay.jobs = j :: rest → j.handle = none → j.stopped = true → s.drained n bay j = true → s.droverDown = false →
    (j.discard = true → ∀ h, bay.seated = some h → s.loading h = false) →
    let t := (s.dropSums n).setBay n { bay with
      seated := none, bale := none, stages := [], jobs := rest, own := [], attention := [], projection := [] }
    let time := fun u : State => u.mls.uptime - j.started
    (bay.seated = none → exec (.bayEmptied n) s =
      .next ((t.replyJob j Status.done 0xFFFF (time t)).settleJobs n rest.length)) ∧
    (∀ h, bay.seated = some h → j.discard = true → t.handleInUse h none = true → exec (.bayEmptied n) s =
      .next ((t.replyJob j Status.notPermitted 0 0).settleJobs n rest.length)) ∧
    (∀ h, bay.seated = some h → (j.discard = false ∨ t.handleInUse h none = false) → exec (.bayEmptied n) s =
      .next (((t.applyFlags h j.discard j.deleteLibrary).replyJob j Status.done h (time t)).settleJobs n rest.length))) ∧
  (∀ (s : State) (n : Nat) (bay : Bay), s.bay n = some bay → bay.autoSwap = true → bay.jobs = [] →
    (∀ t, bay.lastSeat = some t → t + 1000000 * bay.minDwell ≤ s.mls.uptime) → s.droverDown = false →
    s.writesRings = true → s.power.leaving = none →
    (∀ h, s.swapTarget n bay = some h → exec (.autoSwap n) s = .next (s.addJob n
      { ref := none, auto := true, handle := some h, preempt := decide (bay.swapMode = 1), discard := false, deleteLibrary := false,
        started := 0, previous := none, stopped := false })) ∧
    (s.swapTarget n bay = none → exec (.autoSwap n) s = .next s))

/-- Whenever the allocation of bays answers, it moves only the start of bays that hold no bale and have no seating
stopped, keeps every bay's number and share, ends every range at or below the working positions, and no two bays that
share a slice have ranges that meet; the shares of every slice sum to at most 128. Readings and choices of the model
beside the rules: log 56. -/
def Obligations.BaysNeverMeet : Prop :=
  ∀ (l m : Map Bay) (top : Nat), Map.rises l → allocateBays l top = some m →
    m.map (·.1) = l.map (·.1) ∧
    (∀ (i : Nat) (p q : Nat × Bay), l[i]? = some p → m[i]? = some q → q.2 = { p.2 with start := q.2.start } ∧
      (Bay.fixedRange p.2 = true → q = p)) ∧
    (∀ p ∈ m, p.2.start + p.2.share ≤ top) ∧
    (∀ p ∈ m, ∀ q ∈ m, p.1 ≠ q.1 → masksMeet p.2.sliceMask q.2.sliceMask = true →
      p.2.start + p.2.share ≤ q.2.start ∨ q.2.start + q.2.share ≤ p.2.start) ∧
    (∀ i, i < 8 → ((m.filter fun p => bitOf p.2.sliceMask i).map fun p => p.2.share).sum ≤ 128)

/-- Whatever the state, a seating that is not refused names a staged bale of the bay's owner, of the bay's kind, of as
many slices as the bay has, no larger than its share, not poisoned and not held in flash alone; a bale in use anywhere
is never discarded by its handle, and the bale a bay has seated stays its own after AUTO_SWAP. -/
def Obligations.SeatingRefusals : Prop :=
  (∀ (s : State) (bay : Bay) (handle : Nat), s.seatRefusal bay handle = none → ∃ g, s.stagedBale handle = some g ∧
    g.tenant = bay.owner ∧ g.bale.kind = bay.kind ∧ g.bale.slices = bay.slices.length ∧ g.bale.perString ≤ bay.share ∧
    g.poisoned = false ∧ g.tier ≠ 2) ∧
  (∀ (s t : State) (h : Hdr) (handle : Nat) (delete : Bool), startable 0x0103 h s = true →
    (s.started 0x0103 h).handleInUse handle none = true → exec (.unseatBaleDiscard h handle true delete) s = .next t →
    t.bays.staged = s.bays.staged) ∧
  (∀ (s t : State) (n : Nat) (bay : Bay), s.bay n = some bay → exec (.autoSwap n) s = .next t →
    ∃ b, t.bay n = some b ∧ b.seated = bay.seated ∧ b.bale = bay.bale)

/-- A started OPEN_CONTEXT with room takes the next context ID, opens an empty context with its LIMIT or the default,
and replies with the ID. A started FORK_CONTEXT of an open context without a flush forks it at once and waits while a
flush or a resume runs; a paused or pausing context refuses it and an expired one answers CONTEXT_EXPIRED. A started
PAUSE_CONTEXT, with a time to live above 0, of an open context without a flush that no EXTEND request holds begins the
pause; where one holds it, it is refused; of a paused context it renews its time to live. A started RESUME_CONTEXT of
a paused context begins the resume and stops the time to live, and of an open one replies DONE. A started
RESUME_CONTEXT of a pausing or resuming context waits, and of an expired one answers CONTEXT_EXPIRED. A started
CLOSE_CONTEXT of a settled context that neither an EXTEND request nor a route names gives up its frames and ID and
replies with the count of frames freed; where one names it, it is refused; where a move or flush runs, it waits. Each
of the four on another function's context is refused, and on an unknown one gives BAD_PARAM. Readings and choices of
the model beside the rules: logs 17 and 20. -/
def Obligations.ContextCommands : Prop :=
  (∀ (h : Hdr) (limit : Nat) (s t : State), startable 0x0201 h s = true → limit ≤ 65536 →
    let b := s.started 0x0201 h
    b.ctxFull = false → b.tableRoom h.fn = some t →
    let id := t.takeCtxId.1
    exec (.openContext h limit) s = .next (((((t.takeCtxId.2).setCtx id
      (Ctx.fresh h.fn (if limit = 0 then 65536 else limit) id)).joinFamily id).clearRecord 0x0004 0 0 id 0).reply
        (cmdRef 0x0201 h s) Status.done id 0)) ∧
  (∀ (h : Hdr) (n position : Nat) (s : State) (x : Ctx), startable 0x0207 h s = true →
    let b := s.started 0x0207 h
    let c := cmdRef 0x0207 h s
    b.ctx n = some x → x.tenant = h.fn →
    (x.state = 0 → x.flush = none → exec (.forkContext h n position) s = .next (b.forkNow c position x)) ∧
    ((x.state = 0 ∧ x.flush.isSome = true ∨ x.state = 3) → exec (.forkContext h n position) s =
      .next (b.setCtx n { x with waiters := x.waiters ++ [.fork c position] })) ∧
    ((x.state = 1 ∨ x.state = 2) → exec (.forkContext h n position) s = .next (b.reply c Status.notPermitted 0 0)) ∧
    (x.state = 4 → exec (.forkContext h n position) s = .next (b.reply c Status.contextExpired 0 0))) ∧
  (∀ (h : Hdr) (n ttl : Nat) (s : State) (x : Ctx), startable 0x0204 h s = true → 0 < ttl →
    let b := s.started 0x0204 h
    let c := cmdRef 0x0204 h s
    let ends := if ttl = 0xFFFFFFFF then none else some (b.mls.uptime + ttl * 1000000000)
    b.ctx n = some x → x.tenant = h.fn →
    (x.state = 0 → b.extendHeld n = false → x.flush = none → exec (.pauseContext h n ttl) s =
      .next (b.setCtx n { x with state := 1, ttl := ttl, move := some c })) ∧
    (x.state = 0 → b.extendHeld n = true → exec (.pauseContext h n ttl) s =
      .next (b.reply c Status.notPermitted 0 0)) ∧
    (x.state = 2 → exec (.pauseContext h n ttl) s = .next ((b.setCtx n { x with ttl := ttl, ttlEnd := ends }).reply c
      Status.done 0 (x.inTier 0).length))) ∧
  (∀ (h : Hdr) (n : Nat) (s : State) (x : Ctx), startable 0x0205 h s = true →
    let b := s.started 0x0205 h
    let c := cmdRef 0x0205 h s
    b.ctx n = some x → x.tenant = h.fn →
    (x.state = 0 → exec (.resumeContext h n) s = .next (b.reply c Status.done 0 0)) ∧
    (x.state = 2 → exec (.resumeContext h n) s = .next (b.setCtx n { x with
      state := 3, ttlLeft := x.ttlEnd.map fun t => t - b.mls.uptime, ttlEnd := none, move := some c })) ∧
    ((x.state = 1 ∨ x.state = 3) → exec (.resumeContext h n) s =
      .next (b.setCtx n { x with waiters := x.waiters ++ [.resume c] })) ∧
    (x.state = 4 → exec (.resumeContext h n) s = .next (b.reply c Status.contextExpired 0 0))) ∧
  (∀ (h : Hdr) (n : Nat) (s : State) (x : Ctx), startable 0x0206 h s = true →
    let b := s.started 0x0206 h
    let c := cmdRef 0x0206 h s
    b.ctx n = some x → x.tenant = h.fn →
    ((x.state = 1 ∨ x.state = 3 ∨ (x.state = 0 ∧ x.flush.isSome = true)) → exec (.closeContext h n) s =
      .next (b.setCtx n { x with waiters := x.waiters ++ [.close c] })) ∧
    (x.state ≠ 1 → x.state ≠ 3 → (x.state = 0 → x.flush = none) →
      ((b.extendHeld n = true ∨ b.routeNames n = true) →
        exec (.closeContext h n) s = .next (b.reply c Status.notPermitted 0 0)) ∧
      (b.extendHeld n = false → b.routeNames n = false →
        let t := (b.releaseCtx x).1
        let u : State := { t with
          ctxs := { t.ctxs with
            ctx := Map.erase t.ctxs.ctx n
            freedIds := if x.family = n then t.ctxs.freedIds else t.ctxs.freedIds ++ [n] } }
        let v := (u.leaveFamily x.family).clearRecord 0x0004 0 0 n 0
        exec (.closeContext h n) s = .next (v.reply c Status.done (b.ctxs.frames.length - v.ctxs.frames.length) 0)))) ∧
  (∀ (h : Hdr) (n a op : Nat) (i : Instr) (s : State),
    (op, i) ∈ [(0x0207, Instr.forkContext h n a), (0x0204, .pauseContext h n a), (0x0205, .resumeContext h n),
      (0x0206, .closeContext h n)] → startable op h s = true →
    let b := s.started op h
    let c := cmdRef op h s
    (b.ctx n = none → exec i s = .next (b.reply c Status.badParam 0 0)) ∧
    (∀ x, b.ctx n = some x → x.tenant ≠ h.fn → exec i s = .next (b.reply c Status.notPermitted 0 0)))

/-- With the mover not fenced, the end of a pause's move leaves the context paused and runs what waited on it, and the
end of a resume's move leaves it open, or paused with NO_PAGES, and does the same. A frame of a paused context that
only it still holds moves to the waystation, or is marked as having no room. A paused context whose time to live has
ended expires. The end of a flush that finds its frames adds the flushed positions to the context's length, fixes its
geometry and its writer where it had none, gives back the frames left over and runs what waited. At a boundary of a
defined bay with the rails on and no stage waiting for a sequencer, the interval's attention is done, the sums of the
bay's firings that were left end, and every convoy moves one stage on. With the Drover out of service a convoy planned
before enters stage 1 where there is one; with the Drover in service the changes that wait for the boundary are made
and launch times re-read, and then a planned convoy enters stage 1, or else a new one is formed where the bay may form
one. A commit takes the oldest convoy that waits when the Drover and the rails are up; otherwise nothing is committed.
Readings and choices of the model beside the rules: logs 25, 45 and 49. -/
def Obligations.ContextAndConvoyEvents : Prop :=
  (∀ (s : State) (n : Nat) (x : Ctx) (c : CmdRef), s.ctx n = some x → x.move = some c → s.moverFenced = false →
    (x.state = 1 → exec (.pauseMoveDone n) s = .next ((s.pauseEnds n x c).runWaiters n)) ∧
    (x.state = 3 → exec (.resumeMoveDone n) s = .next ((s.resumeEnds n x c).runWaiters n))) ∧
  (∀ (s : State) (n page : Nat) (x : Ctx) (f : Frame), s.ctx n = some x → s.frame page = some f → x.state = 2 →
    s.moverFenced = false → page ∈ x.inTier 0 → f.refs = 1 → f.state ≠ 2 → page ∉ x.unmoved →
    (∀ t, s.movePage n page 1 = some t → exec (.pausedFrameMove n page) s = .next t) ∧
    (s.movePage n page 1 = none → exec (.pausedFrameMove n page) s =
      .next (s.setCtx n { x with unmoved := x.unmoved ++ [page] }))) ∧
  (∀ (s : State) (n t : Nat) (x : Ctx), s.ctx n = some x → x.state = 2 → x.ttlEnd = some t →
    (t ≤ s.mls.uptime → exec (.contextExpired n) s = .next ((((s.releaseCtx x).1).setCtx n { x with
      state := 4, pages := [], kinds := [], ttlEnd := none, unmoved := [] }).event x.tenant 0x0201 n 0)) ∧
    (s.mls.uptime < t → exec (.contextExpired n) s = .next s)) ∧
  (∀ (s t u : State) (n : Nat) (x y : Ctx) (f : Flush) (left : List Nat) (pages : List (List Nat)),
    s.ctx n = some x → x.flush = some f →
    (s.readFlush n x.tenant f).scatterLayers f.geometry x.tenant x.family n f.tails f.reserved x.pages x.length
      f.kinds.length 0 f.geometry.2.2.2 = some (pages, left, t) → t.ctx n = some y →
    ((t.setCtx n { y with
        flush := none, length := y.length + f.kinds.length, pages := pages, kinds := y.kinds ++ f.kinds,
        geometry := some f.geometry, writer := if y.geometry.isSome then y.writer else f.writer }).freeFrames
      (left ++ f.tails)).growTables y.tenant 64 = some u →
    exec (.flushScatterDone n) s = .next (u.runWaiters n)) ∧
  (∀ (s : State) (n : Nat) (work : List AttnWork), s.power.railsOn = true → (s.bay n).isSome = true →
    s.stageWaits n = false →
    let t := ((s.attention n work).dropSums n).advance n
    (t.droverDown = true → exec (.convoyBoundary n work) s = .next ((t.enterPlanned n).getD t)) ∧
    (t.droverDown = false →
      let u := (t.boundaryChanges n).rereadBay n
      (∀ v, u.enterPlanned n = some v → exec (.convoyBoundary n work) s = .next v) ∧
      (u.enterPlanned n = none → (∃ b, u.bay n = some b ∧ u.mayForm b = true) →
        exec (.convoyBoundary n work) s = .next (u.formConvoy n)) ∧
      (u.enterPlanned n = none → (∀ b, u.bay n = some b → u.mayForm b = false) →
        exec (.convoyBoundary n work) s = .next u))) ∧
  (∀ (s : State) (n : Nat) (results : List CommitResult) (b : Bay) (c : Convoy) (rest : List Convoy),
    s.bay n = some b → b.commits = c :: rest →
    (s.droverDown = false → s.power.railsOn = true → exec (.convoyCommit n results) s =
      .next (s.commitConvoy n b c results)) ∧
    ((s.droverDown = true ∨ s.power.railsOn = false) → exec (.convoyCommit n results) s = .next s))

/-- A fork at a position not beyond the parent's length that finds room answers the ID of a new open context of the
same tenant, LIMIT, family and geometry, whose length is the position and whose page table is the parent's cut to the
frames that hold it; the parent and every other context stay as they were, and no byte of any memory changes. A
position beyond the length gives BAD_PARAM and changes no context. -/
def Obligations.ForkSharesItsPages : Prop :=
  ∀ (s r t : State) (h : Hdr) (n position : Nat) (x : Ctx), startable 0x0207 h s = true →
    let b := s.started 0x0207 h
    b.ctx n = some x → x.tenant = h.fn → x.state = 0 → x.flush = none →
    exec (.forkContext h n position) s = .next t →
    (position ≤ x.length → b.ctxFull = false → b.tableRoom x.tenant = some r →
      ∃ y, t.ctx r.takeCtxId.1 = some y ∧ y.tenant = x.tenant ∧ y.state = 0 ∧ y.limit = x.limit ∧ y.family = x.family ∧
        y.geometry = x.geometry ∧ y.length = position ∧
        y.pages = x.pages.map (fun l => l.take (ceilDiv position (geomNpf x.geometry))) ∧
        y.kinds = x.kinds.take position ∧ (∀ m, m ≠ r.takeCtxId.1 → t.ctx m = s.ctx m) ∧ t.mem.mem = s.mem.mem) ∧
    (x.length < position → ∀ m, t.ctx m = s.ctx m)

/-- A started SUBMIT_REQUEST on an own context and template that no rule refuses, with a free slot, creates a request
and is ACCEPTED with its ID, and NO_REQUEST_SLOT without one; a BRANCH of a context that resumes or flushes waits; a
refusal replies its status. A started CANCEL_REQUEST of an ID that was given out and belongs to the sender cancels the
request, recalls its launches where asked, and replies with their count after the partner's acknowledgement. A started
SET_SAMPLING with OP 0 and a record in range defines or replaces the sender's template, with an OP above 1 it gives
BAD_PARAM, and with OP 1 it deletes the sender's template where no route names it. A started SET_CONVOY_POLICY by the
bay's owner or the physical function with its fields in range is kept for the next boundary. Readings and choices of
the model beside the rules: logs 17, 33 and 78. -/
def Obligations.RequestCommands : Prop :=
  (∀ (h : Hdr) (p : SubmitParams) (inputs : List (Nat × Nat)) (s : State) (x : Ctx) (t : Template),
    startable 0x0202 h s = true →
    let b := s.started 0x0202 h
    let c := cmdRef 0x0202 h s
    let q : Submission := { p := p, inputs := inputs, tenant := h.fn, priority := h.priority, spans := payloadSpans h }
    b.ctx p.context = some x → Map.get? b.reqs.templates p.template = some t → x.tenant = h.fn → t.tenant = h.fn →
    (∀ st, submitRefusal q x t.body b = some st → exec (.submitRequest h p inputs) s = .next (b.reply c st 0 0)) ∧
    (submitRefusal q x t.body b = none → p.branch = true → x.state = 3 ∨ x.flush.isSome = true →
      exec (.submitRequest h p inputs) s = .next (b.setCtx p.context { x with
        waiters := x.waiters ++ [.branch c p inputs h.fn h.priority (payloadSpans h)] })) ∧
    (submitRefusal q x t.body b = none → (p.branch = false ∨ (x.state ≠ 3 ∧ x.flush = none)) →
      (b.slotFree = true → let made := b.createReq (submitNew q t c b)
        exec (.submitRequest h p inputs) s = .next (made.2.accept c made.1 0)) ∧
      (b.slotFree = false → exec (.submitRequest h p inputs) s = .next (b.reply c Status.noRequestSlot 0 0)))) ∧
  (∀ (h : Hdr) (id : Nat) (withRecall : Bool) (s : State), startable 0x0203 h s = true →
    let b := s.started 0x0203 h
    let c := cmdRef 0x0203 h s
    id % 65536 < b.reqs.nextSlot → (∀ t, b.requestTenant id = some t → t = h.fn) →
    let t := match b.request id with | some r => b.cancelReq r Status.cancelled | none => b
    (withRecall = false → exec (.cancelRequest h id false) s =
      .next ((t.sendMarker (.cancel id false)).replyAfterAck c (recallResult 0 0) false)) ∧
    (withRecall = true →
      let u := t.recall fun st _ rq => rq = id && ((t.stream st).map (·.tenant)) = some h.fn
      exec (.cancelRequest h id true) s =
        .next ((u.1.sendMarker (.cancel id true)).replyAfterAck c (recallResult u.2.1 u.2.2) true))) ∧
  (∀ (h : Hdr) (n : Nat) (r : TemplateRec) (s : State), startable 0x0210 h s = true →
    let b := s.started 0x0210 h
    let c := cmdRef 0x0210 h s
    (n ≤ 1023 → (∀ t, Map.get? b.reqs.templates n = some t → t.tenant = h.fn) → 64 ≤ payloadBytes h → templateOk r = true →
      b.tokenBay r.bay h.fn = true → b.namedBaleOk r h.fn = true →
      let kept : Template := { tenant := h.fn, body := templateKept r false }
      exec (.setSamplingDefine h n ⟨0, r⟩) s = .next (({ b with reqs := { b.reqs with
        templates := Map.set b.reqs.templates n kept,
        rings := if r.reportBase = 0 then b.reqs.rings else Map.set b.reqs.rings (reportRing h.fn r.reportBase) 0 } } :
          State).reply c Status.done 0 0)) ∧
    (∀ op, 2 ≤ op → exec (.setSamplingDefine h n ⟨op, r⟩) s = .next (b.reply c Status.badParam 0 0)) ∧
    (∀ t, Map.get? b.reqs.templates n = some t → t.tenant = h.fn → (∀ q ∈ b.reqs.routes, q.2.params.template ≠ n) →
      exec (.setSamplingDelete h n) s = .next (({ b with reqs := { b.reqs with
        templates := Map.erase b.reqs.templates n } } : State).reply c Status.done 0 0))) ∧
  (∀ (h : Hdr) (p : PolicyParams) (s : State) (bay : Bay), startable 0x0211 h s = true →
    let b := s.started 0x0211 h
    b.bay p.bay = some bay → h.fn = 0 ∨ bay.owner = h.fn → policyOk p = true → exec (.setConvoyPolicy h p) s =
      .next ((b.setBay p.bay { bay with nextPolicy := some (policyKept p) }).reply (cmdRef 0x0211 h s) Status.done 0 0))

/-- Once a submission is accepted, the request of the ID in its reply stands in its slot with the tenant, context,
template, bay, token count, target, stream, track, priority class and inputs of the submission, its SEED, and nothing
sampled; the number of creations rises by one, and no ledger entry, launch or module time changes. Readings and
choices of the model beside the rules: logs 26 and 78. -/
def Obligations.SubmittedRequest : Prop :=
  ∀ (h : Hdr) (p : SubmitParams) (inputs : List (Nat × Nat)) (s t : State) (x : Ctx) (tm : Template),
    startable 0x0202 h s = true →
    let b := s.started 0x0202 h
    let q : Submission := { p := p, inputs := inputs, tenant := h.fn, priority := h.priority, spans := payloadSpans h }
    b.ctx p.context = some x → Map.get? b.reqs.templates p.template = some tm → x.tenant = h.fn → tm.tenant = h.fn →
    submitRefusal q x tm.body b = none → (p.branch = false ∨ (x.state ≠ 3 ∧ x.flush = none)) → b.slotFree = true →
    exec (.submitRequest h p inputs) s = .next t →
    (∃ r, t.request b.takeSlot.1 = some r ∧ r.tenant = h.fn ∧ r.context = p.context ∧ r.template = p.template ∧
      r.bay = tm.body.bay ∧ r.nAct = (if p.nAct = 0 then tm.body.nAct else p.nAct) ∧ r.target = p.target ∧
      r.stream = p.stream ∧ r.track = p.track ∧ r.priority = h.priority ∧ r.prefill = inputs ∧ r.seed = p.seed ∧
      r.branch.isSome = p.branch ∧ r.state = 0 ∧ r.sampled = [] ∧ r.steps = 0) ∧
    t.reqs.created = s.reqs.created + 1 ∧ t.mls = s.mls ∧
    (∀ id r, slotOf id ≠ slotOf b.takeSlot.1 → s.request id = some r → t.request id = some r)

/-- Ranking keeps exactly the candidates and puts none behind one that goes after it. The step planned for a request
takes at least one position and fits the room, the context's limit and the prefill chunk or the tokens the request has
left. The members admitted to a convoy number at most MAX_REQUESTS and carry at most MAX_TOKENS positions. The convoy
order keeps exactly the members and ascends in bucket bounds. Readings and choices of the model beside the rules: logs
27 and 49. -/
def Obligations.AdmissionOrder : Prop :=
  (∀ l : List Rank, let r := l.foldl (fun l x => insertRank x l) []
    List.Perm r l ∧ r.Pairwise fun a b => b.before a = false) ∧
  (∀ (s : State) (p : PolicyParams) (room : Nat) (r : Req) (m : Member), s.plan p room r = some m →
    m.request = r.id ∧ m.q ≤ room ∧ s.committedLength r + m.q ≤ s.historyLimit r ∧
    1 ≤ m.q ∧
    (r.prefill = [] → m.prefill = false ∧ m.q ≤ max 1 r.left ∧ m.q ≤ r.drafts.length + 1) ∧
    (r.prefill ≠ [] → m.prefill = true ∧ m.q ≤ p.prefillChunk ∧ (m.samples = true ↔ m.q = r.prefill.length))) ∧
  (∀ (s : State) (n : Nat) (p : PolicyParams) (rs : List Rank),
    let ms := (s.admitAll n p rs [] p.maxTokens).1
    ms.length ≤ p.maxRequests ∧ (ms.map (·.q)).sum ≤ p.maxTokens ∧ ms.length ≤ rs.length) ∧
  (∀ ms : List Member, List.Perm (convoyOrder ms) ms ∧ (convoyOrder ms).Pairwise fun a b => a.bound ≤ b.bound)

/-- The tokens that a verification emits are its matched drafts followed by one token, which differs from the next
draft where one is left. The tokens kept are the first of them, at most as many as the request has left, with nothing
after a stop token. The draft depth after a decode step differs by at most one, rises only below its limit and falls
only after a run of steps with no draft accepted. -/
def Obligations.VerificationAndDepth : Prop :=
  (∀ (t : TemplateRec) (seed n j : Nat) (counts : Map Nat) (drafts : List Nat) (logits : List (List F32)),
    let v := verifyFrom t seed n counts drafts logits j
    v.matched ≤ drafts.length ∧ ∃ last, v.tokens = drafts.take v.matched ++ [last] ∧
      ∀ d, drafts[v.matched]? = some d → last ≠ d) ∧
  (∀ (room stop : Nat) (l : List Nat), let k := keepTokens room stop l
    k.length ≤ room ∧ k <+: l ∧ (stop ≠ 0xFFFFFFFF → stop ∉ k.dropLast) ∧
    (k.length < min room l.length → k.getLast? = some stop ∧ stop ≠ 0xFFFFFFFF)) ∧
  (∀ depth d m zr fr limit zl fl : Nat, let x := (nextDepth depth d m zr fr limit zl fl).1
    x ≤ depth + 1 ∧ depth ≤ x + 1 ∧ (depth < x → depth < limit ∧ m = d ∧ fl ≤ fr + 1) ∧
    (x < depth → 0 < d ∧ m = 0 ∧ zl ≤ zr + 1))

/-- After a request is cancelled no request of its ID is there, its slot returns at the end of the list with its reuse
count one higher, no convoy of its bay commits it, and neither the ledger, nor module time, nor the error log changes;
a request in another slot stays as it was. -/
def Obligations.CancelledRequestIsGone : Prop :=
  ∀ (s : State) (id : Nat) (r : Req), s.request id = some r →
    let t := s.cancelReq r Status.cancelled
    t.request id = none ∧ t.reqs.freed = s.reqs.freed ++ [slotOf id] ∧
    Map.get? t.reqs.reuse (slotOf id) = some (((Map.get? s.reqs.reuse (slotOf id)).getD 0 + 1) % 65536) ∧
    (∀ j q, slotOf j ≠ slotOf id → s.request j = some q → t.request j = some q) ∧
    (∀ n b c, n = r.bay → t.bay n = some b → (some c ∈ b.stages ∨ c ∈ b.planned ∨ c ∈ b.commits) → id ∉ c.mask) ∧
    t.mls = s.mls ∧ t.mem.log = s.mem.log

/-- A started OPEN_STREAM in range whose match key meets no other, whose number is free, whose load fits and which
finds its frames opens the stream and replies with its bytes. A started CLOSE_STREAM of an own stream that no route or
session names drops what waits and, with no unit of it in a pipe, frees it and replies. A started OPEN_ENCODE in range
on an own open stream with a free session number and room for its load opens the session with its record cleared. A
started CLOSE_STREAM of an own session with nothing due frees it, and otherwise closes it after the unit in flight. A
started DEFINE_ROUTE that no rule refuses sets the route with its record cleared, and one that a rule refuses replies
its status. A started DROP_ROUTE of an own route begins its end, and once nothing of it is left its commands reply and
the route is gone. Readings and choices of the model beside the rules: logs 17, 58, 61 and 62. -/
def Obligations.VideoCommands : Prop :=
  (∀ (h : Hdr) (p : StreamParams) (s t : State) (frames : List Nat), startable 0x0301 h s = true →
    let b := s.started 0x0301 h
    streamParamsOk p = true → 64 ≤ payloadBytes h → (∀ q ∈ b.video.streams, keysOverlap q.2.params p = false) →
    Map.has b.video.streams p.stream = false →
    (b.video.streams.map fun q => decodeLoad q.2.params).sum + decodeLoad p ≤ 31920000000 → b.encodeLoad ≤ 4000000000 →
    b.allocFrames h.fn 0 1 0 (ceilDiv (streamBytes p) 65536) = some (frames, t) →
    exec (.openStream h p) s = .next ((t.setVstream p.stream (VStream.fresh h.fn p frames t.mls.uptime)).reply
      (cmdRef 0x0301 h s) Status.done (streamBytes p) 0)) ∧
  (∀ (h : Hdr) (n : Nat) (s : State) (x : VStream), startable 0x0302 h s = true →
    let b := s.started 0x0302 h
    let c := cmdRef 0x0302 h s
    b.vstream n = some x → x.closing = none → x.tenant = h.fn → (∀ r ∈ b.reqs.routes, r.2.params.stream ≠ n) →
    (∀ e ∈ b.video.sessions, e.2.params.stream ≠ n) →
    let t := b.setVstream n { x with closing := some c, units := [] }
    let u : State := { t with video := { t.video with ready := t.video.ready.filter fun u => u.stream ≠ n } }
    (u.inPipe n = true → exec (.closeStream h n) s = .next u) ∧
    (u.inPipe n = false → exec (.closeStream h n) s = .next ((u.freeStream n).reply c Status.done 0 0))) ∧
  (∀ (h : Hdr) (p : EncodeParams) (s : State) (x : VStream), startable 0x0303 h s = true →
    let b := s.started 0x0303 h
    b.vstream p.stream = some x → x.closing = none → x.tenant = h.fn → encodeParamsOk p x.params = true →
    64 ≤ payloadBytes h → Map.has b.video.sessions p.session = false →
    let t := (b.clearRecord 0x000A p.session 0 0 0).setSession p.session (Session.fresh h.fn p false)
    t.encodeLoad ≤ 4000000000 →
    exec (.openEncode h p) s = .next (t.reply (cmdRef 0x0303 h s) Status.done 0 0)) ∧
  (∀ (h : Hdr) (n : Nat) (s : State) (x : Session), startable 0x0302 h s = true →
    let b := s.started 0x0302 h
    let c := cmdRef 0x0302 h s
    Map.get? b.video.sessions n = some x → x.closing = none → x.tenant = h.fn →
    (x.due = [] → exec (.closeEncode h n) s = .next ((b.freeSession n).reply c Status.done 0 0)) ∧
    (x.due ≠ [] → exec (.closeEncode h n) s = .next (b.setSession n { x with closing := some c, due := x.due.take 1 }))) ∧
  (∀ (h : Hdr) (p : RouteParams) (s : State), startable 0x0310 h s = true →
    let b := s.started 0x0310 h
    let c := cmdRef 0x0310 h s
    let r : Route := { tenant := h.fn, params := p, dropping := [] }
    (b.routeRefusal h p = none →
      let t := b.clearRecord 0x0008 0 0 0 p.route
      exec (.defineRoute h p) s = .next (({ t with reqs := { t.reqs with routes := Map.set t.reqs.routes p.route r } } :
        State).reply c Status.done 0 0)) ∧
    (∀ st, b.routeRefusal h p = some st → exec (.defineRoute h p) s = .next (b.reply c st 0 0))) ∧
  (∀ (h : Hdr) (n : Nat) (s : State) (r : Route), startable 0x0311 h s = true →
    let b := s.started 0x0311 h
    Map.get? b.reqs.routes n = some r → r.tenant = h.fn → exec (.dropRoute h n) s = .next { b with reqs := { b.reqs with
      routes := Map.set b.reqs.routes n { r with dropping := r.dropping ++ [cmdRef 0x0311 h s] } } }) ∧
  (∀ (s : State) (n : Nat) (r : Route), Map.get? s.reqs.routes n = some r → r.dropping ≠ [] → s.routeIdle n = true →
    exec (.dropRouteDone n) s = .next (r.dropping.foldl (fun t c => t.reply c Status.done 0 0)
      { s with reqs := { s.reqs with routes := Map.erase s.reqs.routes n } }))

/-- A packet that matches a stream of a running video engine is refused and counted where SRTP does not hold or its
format is not served, and otherwise reassembled, in the clear and with its index kept for replay protection; a packet
that matches none is ignored. A sender report is kept as the stream's time reference, its SRTCP index kept for replay
protection, and one whose index is not new or whose tag does not hold is counted and dropped. The two access unit
timeouts hand the oldest unit on. A free pipe takes the unit completed earliest whose stream is in no pipe. A decode,
the end of a unit's frame budget, which is counted, or the restart of a pipe ends the unit and frees the pipe. A
stream without a unit for ten frame periods stalls. A due picture of a session is sized, coded as IDR where one is
due, sent and removed. A detector run does the attention of its bay's bale, keeps its boxes and offers them to the
picture's routes, and a crop batch embeds up to 4,096 boxes and creates their requests in order. Readings and choices
of the model beside the rules: logs 50, 63, 64 and 67. -/
def Obligations.VideoEvents : Prop :=
  (∀ (s : State) (p : RtpPacket), s.matchStream p.port p.udpPort p.ssrc p.vlan = none → exec (.rtpPacket p) s = .next s) ∧
  (∀ (s : State) (p : RtpPacket) (n : Nat) (x : VStream),
    s.matchStream p.port p.udpPort p.ssrc p.vlan = some (n, x) → s.videoRuns = true →
    let i := srtpIndex x.replay p.seq
    (x.params.srtp = true → s.srtpOk n x i p.body p.tag = false → exec (.rtpPacket p) s = .next (s.countStream n 40 1)) ∧
    (x.params.srtp = false ∨ s.srtpOk n x i p.body p.tag = true →
      let top := max (x.replay.foldl max 0) i.toNat
      let y := if x.params.srtp then
          { x with replay := (i.toNat :: x.replay).filter fun j => decide (top < j + 128) } else x
      let q := { p with body := (s.setVstream n y).srtpPlain n y i p }
      let t := s.setVstream n y
      (formatOk x.params.codec p.nal p.donFields = false → exec (.rtpPacket p) s = .next (t.countStream n 56 1)) ∧
      (formatOk x.params.codec p.nal p.donFields = true → exec (.rtpPacket p) s = .next (t.reassemble n y q)))) ∧
  (∀ (s : State) (r : SenderRep) (n : Nat) (x : VStream),
    s.matchStream r.port r.udpPort r.ssrc r.vlan = some (n, x) → s.videoRuns = true →
    let good := replayFresh x.rtcpReplay r.index && s.tagHolds x.tenant labelSR n (2 ^ 48 + r.index) r.body r.tag
    (x.params.srtp = true → good = false → exec (.senderReport r) s = .next (s.countStream n 40 1)) ∧
    (x.params.srtp = false ∨ good = true → exec (.senderReport r) s = .next (s.setVstream n { x with
      report := some (reportTime r.seconds r.fraction s.mls.time, r.rtpTime),
      rtcpReplay := if x.params.srtp then replaySeen x.rtcpReplay r.index else x.rtcpReplay }))) ∧
  (∀ (s : State) (n : Nat) (x : VStream) (u : AccessUnit), s.vstream n = some x → s.videoRuns = true →
    (x.units[0]? = some u → (∃ l, u.laterAt = some l ∧ l + 200000 ≤ s.mls.uptime) →
      exec (.auLaterTimeout n) s = .next (s.handOn n 0)) ∧
    (x.units[0]? = some u → 2000000000 ≤ (s.mls.uptime - u.firstAt) * x.params.frameRate →
      exec (.auFramePeriodTimeout n) s = .next (s.handOn n 0)) ∧
    (x.closing = none → 10000000000 ≤ (s.mls.uptime - x.lastUnitAt) * x.params.frameRate → x.state ≠ 2 →
      exec (.streamStalled n) s = .next ((s.setVstream n { x with state := 2 }).event x.tenant 0x0301 n 0))) ∧
  (∀ (s : State) (k : Nat) (u : AccessUnit) (x : VStream), k ≤ 7 → s.videoRuns = true → s.videoControlDown = false →
    (s.pipe k).unit = none → s.video.ready.find? (fun u => !s.inPipe u.stream) = some u → s.vstream u.stream = some x →
    let t : State := { s with video := { s.video with ready := s.video.ready.erase u } }
    exec (.pipeTake k) s = .next ((t.setPipe k { s.pipe k with
      unit := some u, takenAt := s.mls.uptime }).setVstream u.stream { x with
        waits := (s.mls.uptime, s.mls.uptime - u.completedAt) ::
          x.waits.filter fun w => !decide (w.1 + 1000000000 ≤ s.mls.uptime) })) ∧
  (∀ (s : State) (k : Nat) (u : AccessUnit), (s.pipe k).unit = some u → s.videoRuns = true →
    (∀ d, exec (.decodeComplete k d) s = .next ((s.decodeUnit u d false).freePipe k u.stream)) ∧
    (∀ w ht depth, s.videoControlDown = false → exec (.pipeRestart k w ht depth) s =
      .next ((s.concealUnit u w ht depth).freePipe k u.stream)) ∧
    (∀ x d, s.vstream u.stream = some x → budgetOver x.params (s.mls.uptime - (s.pipe k).takenAt) = true →
      exec (.frameBudgetExpiry ⟨k, d⟩) s =
        .next (((s.countStream u.stream 64 1).decodeUnit u d true).freePipe k u.stream))) ∧
  (∀ (s : State) (n qp header : Nat) (e : EncodeDue) (rest : List EncodeDue) (x : Session)
      (v : VStream) (blocks : List BlockBits), Map.get? s.video.sessions n = some x → x.due = e :: rest →
    s.vstream x.params.stream = some v → s.videoRuns = true →
    let size := encodeSize v.params x.params.scale
    let z := sizePicture x.params v.params.frameRate x.fullness x.pictures qp (headerCost header) e.picture.isSome
      (pictureBlocks (encodeBlocks size.1 size.2) blocks)
    let idr := e.picture.isSome && (x.forceIdr || x.sinceIdr = 0 || x.sinceIdr ≥ x.params.idrPeriod)
    let y := { x with
      due := rest, pictures := x.pictures + 1, fullness := z.after, forceIdr := x.forceIdr && !idr,
      sinceIdr := if idr then 1 else x.sinceIdr + 1 }
    ∃ u : EncodedUnit, u.session = n ∧ u.idr = idr ∧ u.bits = z.bits ∧ u.nals = unitNals idr (z.filler > 0) ∧
      u.capture = e.capture ∧ u.flags = e.flags ∧ u.picture = e.picture ∧ u.boxes = e.boxes ∧
      (let t := (s.setSession n y).sendUnit n y u
       exec (.encodePicture n qp header blocks) s =
        .next ((if z.least then t.count 0x000A n 0 0 0 24 1 else t).settleSession n))) ∧
  (∀ (s : State) (n id bay later : Nat) (rows : List VisionRow) (raw : List RawCandidate) (pic : Picture) (x : VStream) (b : Bay) (bale : Bale)
      (d : DetHead),
    s.video.pictures.find? (fun q => q.stream = n && q.id = id && q.detectors.contains bay) = some pic →
    s.vstream n = some x → s.videoRuns = true → s.bay bay = some b → b.bale = some bale → bale.detector = some d →
    let f := boxFilter d (bit pic.concealed + 2 * bit pic.fallback) (pic.id % 2 ^ 32) raw
    let r := (s.visionAttention bay rows).tensorOf x pic
    let flushed := ((r.1.map (leadFlushed bale.convs)).getD 0) + later
    let a := match r.2.vstream n with | some y => r.2.setVstream n { y with boxes := f.1 } | none => r.2
    let t := (if flushed = 0 then a else a.count 0x0001 (a.stageCore b 0) 0 0 0 24 flushed).countStream n 112 f.2.1
    let u := if f.2.2 = 0 then t else t.count 0x0003 bay 0 0 0 120 f.2.2
    exec (.detectorRunDone n id bay later ⟨rows, raw⟩) s =
      .next ((pic.routes.foldl (fun v r => v.offerBoxes pic bay f.1 r) u).endDetector pic bay)) ∧
  (∀ s : State, s.videoRuns = true → s.video.crops ≠ [] →
    let batch := s.video.crops.take 4096
    let made := batch.foldl (fun (a : List BoxPatches × State) j =>
      (a.1 ++ (a.2.boxPatches j).1.toList, (a.2.boxPatches j).2)) ([], s)
    let t : State := { made.2 with
      video := { made.2.video with crops := made.2.video.crops.drop 4096, patches := made.1 } }
    exec .cropBatchDone s = .next ((batch.map fun j => j.picture.stream).eraseDups.foldl (fun v n => v.pruneTensors n)
      (batch.foldl (fun v j => v.objectCreate j.route j.picture j.box) t)))

/-- After an SRTP packet of a stream has been accepted, its index and every index still in the window before it are
refused by the replay window then kept. The box filter keeps at most 256 boxes, each a candidate that is valid and
scores at least SCORE_MIN, and no box overlaps an earlier kept one beyond IOU_MAX where the two are compared; every
candidate that is not valid is counted as invalid. Readings and choices of the model beside the rules: logs 59 and 63. -/
def Obligations.ReplaysAndBoxes : Prop :=
  (∀ (s t : State) (p : RtpPacket) (n : Nat) (x y : VStream),
    s.matchStream p.port p.udpPort p.ssrc p.vlan = some (n, x) → s.videoRuns = true → x.params.srtp = true →
    s.srtpOk n x (srtpIndex x.replay p.seq) p.body p.tag = true →
    exec (.rtpPacket p) s = .next t → t.vstream n = some y →
    replayFresh y.replay (srtpIndex x.replay p.seq) = false ∧
    ∀ j : Nat, j ∈ x.replay → replayFresh y.replay j = false) ∧
  (∀ (d : DetHead) (flags frame : Nat) (raw : List RawCandidate),
    let f := boxFilter d flags frame raw
    let all := ((candPlaces d).zip raw).zipIdx.map fun p => candidateOf flags frame p.2 p.1.1 p.1.2
    f.1.length ≤ 256 ∧ (∀ b ∈ f.1, b ∈ all ∧ boxValid b = true ∧ F32.le d.scoreMin b.score = true) ∧
    f.1.Pairwise (fun a b => ((!d.classAware || a.cls = b.cls) && F32.lt d.iouMax (iou a b)) = false) ∧
    f.2.2 = (all.filter fun b => !boxValid b).length)

/-- A started ADD_TENANT with its payload gives tenant 0 its key where it has none and its point lies on the curve,
and gives an absent tenant the free slot of the lowest generation with a fresh page key; without a slot it answers
NO_KEY_SLOT. A started REMOVE_TENANT of a present tenant other than 0 begins its removal, and of a revoking one
answers TENANT_REVOKED; the end of the quarantine, with its bays idle and the marker settled, frees what the tenant
held and its slot, logs it, and replies. A started SET_JOB_KEYS of a newer generation with a good signature and
wrapping installs the job; a bad signature is counted and refused. The end of the overlap destroys the old job. A
started SET_CONSENT with a good signature and a higher counter applies its flags. GET_ATTESTATION and the management
bus answer one SPDM message each. Failed key slots are scanned one by one, and a loader that NOR cannot mend is
marked. Readings and choices of the model beside the rules: logs 12, 86 and 87. -/
def Obligations.CustomsRows : Prop :=
  (∀ (h : Hdr) (hbm way point : Nat) (s : State), startable 0x0601 h s = true → 128 ≤ payloadBytes h →
    let b := s.started 0x0601 h
    let c := cmdRef 0x0601 h s
    Config.onCurve point = true →
    (∀ x, b.tenant 0 = some x → x.publicKey = none → exec (.addTenant h 0 hbm way point) s =
      .next ((b.setTenant 0 { x with publicKey := some point, hbmQuota := hbm, wayQuota := way }).checkPort.reply c
        Status.done (65536 * (b.keySlot 0).generation) 0)) ∧
    (∀ t, 1 ≤ t → t ≤ 63 → b.tenant t = none →
      (b.freeKeySlot = none → exec (.addTenant h t hbm way point) s = .next (b.reply c Status.noKeySlot 0 0)) ∧
      (∀ n slot, b.freeKeySlot = some (n, slot) →
        let d : State := { b with free := b.free + 1 }
        let u := d.setKeySlot n { slot with
          state := 1, pageKey := Config.randomKey b.free, tenant := some t, lateWrites := 0 }
        exec (.addTenant h t hbm way point) s = .next ((u.setTenant t
          { state := 1, slot := n, publicKey := some point, consent := 0, consentCounter := 0, hbmQuota := hbm,
            wayQuota := way, job := none, oldJob := none, removal := none }).checkPort.reply c Status.done
              (n + 65536 * slot.generation) 0)))) ∧
  (∀ (h : Hdr) (t : Nat) (keep : Bool) (s : State) (x : Tenant), startable 0x0602 h s = true → 1 ≤ t → t ≤ 63 →
    let b := s.started 0x0602 h
    let c := cmdRef 0x0602 h s
    b.tenant t = some x →
    (x.state ≠ 2 → exec (.removeTenant h t keep) s = .next (b.removeTenant t (some c) keep)) ∧
    (x.state = 2 → exec (.removeTenant h t keep) s = .next (b.reply c Status.tenantRevoked 0 0))) ∧
  (∀ (s : State) (slot late t : Nat) (x : Tenant) (r : Removal) (c : CmdRef), (s.keySlot slot).tenant = some t →
    s.tenant t = some x → x.removal = some r → (s.keySlot slot).state = 3 → s.baysIdle t = true →
    s.markerSettled r = true → r.ref = some c →
    let u := (((s.passBays t).freeTenant t).count 0x0060 t 0 0 0 32 late).releaseSlot slot
    let g := (u.keySlot slot).generation
    let v := (u.logAdd 0x10 255 255 t true (leBytes 1 t ++ leBytes 1 slot ++ leBytes 2 g ++ leBytes 8 late)).event 0
      0x0601 t (slot + 256 * g)
    let w := ({ v with customs := { v.customs with tenants := Map.erase v.customs.tenants t } } : State).checkPort
    let unconfirmed := r.unconfirmed || r.marker.any fun q => v.escort.acked < q
    exec (.slotQuarantineEnd slot late) s = .next (w.reply c Status.done
      (r.frames + (if unconfirmed then 2 ^ 63 else 0)) (w.stat (statKey 0x0060 t 0 0 0 32)))) ∧
  (∀ (h : Hdr) (gen : Nat) (payload : List Byte) (s : State) (x : Tenant) (key : Nat), startable 0x0603 h s = true →
    let b := s.started 0x0603 h
    let c := cmdRef 0x0603 h s
    let now := (b.keySlot x.slot).generation
    b.tenant h.fn = some x → x.publicKey = some key → now ≠ 0xFFFF → now < gen → gen ≤ 0xFFFF → 288 ≤ payloadBytes h →
    jobPayloadOk payload = true →
    let signed_ := Config.ecdsaOk key (jobMessage h.fn gen payload) (beNat (slice 192 96 payload))
    (signed_ = false → exec (.setJobKeys h gen payload) s =
      .next ((b.count 0x0060 h.fn 0 0 0 40 1).reply c Status.notPermitted 0 0)) ∧
    (∀ secret, signed_ = true → unwrapJob b.fuses.identitySeed h.fn gen payload = some secret →
      exec (.setJobKeys h gen payload) s =
        .next ((b.installJob h.fn gen (leNat (slice 176 2 payload)) secret x).reply c Status.done gen 0))) ∧
  (∀ (s : State) (t k g till : Nat) (x : Tenant), s.tenant t = some x → x.oldJob = some (k, g, till) →
    (till ≤ s.mls.uptime → exec (.jobKeyOverlapEnd t) s = .next (s.setTenant t { x with oldJob := none })) ∧
    (s.mls.uptime < till → exec (.jobKeyOverlapEnd t) s = .next s)) ∧
  (∀ (h : Hdr) (payload : List Byte) (s : State) (x : Tenant) (key : Nat), startable 0x0605 h s = true →
    let b := s.started 0x0605 h
    let c := cmdRef 0x0605 h s
    let flags := leNat (slice 0 1 payload)
    let counter := leNat (slice 8 8 payload)
    b.tenant h.fn = some x → x.publicKey = some key → 112 ≤ payloadBytes h → flags ≤ 7 → leNat (slice 1 7 payload) = 0 →
    let signed_ := Config.ecdsaOk key (consentMessage h.fn (b.keySlot x.slot).generation payload) (beNat (slice 16 96 payload))
    (signed_ = false → exec (.setConsent h payload) s =
      .next ((b.count 0x0060 h.fn 0 0 0 40 1).reply c Status.notPermitted 0 0)) ∧
    (signed_ = true → counter ≤ x.consentCounter → exec (.setConsent h payload) s =
      .next (b.reply c Status.badParam 0 0)) ∧
    (signed_ = true → x.consentCounter < counter → exec (.setConsent h payload) s =
      .next ((b.applyConsent h.fn flags counter x).reply c Status.done 0 0))) ∧
  (∀ (h : Hdr) (payload : List Byte) (s : State), startable 0x0604 h s = true → 20544 ≤ payloadBytes h →
    let b := s.started 0x0604 h
    let len := leNat (slice 0 4 payload)
    4 ≤ len → len ≤ 4096 →
    let m := slice 64 len payload
    let r := (spdmAnswer b.fuses.identitySeed (b.fn h.fn).spdm m (b.measurements h.fn)).take 16384
    exec (.getAttestation h payload) s = .next (((b.setFn h.fn { b.fn h.fn with
      spdm := (b.fn h.fn).spdm ++ m ++ r }).writePayload h.fn (payloadSpans h) 4160 r).reply (cmdRef 0x0604 h s)
        Status.done r.length 0)) ∧
  (∀ (s : State) (m : List Byte), s.customs.restarting = false →
    let r := spdmAnswer s.fuses.identitySeed s.customs.spdm m (s.measurements 0)
    exec (.spdmRequest m) s = .next (({ s with customs := { s.customs with spdm := s.customs.spdm ++ m ++ r } } :
      State).emit (.spdm r))) ∧
  (∀ (s : State) (one both : List Nat) (bad ok : Bool),
    let t := (both.filter fun n => n < 128).foldl State.slotFailed s
    exec (.keyStoreScan one both bad ok) s =
      .next (if bad = true ∧ ok = false then { t with customs := { t.customs with loaderBad := true } } else t))

/-- Once REMOVE_TENANT has begun, the tenant is revoking with no public key, no consent and no job keys, its slot is
in quarantine with no page key, none of its requests is left, and none of its contexts, routes, templates, tracks or
action streams is left; this holds where every request stands in the slot of its ID, as it does at reset and after
every change of a request. A SET_CONSENT that takes effect leaves a counter higher than the one before, and one that
is refused leaves the tenant's flags and counter as they were. Readings and choices of the model beside the rules:
logs 86 and 87. -/
def Obligations.RemovedTenantHasNoKeys : Prop :=
  (∀ (s : State) (t : Nat) (x : Tenant) (ref : Option CmdRef) (keep : Bool), s.tenant t = some x →
    (∀ p ∈ s.reqs.slot, p.1 = slotOf p.2.id) →
    let u := s.removeTenant t ref keep
    (∃ y, u.tenant t = some y ∧ y.state = 2 ∧ y.publicKey = none ∧ y.consent = 0 ∧ y.job = none ∧ y.oldJob = none ∧
      y.slot = x.slot) ∧
    (u.keySlot x.slot).state = 3 ∧ (u.keySlot x.slot).pageKey = 0 ∧
    (∀ p ∈ u.reqs.slot, p.2.tenant ≠ t) ∧ (∀ n c, u.ctx n = some c → c.tenant ≠ t) ∧
    (∀ p ∈ u.reqs.routes, p.2.tenant ≠ t) ∧ (∀ p ∈ u.reqs.templates, p.2.tenant ≠ t) ∧
    (∀ p ∈ u.mls.tracks, p.2.tenant ≠ t) ∧ (∀ p ∈ u.mls.streams, p.2.tenant ≠ t)) ∧
  (∀ (h : Hdr) (payload : List Byte) (s t : State) (x y : Tenant), startable 0x0605 h s = true →
    s.tenant h.fn = some x → exec (.setConsent h payload) s = .next t → t.tenant h.fn = some y →
    (y.consent = x.consent ∧ y.consentCounter = x.consentCounter) ∨ x.consentCounter < y.consentCounter) ∧
  (∀ (s : State) (r : Req), (∀ p ∈ s.reqs.slot, p.1 = slotOf p.2.id) → ∀ p ∈ (s.setReq r).reqs.slot, p.1 = slotOf p.2.id) ∧
  State.reset.reqs.slot = []

/-- A started PAIR_ESCORT PAIR that no rule refuses, with a partner whose LINK_HELLO leaves a common generation and
FORMAT, leaves no copy in progress, takes the next epoch above all three and a pair key formed from both randoms, and
makes the module ACTIVE or DETACHED with its self-fence ended; its reply carries the role, position, partner and
epoch. One that is refused replies its status, and one whose LINK_HELLO records do not agree BAD_PARAM (the model's
choice, log 129), the pair as it was. A started UNPAIR makes the module unpaired with its self-fence ended and, unless
the module is leaving, the fence by epoch too. A started SET_DEAD_RULE in range sets the rule with its defaults. A
started BEGIN_SHADOW in range, on an ACTIVE module with a DETACHED partner, the link up and nothing in progress, is
ACCEPTED and starts the bulk transfer. A started SWAP of a COVERED active begins the swap. A started ADMIT with no
token bale seated makes a shadow an escort, and ends the window of the active of a shadow. Readings and choices of the
model beside the rules: logs 91 and 93. -/
def Obligations.EscortCommands : Prop :=
  (∀ (h : Hdr) (joiner : Bool) (slot serial floor pe pr gmax gmin format : Nat) (trained spdm asks : Bool) (s : State),
    startable 0x0701 h s = true →
    let b := s.started 0x0701 h
    let c := cmdRef 0x0701 h s
    let top := max (max b.escort.epoch pe) floor
    let run := exec (.pairEscortPair h joiner slot serial floor pe ⟨pr, gmax, gmin, format⟩ trained spdm asks) s
    let agrees := gmin ≤ 1 ∧ 1 ≤ gmax ∧ format = 1
    let position : Nat := if ((b.power.slot.map (·.1)).getD 0) < slot then 0 else 1
    (∀ st, b.pairRefusal slot joiner trained spdm asks top = some st →
      ∃ t : State, run = .next (t.reply c st 0 0) ∧ t.escort = b.escort) ∧
    (b.pairRefusal slot joiner trained spdm asks top = none → ¬ agrees →
      ∃ t : State, run = .next (t.reply c Status.badParam 0 0) ∧ t.escort = b.escort) ∧
    (b.pairRefusal slot joiner trained spdm asks top = none → agrees → ∃ (t : State) (mine : Nat),
      run = .next (t.pairReply c) ∧
      t.escort.pairKey = (if position = 0 then Config.pairKey Config.serial serial mine pr
        else Config.pairKey serial Config.serial pr mine) ∧
      t.escort.role = (if joiner then 4 else 1) ∧ t.escort.partner = serial ∧ t.escort.epoch = top + 1 ∧
      t.persist.epoch = top + 1 ∧ t.escort.copying = false ∧ t.escort.linkUp = true ∧ t.mls.fenceSelf = false ∧
      t.escort.position = position)) ∧
  (∀ (h : Hdr) (s : State), startable 0x0701 h s = true → ∃ t : State,
    exec (.pairEscortUnpair h) s = .next (t.pairReply (cmdRef 0x0701 h s)) ∧ t.escort.role = 0 ∧ t.escort.partner = 0 ∧
    t.escort.copying = false ∧ t.escort.linkUp = false ∧ t.mls.fenceSelf = false ∧
    (s.power.leaving = none → t.mls.egressClosed = false ∧ t.mls.fenceLeave = false)) ∧
  (∀ (h : Hdr) (rule nLink nMgmt : Nat) (s : State), startable 0x0702 h s = true → rule ≤ 1 → nLink ≤ 255 → nMgmt ≤ 255 →
    let b := s.started 0x0702 h
    exec (.setDeadRule h rule nLink nMgmt) s = .next (({ b with escort := { b.escort with
      rule := rule, nLink := if nLink = 0 then 10 else nLink, nMgmt := if nMgmt = 0 then 3 else nMgmt } } : State).reply
        (cmdRef 0x0702 h s) Status.done 0 0)) ∧
  (∀ (h : Hdr) (p : ShadowParams) (s : State), startable 0x0703 h s = true → shadowOk p = true →
    let b := s.started 0x0703 h
    let c := cmdRef 0x0703 h s
    let q := shadowDefaults p
    let ok := b.escort.role = 1 ∧ b.escort.partnerRole = 4 ∧ b.escort.linkUp = true ∧ b.escort.job = none ∧
      bitOf b.mem.fence 11 = false
    (¬ ok → exec (.beginShadow h p) s = .next (b.reply c Status.notPermitted 0 0)) ∧
    (ok →
      let a := b.accept c 0 0
      let t := ({ a with escort := { a.escort with
        copying := true, owed := [], partnerLeft := false, job := some (.resync c q (!b.escort.copyStopped)) } } :
          State).settleHealth
      let named := t.liveReqs.foldl (fun u r => u.setReq { r with copied := true }) t
      exec (.beginShadow h p) s = .next ((t.bulkItems (if b.escort.copyStopped then none else some q)).foldl
        (fun u i => u.sendRec (.bulk i) (bulkBytes i)) named))) ∧
  (∀ (h : Hdr) (s : State), startable 0x0704 h s = true →
    let b := s.started 0x0704 h
    let c := cmdRef 0x0704 h s
    (b.escort.role = 1 → b.escort.health = 1 → b.escort.epoch ≠ epochMax → b.escort.job = none →
      exec (.promoteEscortSwap h) s = .next { b with escort := { b.escort with job := some (.swap c false) } }) ∧
    (b.tokenBaleSeated = true → exec (.promoteEscortAdmit h) s = .next (b.reply c Status.notPermitted 0 0)) ∧
    (b.tokenBaleSeated = false → b.escort.role = 3 → exec (.promoteEscortAdmit h) s =
      .next (((({ b with escort := { b.escort with shadow := none } } : State).setPair 2 3 0).settleHealth).reply c
        Status.done 0 0)) ∧
    (b.tokenBaleSeated = false → b.escort.role = 1 → b.escort.partnerRole = 3 →
      (b.escort.job = none →
        exec (.promoteEscortAdmit h) s = .next ((b.sendRec (.bulk (.last none)) 64).reply c Status.done 0 0)) ∧
      (∀ w p, b.escort.job = some (.window w p) → exec (.promoteEscortAdmit h) s =
        .next (((({ b with escort := { b.escort with job := none } } : State).reply w Status.done 0 0).sendRec
          (.bulk (.last none)) 64).reply c Status.done 0 0))))

/-- Heartbeats go out at their periods on a running pair, ahead of everything queued. A cell that fails its code or
its tag is NACKed, an old one acknowledged again, a gap NACKed, and the next one applied and acknowledged, or NACKed
where it is poisoned in the receive staging. Management messages renew the path and are heard from the partner alone;
3 ms without a keep-alive the path is lost. An escort whose dead rule holds takes over, unless the epoch is stuck; one
without the link for T_dead while management goes on is DETACHED. An ACTIVE module that misses the link with its
management path lost fences its lines, the copy to its escort going on into the retention (the model's reading, log
91), and is ALONE with that path alive. The link trains where its partner's generation and FORMAT agree, and otherwise
answers with its LINK_HELLO, stays down and raises PAIR_MISMATCH; it goes down, or runs at half rate; cables are
noted. A bulk transfer that has reached the partner moves BEGIN_SHADOW on; a window that ends replies its result; a
drained swap is handed over, and its partner becomes ACTIVE at the next epoch. Readings and choices of the model
beside the rules: logs 88, 89, 92 and 94. -/
def Obligations.EscortEvents : Prop :=
  (∀ s : State, s.heartbeatsRun = true → s.escort.linkUp = true → (∀ l, s.power.leaving = some l → l.fenced = false) →
    s.escort.sentLink + 50000 ≤ s.mls.uptime → exec .heartbeatSend s =
      .next (({ s with escort := { s.escort with sentLink := s.mls.uptime } } : State).emit (.escort (.heartbeat s.escort.epoch
        s.escort.role s.escort.health s.escort.newestEnd s.mls.time s.escort.leaving)))) ∧
  (∀ s : State, s.heartbeatsRun = true → s.escort.sentMgmt + 1000000 ≤ s.mls.uptime → exec .mgmtHeartbeatSend s =
    .next (({ s with escort := { s.escort with sentMgmt := s.mls.uptime } } : State).emit (.mgmtHeartbeat Config.serial
      s.escort.epoch s.escort.role s.mls.time s.escort.leaving))) ∧
  (∀ (s : State) (c : Cell), s.escort.linkUp = true → s.escort.role ≠ 0 →
    let next := s.escort.rxSeq + 1
    (c.fecOk = false ∨ s.cellTagHolds c = false → exec (.escortCellReceive c) s = .next (s.emit (.escort (.nack next 1)))) ∧
    (c.fecOk = true → s.cellTagHolds c = true → c.format = 1 → c.ctype ≤ 1 →
      (c.seq < next → exec (.escortCellReceive c) s = .next s.sendAck) ∧
      (next < c.seq → exec (.escortCellReceive c) s = .next (s.emit (.escort (.nack next (c.seq - s.escort.rxSeq))))) ∧
      (c.seq = next → s.mem.poison.any (inStaging next) = true → exec (.escortCellReceive c) s = .next (s.refuseStaged next)) ∧
      (c.seq = next → s.mem.poison.any (inStaging next) = false → exec (.escortCellReceive c) s = .next (s.applyCell c)))) ∧
  (∀ s : State, s.escort.role ≠ 0 → exec (.mgmtHeartbeatReceive .keepAlive) s = .next (({ s with escort := { s.escort with
    lastKeep := s.mls.uptime, mgmtLost := false } } : State).settleHealth)) ∧
  (∀ (s : State) (serial epoch role time : Nat) (leaving : Bool), s.escort.role ≠ 0 →
    (serial = s.escort.partner → exec (.mgmtHeartbeatReceive (.heartbeat serial epoch role time leaving)) s =
      .next ((({ s with escort := { s.escort with lastMgmt := s.mls.uptime } } : State).seeEpoch epoch 1).seePartner role
        leaving)) ∧
    (serial ≠ s.escort.partner → exec (.mgmtHeartbeatReceive (.heartbeat serial epoch role time leaving)) s = .next s)) ∧
  (∀ s : State, s.escort.lastKeep + 3000000 ≤ s.mls.uptime → s.escort.mgmtLost = false → s.escort.role ≠ 0 →
    exec .mgmtPathLoss s = .next (({ s with escort := { s.escort with mgmtLost := true } } : State).settleHealth)) ∧
  (∀ s : State, s.escort.role = 2 →
    (s.deadRuleHolds = true → s.escort.epoch ≠ epochMax → exec .deadDeclaration s = .next s.takeOver) ∧
    (s.deadRuleHolds = true → s.escort.epoch = epochMax → s.escort.stuckRaised = false → exec .deadDeclaration s =
      .next (({ s with escort := { s.escort with stuckRaised := true } } : State).event 0 0x0705 epochMax 0)) ∧
    (s.deadRuleHolds = false → s.escort.mgmtLost = false → s.escort.lastLink + s.tDead ≤ s.mls.uptime →
      s.missedMgmt < s.escort.nMgmt → exec .deadDeclaration s = .next (s.detach 0))) ∧
  (∀ s : State, s.escort.role = 1 → s.escort.partnerLeft = false →
    (s.escort.mgmtLost = true → s.escort.nLink ≤ s.missedLink → s.mls.fenceSelf = false → s.escort.copying = true →
      let f := ((s.setFences s.mls.fenceBreakout true s.mls.fenceLeave).escRaise 16).event 0 0x0706 0 1
      (s.escort.partnerRole = 2 → s.escort.job = none → exec .selfFence s = .next f.settleHealth) ∧
      (s.escort.partnerRole ≠ 2 ∨ s.escort.job ≠ none → exec .selfFence s = .next f.pairAlone)) ∧
    (s.escort.mgmtLost = false → s.escort.lastLink + s.tDead ≤ s.mls.uptime → s.escort.copying = true →
      exec .selfFence s = .next s.pairAlone)) ∧
  (∀ (s : State) (port : Nat), s.escort.linkUp = true → port ≤ 1 →
    (s.escort.halfPort = none → exec (.linkHalf port) s = .next ((({ s with escort := { s.escort with
      halfPort := some (1 - port) } } : State).escRaise 32).event 0 0x0708 port 0)) ∧
    (s.escort.halfPort = some port → exec (.linkHalf port) s = .next s.linkLost) ∧
    exec .escortLinkDown s = .next s.linkLost) ∧
  (∀ (s : State) (gmax gmin format random : Nat), s.escort.role ≠ 0 → s.escort.linkUp = false → s.escort.cables ≠ [] →
    (gmin ≤ 1 → 1 ≤ gmax → format = 1 → exec (.escortLinkUp s.escort.partner gmax gmin format random) s =
      .next (s.linkTrained random)) ∧
    ((1 < gmin ∨ gmax < 1 ∨ format ≠ 1) →
      let d : State := { s with free := s.free + 1 }
      exec (.escortLinkUp s.escort.partner gmax gmin format random) s =
        .next ((d.sendHello s.escort.position (Config.randomKey s.free)).event 0 0x0707 0 (gmax + 256 * format)))) ∧
  (∀ (s : State) (port lanes mbps : Nat) (present : Bool), port ≤ 1 → exec (.cablePlugEvent port lanes mbps present) s =
    .next { s with escort := { s.escort with
      cables := (s.escort.cables.filter fun c => c.1 ≠ port) ++ (if present then [(port, lanes, mbps)] else []) } }) ∧
  (∀ (s : State) (c : CmdRef) (p : ShadowParams), s.escort.role = 1 → (∀ r ∈ s.escort.retention, ∀ i, r.2.2.2 ≠ .bulk i) →
    (s.escort.job = some (.resync c p true) → s.escort.partnerRole = 3 → exec .bulkTransferEnd s =
      .next (({ s with escort := { s.escort with job := some (.window c p) } } : State).settleHealth)) ∧
    (s.escort.job = some (.resync c p false) → s.escort.partnerRole = 2 → exec .bulkTransferEnd s =
      .next ((({ s with escort := { s.escort with job := none, copyStopped := false } } : State).settleHealth).reply c
        Status.done 0 0))) ∧
  (∀ (s : State) (c : CmdRef) (p : ShadowParams) (agree compared convoys : Nat) (distance : F32), s.escort.role = 1 →
    s.escort.job = some (.window c p) → p.window ≤ convoys → convoys < 2 ^ 32 →
    let result := (if windowPasses p agree compared distance then 1 else 0)
    exec (.shadowWindowEnd agree compared convoys distance) s = .next ((({ s with escort := { s.escort with job := none } } :
      State).event 0 0x0704 0 (result + 256 * agreement agree compared)).reply c Status.done
        (result + 65536 * agreement agree compared + 2 ^ 32 * convoys) distance.toNat)) ∧
  (∀ (s : State) (c : CmdRef) (removal : Bool), s.escort.role = 1 → s.escort.job = some (.swap c removal) →
    (s.swapDrained = true → exec .plannedSwapHandover s = .next (s.swapDone c removal)) ∧
    (s.swapDrained = false → exec .plannedSwapHandover s = .next s)) ∧
  (∀ s : State, s.escort.role = 2 → s.escort.health = 1 → s.escort.held = [] → s.escort.epoch ≠ epochMax →
    ∃ t, exec .plannedSwapHandover s = .next t ∧ t.escort.role = 1 ∧ t.escort.epoch = s.escort.epoch + 1)

/-- A takeover makes the escort ACTIVE and ALONE at the next epoch, stored in flash, discards the records of a convoy
not ended, puts its requests back between steps, and leaves the ledger, tracks, contexts, memory and module time as
they were. An ACTIVE module that sees a higher epoch outside a swap becomes DETACHED at that epoch with no ledger
entry but those whose pulse is in progress, every line fenced, its egress closed, and no line active where none was
active under an earlier fence, so that it launches nothing; the epoch stored in flash is the one it holds. Readings
and choices of the model beside the rules: log 92. -/
def Obligations.TakeoverAndFences : Prop :=
  (∀ s : State, s.escort.role = 2 → s.deadRuleHolds = true → s.escort.epoch ≠ epochMax →
    ∃ t, exec .deadDeclaration s = .next t ∧ t.escort.role = 1 ∧ t.escort.health = 3 ∧ t.escort.epoch = s.escort.epoch + 1 ∧
      t.persist.epoch = s.escort.epoch + 1 ∧ t.escort.held = [] ∧ t.escort.copying = false ∧
      (∀ p ∈ t.reqs.slot, p.2.state ≠ 1) ∧ t.mls.ledger = s.mls.ledger ∧ t.mls.tracks = s.mls.tracks ∧
      t.mls.time = s.mls.time ∧ t.ctxs = s.ctxs ∧ t.mem = s.mem ∧ t.launches = s.launches) ∧
  (∀ (s : State) (seen path : Nat), s.escort.role = 1 → (∀ c r, s.escort.job ≠ some (.swap c r)) → s.escort.epoch < seen →
    let t := s.seeEpoch seen path
    t.escort.role = 4 ∧ t.escort.epoch = seen ∧ t.persist.epoch = seen ∧ t.escort.copying = false ∧
    t.mls.egressClosed = true ∧ t.linesFenced = true ∧
    ((s.linesFenced = true → ∀ l < 16, s.lineActive l = false) → ∀ l < 16, t.lineActive l = false) ∧
    (∀ e ∈ t.mls.ledger, t.inPulse e = true) ∧ t.mayNotLaunch ∧ t.launches = s.launches)

/-- A started SET_POWER_LIMITS with its fields 0 or in range sets the host's limits, reports the effective ones once
and replies with them; an out-of-range one is refused with BAD_PARAM. A PLDM effecter in range sets the rack's limit,
and one out of range is rejected with no effect. The effective cap is the least of those that are set, and rung 1 caps
it at 2,400 W. A started PREPARE_REMOVAL is ACCEPTED and begins the leaving sequence on a module with no healthy
escort under FORCE, swaps first on a paired ACTIVE module, and is refused without FORCE; OP ABORT ends the sequence
and answers both commands. A lever that opens raises LATCH_OPEN and begins the sequence; a lever that closes again
ends it as ABORT does, or starts the module anew once REMOVE lit. The covered copy fences, the ramp-down at standby
lights REMOVE, replies and turns the rails off. A rung sets and clears once its condition has lasted its time; rungs 2
and 4 begin the leaving sequence for a hold. A junction above 120 °C turns the rails off until the next power-on reset
and leaves an entry in standby NOR. Readings and choices of the model beside the rules: logs 96 and 97. -/
def Obligations.PowerCommands : Prop :=
  (∀ (h : Hdr) (cap up down : Nat) (s : State), startable 0x0901 h s = true →
    let b := s.started 0x0901 h
    let c := cmdRef 0x0901 h s
    let ok := (cap = 0 ∨ 1000 ≤ cap ∧ cap ≤ 3200) ∧ (up = 0 ∨ 1 ≤ up ∧ up ≤ 1000) ∧ (down = 0 ∨ 1 ≤ down ∧ down ≤ 1000)
    let t : State := { b with power := { b.power with hostCap := cap, hostUp := up, hostDown := down } }
    (ok → t.limitsWord = b.limitsWord → exec (.setPowerLimits h cap up down) s =
      .next ((t.event 0 0x0906 0 t.limitsWord).reply c Status.done t.limitsWord 0)) ∧
    (ok → t.limitsWord ≠ b.limitsWord → exec (.setPowerLimits h cap up down) s =
      .next (((t.pwrRaise 0x40).event 0 0x0906 0 t.limitsWord).reply c Status.done t.limitsWord 0)) ∧
    (¬ ok → exec (.setPowerLimits h cap up down) s = .next (b.reply c Status.badParam 0 0))) ∧
  (∀ (v : Nat) (s : State),
    (v = 0 ∨ 1000 ≤ v ∧ v ≤ 3200 → ∃ t, exec (.pldmEffecterSet 1 v) s = .next t ∧
      (t.power.rackCap, t.power.rackUp, t.power.rackDown, t.mls) = (v, s.power.rackUp, s.power.rackDown, s.mls)) ∧
    (v ≤ 1000 → ∃ t, exec (.pldmEffecterSet 2 v) s = .next t ∧
      (t.power.rackCap, t.power.rackUp, t.power.rackDown, t.mls) = (s.power.rackCap, v, s.power.rackDown, s.mls)) ∧
    (v ≤ 1000 → ∃ t, exec (.pldmEffecterSet 3 v) s = .next t ∧
      (t.power.rackCap, t.power.rackUp, t.power.rackDown, t.mls) = (s.power.rackCap, s.power.rackUp, v, s.mls)) ∧
    (3200 < v → ∀ k, exec (.pldmEffecterSet k v) s = .next (s.emit (.pldm false)))) ∧
  (∀ s : State, s.effectiveCap ≤ 3200 ∧ (s.power.hostCap ≠ 0 → s.effectiveCap ≤ s.power.hostCap) ∧
    (s.power.rackCap ≠ 0 → s.effectiveCap ≤ s.power.rackCap) ∧ (1 ∈ s.power.rungs → s.effectiveCap ≤ 2400) ∧
    (∀ r, s.power.slot = some r → r.2.2.1 ≠ 0 → s.effectiveCap ≤ r.2.2.1)) ∧
  (∀ (h : Hdr) (force : Bool) (s : State), startable 0x0902 h s = true → s.power.leaving = none →
    let b := s.started 0x0902 h
    let c := cmdRef 0x0902 h s
    (s.escort.role = 1 → s.escort.health = 1 → s.escort.job = none → s.escort.epoch ≠ epochMax →
      let t := b.accept c 0 0
      exec (.prepareRemoval h force) s = .next { t with escort := { t.escort with job := some (.swap c true) } }) ∧
    (s.escort.role ≤ 1 → (s.escort.role = 1 → s.escort.health ≠ 1) → force = false →
      exec (.prepareRemoval h force) s = .next (b.reply c Status.notPermitted 0 0)) ∧
    ((s.escort.role = 1 → s.escort.health ≠ 1) → force = true →
      exec (.prepareRemoval h force) s = .next ((b.accept c 0 0).startLeaving true (some c)))) ∧
  (∀ (h : Hdr) (l : Leaving) (s : State), startable 0x0902 h s = true → s.power.leaving = some l →
    let b := s.started 0x0902 h
    let c := cmdRef 0x0902 h s
    (l.removal = true → l.ready = false → ∀ w, l.ref = some w → s.power.rungs = [] →
      exec (.prepareRemovalAbort h) s =
        .next (((b.endLeaving l).reply w Status.cancelled 0 0).reply c Status.done 0 0)) ∧
    (l.ready = true → exec (.prepareRemovalAbort h) s = .next (b.reply c Status.notPermitted 0 0))) ∧
  (∀ s : State, s.power.latchOpen = false → s.power.railsOn = true → s.power.leaving = none → s.escort.job = none →
    exec .pullNotice s = .next (s.latchOpened.startLeaving true none)) ∧
  (∀ (s : State) (l : Leaving), s.power.latchOpen = true → s.power.mated = true → s.power.leaving = some l →
    let t : State := { s with power := { s.power with latchOpen := false } }
    (l.ready = true → exec .latchClose s = .next { t with power := { t.power with leaving := none, state := 0 } }) ∧
    (l.ready = false → l.removal = true → exec .latchClose s = .next (t.abortLeaving l))) ∧
  (∀ (s : State) (l : Leaving), s.power.leaving = some l →
    (l.fenced = false → s.leavingCovered = true → exec .leavingCopyCovered s = .next (s.leavingFence l)) ∧
    (l.fenced = false → s.leavingCovered = false → exec .leavingCopyCovered s = .next s) ∧
    (l.removal = true → l.fenced = true → l.ready = false → s.power.watts ≤ 50 → ∃ t, exec .removalReady s = .next t ∧
      t.power.railsOn = false ∧ t.power.leaving = some { l with ready := true, ref := none } ∧
      t.persist = s.persist ∧ t.mls.uptime = s.mls.uptime ∧
      bitOf t.power.events 0 = true)) ∧
  (∀ (s : State) (since : Nat), s.power.railsOn = true → s.power.rungs = [] →
    (s.power.trigger = [(1, since)] → since + giga ≤ s.mls.uptime →
      ∃ t, exec (.ladder 1) s = .next t ∧ t.power.rungs = [1] ∧ t.effectiveCap ≤ 2400 ∧
        t.power.leaving = s.power.leaving ∧ t.power.state = s.power.state) ∧
    (s.power.trigger = [(2, since)] → since + 500000000 ≤ s.mls.uptime → s.power.leaving = none → s.escort.job = none →
      ∃ t, exec (.ladder 2) s = .next t ∧ t.power.rungs = [2] ∧ t.power.state = 4 ∧ t.escort.leaving = true ∧
        (t.power.leaving.map fun l => l.removal) = some false) ∧
    (s.power.trigger = [(2, since)] → s.mls.uptime < since + 500000000 → exec (.ladder 2) s = .next s)) ∧
  (∀ (s : State) (since : Nat), s.power.rungs = [1] → s.power.clearing = [(1, since)] →
    (since + 10 * giga ≤ s.mls.uptime → ∃ t, exec (.ladder 1) s = .next t ∧ t.power.rungs = []) ∧
    (s.mls.uptime < since + 10 * giga → exec (.ladder 1) s = .next s)) ∧
  (∀ (inlet outlet junction : Int) (flow : Nat) (s : State),
    (1200 < junction → s.power.tripped = false → s.power.railsOn = true →
      ∃ t, exec (.thermalSample inlet outlet junction flow) s = .next t ∧ t.power.railsOn = false ∧
        t.power.tripped = true ∧ t.power.junction = junction ∧ t.persist.standbyNor = s.persist.standbyNor ++
          [(0x21, leBytes 1 5 ++ leBytes 1 1 ++ leBytes 2 (twos 16 junction) ++ leBytes 2 (twos 16 inlet) ++
            leBytes 2 flow)]) ∧
    (junction ≤ 1200 → ∃ t, exec (.thermalSample inlet outlet junction flow) s = .next t ∧
      t = { s with power := t.power } ∧ t.power.inlet = inlet ∧ t.power.outlet = outlet ∧
      t.power.junction = junction ∧ t.power.flow = flow ∧ t.power.rungs = s.power.rungs ∧
      t.power.railsOn = s.power.railsOn))

/-- The presence contact that mates has both records read; one that breaks turns the rails off. A record is read anew
every second while none is valid, and the breakout record at each change of its pin. Rails come up when every
condition of the start holds, the bulk's measured voltage within 2 V of the input's among them, and do not where one
of them fails. Falling below 40.0 V, and passing 58.0 V, resets the whole module, with the records in flash and the
fuses as before; rising past 42.0 V, and falling below 57.0 V, releases it. A dip lowers F to at most 128, the slot of
the change keeping the F it began with, and raises the escort engine's priority, and its end writes one log entry and
one event with the lowest voltage and its length. A sample above the cap or the ramp's allowance lowers the clock by
one step, and F once the clock is at its lowest; a sample below both restores F first, then the clock; a dip's current
hold lowers the clock alone. Readings and choices of the model beside the rules: logs 95 and 97. -/
def Obligations.PowerEvents : Prop :=
  (∀ (slot breakout : IdRecord) (s : State), s.power.mated = false → exec (.presenceMate slot breakout) s =
    .next ((({ s with power := { s.power with mated := true } } : State).readSlot slot).readBreakout breakout)) ∧
  (∀ s : State, s.power.mated = true → ∃ t, exec .presenceBreak s = .next t ∧ t.power.railsOn = false ∧
    t.power.mated = false ∧ t.power.slot = none ∧ t.power.state = 0 ∧ t.persist = s.persist ∧ t.fuses = s.fuses ∧
    t.ctxs.ctx = [] ∧ t.mls.ledger = []) ∧
  (∀ (slot : IdRecord) (s : State), s.power.mated = true → s.power.slot = none →
    (s.power.slotRead + giga ≤ s.mls.uptime → exec (.slotRecordRetry slot) s = .next (s.readSlot slot)) ∧
    (s.mls.uptime < s.power.slotRead + giga → exec (.slotRecordRetry slot) s = .next s)) ∧
  (∀ (slot : IdRecord) (s : State),
    let t := s.readSlot slot
    t.power.slot = parseSlot slot ∧ (t.power.slotInvalid = true ↔ parseSlot slot = none) ∧ t.power.slotRead = s.mls.uptime) ∧
  (∀ (r : IdRecord) (s : State), exec (.breakout r) s = .next (s.readBreakout r)) ∧
  (∀ (s : State) (since : Nat),
    let p := s.power
    (p.railsOn = false → p.tripped = false → p.overVoltage = false → p.released = true → p.mated = true →
      p.volts ≤ p.bulk + 2000 → 46500 ≤ p.volts → p.slot ≠ none → p.flowSince = some since →
      since + giga ≤ s.mls.uptime → p.state ≠ 5 →
      exec .startRailsEnable s = .next { s with power := { p with
        railsOn := true, state := 0, allowance := 0, window := s.mls.uptime } }) ∧
    ((p.slot = none ∨ p.volts < 46500 ∨ p.bulk + 2000 < p.volts ∨ p.flowSince = none ∨ p.mated = false ∨
        p.released = false ∨ p.overVoltage = true ∨ p.tripped = true) →
      exec .startRailsEnable s = .next s)) ∧
  (∀ s : State, ∃ t, exec .resetAssert s = .next t ∧ t.power.released = false ∧ t.power.railsOn = false ∧
    t.persist = s.persist ∧ t.fuses = s.fuses ∧ t.ctxs = Contexts.reset s.persist ∧ t.reqs = Requests.reset ∧
    t.power.mated = s.power.mated) ∧
  (∀ s : State, ∃ t, exec .overVoltageSet s = .next t ∧ t.power.released = false ∧ t.power.overVoltage = true ∧
    t.power.railsOn = false ∧ t.persist = s.persist ∧ t.fuses = s.fuses ∧ t.reqs = Requests.reset) ∧
  (∀ s : State, (s.power.overVoltage = false → exec .resetRelease s =
      .next { s with power := { s.power with released := true } }) ∧
    (s.power.overVoltage = true → exec .resetRelease s = .next s ∧
      exec .overVoltageClear s = .next { s with power := { s.power with overVoltage := false, released := true } })) ∧
  (∀ (mv : Nat) (s : State), s.power.dip = false → s.power.released = true → mv ≤ 45000 →
    let p := { s.power with
      dip := true, dipSince := s.mls.uptime, dipMin := mv, volts := mv, fireBudget := min 128 s.power.fireBudget }
    let t : State := { s with
      mem := { s.mem with escortBoost := true }
      power := if p.fireBudget = s.power.fireBudget then p else { p with budgetWas := (s.slotNow, s.budget) } }
    exec (.supplyDip mv) s = .next (t.pwrRaise 2)) ∧
  (∀ (mv : Nat) (s : State), s.power.dip = true →
    let us := min ((s.mls.uptime - s.power.dipSince) / 1000) (2 ^ 32 - 1)
    let t : State := { s with mem := { s.mem with escortBoost := false }, power := { s.power with dip := false, volts := mv } }
    (46500 ≤ mv → exec (.dipClear mv) s = .next (((t.logAdd 0x20 255 255 255 true
      (leBytes 2 s.power.dipMin ++ leBytes 4 us ++ leBytes 2 s.power.fireBudget)).pwrRaise 4).event 0 0x0901 0
        (s.power.dipMin + 2 ^ 16 * us))) ∧
    (mv < 46500 → exec (.dipClear mv) s = .next s)) ∧
  (∀ (watts current mv bulk : Nat) (s : State), s.power.railsOn = true →
    let p := s.power
    let allowance := if p.window + 1000000 ≤ s.mls.uptime then s.nextAllowance watts else p.allowance
    let limit := min s.effectiveCap allowance
    ∃ t, exec (.powerSample watts current ⟨mv, bulk⟩) s = .next t ∧ t = { s with power := t.power } ∧
      t.power.watts = watts ∧ t.power.current = current ∧ t.power.volts = mv ∧ t.power.bulk = bulk ∧ t.power.allowance = allowance ∧
      (t.power.capped = true ↔ s.effectiveCap ≤ watts) ∧
      (p.dip = false → limit < watts → 0 < p.clock → t.power.clock = p.clock - 1 ∧ t.power.fireBudget = p.fireBudget) ∧
      (p.dip = false → limit < watts → p.clock = 0 → t.power.clock = 0 ∧
        t.power.fireBudget = max 32 (p.fireBudget - 32)) ∧
      (p.dip = false → watts < limit → p.rungs = [] → p.fireBudget < 512 →
        t.power.clock = p.clock ∧ t.power.fireBudget = min 512 (p.fireBudget + 32)) ∧
      (p.dip = false → watts < limit → p.rungs = [] → 512 ≤ p.fireBudget →
        t.power.clock = min 8 (p.clock + 1) ∧ t.power.fireBudget = p.fireBudget) ∧
      (p.dip = true → 7200 < current → t.power.clock = p.clock - 1 ∧ t.power.fireBudget = p.fireBudget))

/-- A started STAGE_PART in range puts its image in frames of tenant 0 in place of the earlier copy and replies with
the length and the hash's first 8 bytes, or NO_PAGES without room; DISCARD frees the copy. A started ACTIVATE_MANIFEST
that no rule refuses switches its changed parts in their order within the budget: it commits and writes NOR when every
window ends well, or restores, replies HANDOVER_FAILED and leaves the running parts and NOR's version as they were; a
refused one changes nothing but its reply. The end of the NOR write frees the kept images, logs, reports and replies
DONE. GET_FW_STATE writes its record of 96 bytes. A power-on reset boots from NOR when the four checks pass, which no
manifest below an anti-rollback count does, and otherwise records the failing check in standby NOR and enters
recovery. Recovery tries the partner, whose images boot as RECOVERED once they pass, and after 10 s the host. A
committed microcode takes effect on a resting core after its rest scrubs and before its first full calibration of the
rest. A watchdog bite of a processor that serves counts, logs and reports a restart until it serves again; a Drover
that bites has planned ahead. Readings and choices of the model beside the rules: logs 71, 75 and 76. -/
def Obligations.FirmwareRows : Prop :=
  (∀ (h : Hdr) (part : Nat) (p : StagedPayload) (s : State), startable 0x0801 h s = true →
    let b := s.started 0x0801 h
    let c := cmdRef 0x0801 h s
    let frames := ceilDiv (payloadBytes h) 65536
    (part ≤ 7 → payloadBytes h ≤ 67108864 → s.fw.writing = none → b.allocFrames 0 1 1 0 frames = none →
      exec (.stagePart h part p) s = .next (b.reply c Status.noPages 0 0)) ∧
    (part ≤ 7 → payloadBytes h ≤ 67108864 → s.fw.writing = none → ∀ pages u,
      b.allocFrames 0 1 1 0 frames = some (pages, u) →
      let v := u.freeStaged part
      exec (.stagePart h part p) s = .next (({ v with fw := { v.fw.stage part (payloadBytes h) p with
        frames := v.fw.frames ++ [(part, pages)] } } : State).reply c Status.done (payloadBytes h) (payloadHash p % 2 ^ 64))) ∧
    (7 < part ∨ 67108864 < payloadBytes h → exec (.stagePart h part p) s = .next (b.reply c Status.badParam 0 0)) ∧
    (part ≤ 7 → payloadBytes h ≤ 67108864 → s.fw.writing ≠ none →
      exec (.stagePart h part p) s = .next (b.reply c Status.notPermitted 0 0))) ∧
  (∀ (h : Hdr) (part : Nat) (s : State), startable 0x0801 h s = true → 1 ≤ part → part ≤ 7 → s.fw.writing = none →
    let u := (s.started 0x0801 h).freeStaged part
    exec (.stagePartDiscard h part) s = .next (({ u with fw := { u.fw with
      staged := u.fw.staged.filter fun x => x.1 ≠ part } } : State).reply (cmdRef 0x0801 h s) Status.done 0 0)) ∧
  (∀ (h : Hdr) (s : State), startable 0x0801 h s = true → s.fw.writing = none →
    let u := (s.started 0x0801 h).freeStaged 0
    exec (.stagePartDiscard h 0) s = .next (({ u with fw := { u.fw with manifest := none } } : State).reply
      (cmdRef 0x0801 h s) Status.done 0 0)) ∧
  (∀ (h : Hdr) (windows : List (Nat × PartWindow)) (unrestored : List Nat) (s : State) (m : Manifest), startable 0x0802 h s = true →
    s.power.state = 1 → s.fw.manifest = some m →
    let b := s.started 0x0802 h
    let c := cmdRef 0x0802 h s
    let keys := windowOrder.filter fun k => b.changes m (k % 256)
    let due := keys.map fun k => (k, ((windows.find? fun w => w.1 = k).map (·.2)).getD (.noHandoverPoint 1000000))
    (∀ ns, b.activateRefusal = none → runWindows due 0 0 = (none, ns) → ns ≤ 20000000 ∧ ∃ t,
      exec (.activateManifest h windows unrestored) s = .next t ∧ t = ((keys.filter fun k => k < 256).foldl State.keepImage (b.accept c 0 0)).commitParts c m
        (keys.filter fun k => k < 256).length ns ∧ t.fw.unverified = true ∧ t.fw.running = m.version ∧ t.persist = s.persist) ∧
    (∀ part reason ns, b.activateRefusal = none → runWindows due 0 0 = (some (part, reason), ns) → ∃ t,
      exec (.activateManifest h windows unrestored) s = .next t ∧
        t = ((b.accept c 0 0).restartFromNor ((windowsBack due 0 0 []).filter fun k => unrestored.contains k)).restoreParts
          c m part reason ns ∧
        1 ≤ reason ∧ reason ≤ 5 ∧ t.fw.versions = s.fw.versions ∧ t.fw.hashes = s.fw.hashes ∧
        t.persist.norVersion = s.persist.norVersion ∧ t.fw.writing = s.fw.writing) ∧
    (∀ status, b.activateRefusal = some status →
      exec (.activateManifest h windows unrestored) s = .next (b.reply c status 0 0))) ∧
  (∀ (s : State) (a : Activation), s.fw.writing = some a →
    let v := a.manifest.version
    let t : State := { s with fw := { s.fw with writing := none }, persist := { s.persist with norVersion := v } }
    exec .norWriteDone s = .next (((t.freeKept.logAdd 0x31 255 255 255 true (activationDetail v 0 0 a.windowNs)).event 0 0x0801 v
      (a.switched + 256 * (a.windowNs / 1000))).reply a.ref Status.done (v + 2 ^ 32 * a.switched) a.windowNs)) ∧
  (∀ (h : Hdr) (s : State), startable 0x0803 h s = true →
    let b := s.started 0x0803 h
    let c := cmdRef 0x0803 h s
    b.fwRecord.length = 96 ∧
    (96 ≤ payloadBytes h → exec (.getFwState h) s =
      .next ((b.writePayload h.fn (payloadSpans h) 0 b.fwRecord).reply c Status.done 0 0)) ∧
    (payloadBytes h < 96 → exec (.getFwState h) s = .next (b.reply c Status.badParam 0 0))) ∧
  (∀ (b : BootImages) (s : State), s.power.railsOn = true → s.fuses.lifecycle ≠ 7 →
    let r := s.powerReset
    let u : State := { r with power := { r.power with railsOn := true } }
    (s.bootCheck b = none → exec (.powerOnReset b) s = .next (u.boot b.manifest false) ∧
      ∀ e ∈ b.manifest.entries, s.fuses.antiRollback.getD e.cls 0 ≤ e.svn) ∧
    (∀ part check, s.bootCheck b = some (part, check) → 1 ≤ check ∧ check ≤ 4 ∧ ∃ t,
      exec (.powerOnReset b) s = .next t ∧ t.power.state = 3 ∧ t.fw.recovery = 1 ∧ t.fuses = s.fuses ∧
        t.persist.standbyNor = s.persist.standbyNor ++ [(0x32, leBytes 1 part ++ leBytes 1 check)])) ∧
  (∀ s : State, s.fw.recovery = 1 →
    (s.fw.recoverySince + 10 * giga ≤ s.mls.uptime → exec .recoveryPartnerTimeout s =
      .next { s with fw := { s.fw with recovery := 2 }, host := { s.host with linkUp := true } }) ∧
    (s.mls.uptime < s.fw.recoverySince + 10 * giga → exec .recoveryPartnerTimeout s = .next s)) ∧
  (∀ (b : BootImages) (s : State) (r : Nat × Nat × Nat × Nat × Nat), s.fw.recovery = 1 → s.power.slot = some r →
    r.2.1 ≠ 255 → s.escort.cables ≠ [] →
    (s.bootCheck b = none → ∃ t, exec (.recoveryFromPartner b) s = .next t ∧ t.fw.recovered = true ∧ t.fw.recovery = 0 ∧
      t.power.state = 1 ∧ t.fw.running = b.manifest.version ∧ t.persist.norVersion = b.manifest.version ∧
      t.host.linkUp = true) ∧
    (s.bootCheck b ≠ none → exec (.recoveryFromPartner b) s = .next s.recoverFromHost)) ∧
  (∀ (core : Nat) (s : State), core ≤ 8 → s.power.railsOn = true →
    let x := s.core core
    (x.role = 1 → x.restScrubbed = true → x.lastFullCal = none → s.rotates = true → x.microcode ≠ s.fw.coreCommitted →
      exec (.coreMicrocodeHandover core) s = .next (s.setCore core { x with microcode := s.fw.coreCommitted })) ∧
    (x.role = 1 → s.rotates = false → exec (.coreMicrocodeHandover core) s = .next s)) ∧
  (∀ (part processor : Nat) (poisoned : Bool) (s : State), s.power.railsOn = true → s.power.state ≠ 3 →
    1 ≤ part → part ≤ 7 → processor < partProcessors part →
    let b := if part = 2 then s.planAll else s
    (∀ r ∈ b.fw.restarting, ¬ (r.1 = part ∧ r.2.1 = processor)) →
    let t : State := { b with
      fw := { b.fw with restarting := b.fw.restarting ++ [(part, processor, poisoned, b.mls.uptime)],
                        restarts := b.fw.restarts.set (part - 1) (satAdd 16 1 (b.fw.restarts.getD (part - 1) 0)) },
      customs := { b.customs with restarting := b.customs.restarting || part = 3 } }
    exec (.watchdogBite part processor poisoned) s = .next ((t.logAdd 0x30 255 255 255 true (leBytes 1 part ++
      leBytes 1 processor ++ leBytes 1 (bit poisoned))).event 0 0x0803 part (processor + 256 * bit poisoned))) ∧
  (∀ (part processor : Nat) (s : State), (∃ r ∈ s.fw.restarting, r.1 = part ∧ r.2.1 = processor) →
    exec (.watchdogRestartDone part processor) s = .next ({ s with
      fw := { s.fw with restarting := s.fw.restarting.filter fun r => !(r.1 = part && r.2.1 = processor) },
      customs := { s.customs with restarting := s.customs.restarting && part ≠ 3 } } : State).drainAll)
end

