-- ==== Sys2Proof/Laws/Kernel.lean ====
section
/-! SUPPORT. Frame lemmas: the operations and meanings of tables, counters, replies, the launch unit, memories, contexts and requests leave the fuses, the command queue and the launches unchanged. -/

namespace Sys2Proof.Machine

/-- What only a few commands change: the fuses, the queue of waiting commands, and the launches that have left. -/
def State.kernel (s : State) : Fuses × List Instr × List Output := (s.fuses, s.pending, s.launches)

@[simp] theorem State.kernel_mk (a b c d e f g h i j k l m n o p q r) :
  (State.mk a b c d e f g h i j k l m n o p q r).kernel = (n, r, q.filter Output.isLaunch) := rfl

@[simp] theorem State.kernel_eta (s : State) : (s.fuses, s.pending, s.out.filter Output.isLaunch) = s.kernel := rfl

@[simp] theorem State.kernel_ite (c : Prop) [Decidable c] (s t : State) : (if c then s else t).kernel = if c then s.kernel else t.kernel := by split <;> rfl

theorem State.emit_kernel (s : State) (o : Output) (h : o.isLaunch = false) : (s.emit o).kernel = s.kernel := by
  show (s.fuses, s.pending, (s.out ++ [o]).filter Output.isLaunch) = (s.fuses, s.pending, s.out.filter Output.isLaunch)
  rw [List.filter_append, List.filter_cons_of_neg (by simp [h]), List.filter_nil, List.append_nil]

@[simp] theorem emit_reply_kernel (s : State) (a b c d e f) : (s.emit (.reply a b c d e f)).kernel = s.kernel := s.emit_kernel _ rfl

@[simp] theorem emit_event_kernel (s : State) (a b c d e f g) : (s.emit (.event a b c d e f g)).kernel = s.kernel := s.emit_kernel _ rfl

@[simp] theorem emit_msix_kernel (s : State) (a b) : (s.emit (.msix a b)).kernel = s.kernel := s.emit_kernel _ rfl

@[simp] theorem emit_payload_kernel (s : State) (a b c) : (s.emit (.payload a b c)).kernel = s.kernel := s.emit_kernel _ rfl

@[simp] theorem emit_cell_kernel (s : State) (a) : (s.emit (.cell a)).kernel = s.kernel := s.emit_kernel _ rfl

@[simp] theorem emit_ringRecord_kernel (s : State) (a b c d) : (s.emit (.ringRecord a b c d)).kernel = s.kernel := s.emit_kernel _ rfl

@[simp] theorem emit_producer_kernel (s : State) (a b c) : (s.emit (.producer a b c)).kernel = s.kernel := s.emit_kernel _ rfl

@[simp] theorem emit_line_kernel (s : State) (a b) : (s.emit (.line a false b)).kernel = s.kernel := s.emit_kernel _ rfl

@[simp] theorem emit_escort_kernel (s : State) (a) : (s.emit (.escort a)).kernel = s.kernel := s.emit_kernel _ rfl

@[simp] theorem emit_ack_kernel (s : State) (a b) : (s.emit (.ack a b)).kernel = s.kernel := s.emit_kernel _ rfl

@[simp] theorem emit_mgmt_kernel (s : State) (a b c d e) : (s.emit (.mgmtHeartbeat a b c d e)).kernel = s.kernel := s.emit_kernel _ rfl

@[simp] theorem emit_spdm_kernel (s : State) (a) : (s.emit (.spdm a)).kernel = s.kernel := s.emit_kernel _ rfl

@[simp] theorem emit_pldm_kernel (s : State) (a) : (s.emit (.pldm a)).kernel = s.kernel := s.emit_kernel _ rfl

@[simp] theorem emit_rtp_kernel (s : State) (a) : (s.emit (.rtp a)).kernel = s.kernel := s.emit_kernel _ rfl

@[simp] theorem emit_regRead_kernel (s : State) (a b c) : (s.emit (.regRead a b c)).kernel = s.kernel := s.emit_kernel _ rfl

@[simp] theorem emit_served_kernel (s : State) (a) : (s.emit (.servedImages a)).kernel = s.kernel := s.emit_kernel _ rfl

@[simp] theorem foldl_kernel {α : Type} (f : State → α → State) (l : List α) (s : State) (h : ∀ s x, (f s x).kernel = s.kernel) : (l.foldl f s).kernel = s.kernel := by
  induction l generalizing s with
  | nil => rfl
  | cons a l ih => simp only [List.foldl, ih, h]

theorem foldl_proj {α β : Type} (p : β → State) (f : β → α → β) (l : List α) (b : β) (t : Fuses × List Instr × List Output)
    (h : ∀ b x, (p (f b x)).kernel = (p b).kernel) (e : (p b).kernel = t) : (p (l.foldl f b)).kernel = t := by
  induction l generalizing b with
  | nil => exact e
  | cons a l ih => exact ih _ ((h _ _).trans e)

theorem foldlM_kernel {α : Type} (f : State → α → Option State) (l : List α) (s z : State) (h : ∀ s x z, f s x = some z → z.kernel = s.kernel) (e : l.foldlM f s = some z) : z.kernel = s.kernel := by
  induction l generalizing s with
  | nil => cases e; rfl
  | cons a l ih =>
    simp only [List.foldlM_cons, Option.bind_eq_bind, Option.bind_eq_some_iff] at e
    obtain ⟨w, hw, e⟩ := e
    rw [ih w e, h _ _ _ hw]

theorem foldl_kernel_to {α : Type} (f : State → α → State) (l : List α) (s : State) (t : Fuses × List Instr × List Output) (h : ∀ s x, (f s x).kernel = s.kernel) (e : s.kernel = t) : (l.foldl f s).kernel = t := by
  rw [foldl_kernel f l s h, e]

@[simp] theorem State.setFn_kernel (s : State) (fn : Nat) (f : FnState) :
    (State.setFn s fn f).kernel = s.kernel := by
  rfl

@[simp] theorem State.event_kernel (s : State) (fn : Nat) (code : Nat) (object : Nat) (detail : Nat) :
    (State.event s fn code object detail).kernel = s.kernel := by
  simp [State.event]

@[simp] theorem State.count_kernel (s : State) (sel : Nat) (a : Nat) (b : Nat) (c : Nat) (d : Nat) (off : Nat) (n : Nat) :
    (State.count s sel a b c d off n).kernel = s.kernel := by
  simp [State.count]

@[simp] theorem State.countPrescaled_kernel (s : State) (sel : Nat) (a : Nat) (b : Nat) (c : Nat) (d : Nat) (off : Nat) (n : Nat) :
    (State.countPrescaled s sel a b c d off n).kernel = s.kernel := by
  simp [State.countPrescaled]

@[simp] theorem State.clearRecord_kernel (s : State) (sel : Nat) (a : Nat) (b : Nat) (c : Nat) (d : Nat) :
    (State.clearRecord s sel a b c d).kernel = s.kernel := by
  rfl

@[simp] theorem State.logAdd_kernel (s : State) (kind : Nat) (cls : Nat) (unit : Nat) (tenant : Nat) (eventRaised : Bool) (detail : List Byte) :
    (State.logAdd s kind cls unit tenant eventRaised detail).kernel = s.kernel := by
  simp [State.logAdd]

@[simp] theorem State.logLimited_kernel (s : State) (kind : Nat) (cls : Nat) (unit : Nat) (tenant : Nat) (detail : List Byte) (same : LogEntry → Bool) :
    (State.logLimited s kind cls unit tenant detail same).kernel = s.kernel := by
  unfold State.logLimited
  split <;> simp

@[simp] theorem State.setRing_kernel (s : State) (fn : Nat) (ring : Nat) (r : RingPair) :
    (State.setRing s fn ring r).kernel = s.kernel := by
  rfl

@[simp] theorem State.putReply_kernel (s : State) (fn : Nat) (ring : Nat) (r : Reply) :
    (State.putReply s fn ring r).kernel = s.kernel := by
  simp [State.putReply]

@[simp] theorem State.sendReply_kernel (s : State) (fn : Nat) (ring : Nat) (session : Nat) (r : Reply) :
    (State.sendReply s fn ring session r).kernel = s.kernel := by
  simp [State.sendReply]

@[simp] theorem State.emitPayload_kernel (s : State) (fn : Nat) (ws : List (Nat × List Byte)) :
    (State.emitPayload s fn ws).kernel = s.kernel := by
  simp [State.emitPayload]

@[simp] theorem State.writePayload_kernel (s : State) (fn : Nat) (spans : List (Nat × Nat)) (off : Nat) (bytes : List Byte) :
    (State.writePayload s fn spans off bytes).kernel = s.kernel := by
  simp [State.writePayload]

@[simp] theorem State.flushHeld_kernel (s : State) (fn : Nat) :
    (State.flushHeld s fn).kernel = s.kernel := by
  simp [State.flushHeld]

@[simp] theorem State.drainReplies_kernel (s : State) (fn : Nat) (ring : Nat) (fuel : Nat) :
    (State.drainReplies s fn ring fuel).kernel = s.kernel := by
  induction fuel generalizing s fn ring with
  | _ => 
    unfold State.drainReplies
    repeat' first
      | (simp; done)
      | (refine foldl_kernel_to _ _ _ _ ?_ ?_)
      | (refine foldl_proj Prod.fst _ _ _ _ ?_ ?_)
      | (refine foldl_proj Prod.snd _ _ _ _ ?_ ?_)
      | (intro _ _)
      | (dsimp only)
      | split
      | rfl
      | (simp [*]; done)

@[simp] theorem State.flushLost_kernel (s : State) (fn : Nat) :
    (State.flushLost s fn).kernel = s.kernel := by
  simp [State.flushLost]

@[simp] theorem State.drainAll_kernel (s : State) :
    (State.drainAll s).kernel = s.kernel := by
  simp [State.drainAll]

@[simp] theorem State.retireTag_kernel (s : State) (c : CmdRef) :
    (State.retireTag s c).kernel = s.kernel := by
  simp [State.retireTag]

@[simp] theorem State.markAccepted_kernel (s : State) (c : CmdRef) :
    (State.markAccepted s c).kernel = s.kernel := by
  simp [State.markAccepted]

@[simp] theorem State.reply_kernel (s : State) (c : CmdRef) (status : Nat) (result0 : Nat) (result1 : Nat) :
    (State.reply s c status result0 result1).kernel = s.kernel := by
  simp [State.reply]

@[simp] theorem State.accept_kernel (s : State) (c : CmdRef) (result0 : Nat) (result1 : Nat) :
    (State.accept s c result0 result1).kernel = s.kernel := by
  simp [State.accept]

@[simp] theorem State.markStarted_kernel (s : State) (h : Hdr) :
    (State.markStarted s h).kernel = s.kernel := by
  rfl

@[simp] theorem State.runStarted_kernel (s : State) (op : Nat) (h : Hdr) (c : CmdRef) (k : CmdRef → State → State) (hk : ∀ x0 s, (k x0 s).kernel = s.kernel) :
    (State.runStarted s op h c k).kernel = s.kernel := by
  unfold State.runStarted
  repeat' first
    | (simp; done)
    | (refine foldl_kernel_to _ _ _ _ ?_ ?_)
    | (refine foldl_proj Prod.fst _ _ _ _ ?_ ?_)
    | (refine foldl_proj Prod.snd _ _ _ _ ?_ ?_)
    | (intro _ _)
    | (dsimp only)
    | split
    | rfl
    | (simp [*]; done)

@[simp] theorem State.hostCmd_kernel (s : State) (op : Nat) (h : Hdr) (k : CmdRef → State → State) (hk : ∀ x0 s, (k x0 s).kernel = s.kernel) :
    (State.hostCmd s op h k).kernel = s.kernel := by
  unfold State.hostCmd
  repeat' first
    | (simp; done)
    | (refine foldl_kernel_to _ _ _ _ ?_ ?_)
    | (refine foldl_proj Prod.fst _ _ _ _ ?_ ?_)
    | (refine foldl_proj Prod.snd _ _ _ _ ?_ ?_)
    | (intro _ _)
    | (dsimp only)
    | split
    | rfl
    | (simp [*]; done)

@[simp] theorem State.draw_kernel (s : State) :
    (State.draw s).2.kernel = s.kernel := by
  rfl

@[simp] theorem State.idle_kernel (s : State) :
    (State.idle s).kernel = s.kernel := by
  rfl

@[simp] theorem State.mlsRaise_kernel (s : State) (bits : Nat) :
    (State.mlsRaise s bits).kernel = s.kernel := by
  simp [State.mlsRaise]

@[simp] theorem State.escRaise_kernel (s : State) (bits : Nat) :
    (State.escRaise s bits).kernel = s.kernel := by
  rfl

@[simp] theorem State.pwrRaise_kernel (s : State) (bits : Nat) :
    (State.pwrRaise s bits).kernel = s.kernel := by
  rfl

@[simp] theorem State.setPair_kernel (s : State) (role : Nat) (health : Nat) (reason : Nat) :
    (State.setPair s role health reason).kernel = s.kernel := by
  simp [State.setPair]

@[simp] theorem State.pairAlone_kernel (s : State) :
    (State.pairAlone s).kernel = s.kernel := by
  unfold State.pairAlone
  dsimp only
  repeat' first | (simp; done) | split

@[simp] theorem State.sendCell_kernel (s : State) (c : Nat × Nat × Nat × CopyRec) :
    (State.sendCell s c).kernel = s.kernel := by
  simp [State.sendCell]

@[simp] theorem State.sendRec_kernel (s : State) (r : CopyRec) (bytes : Nat) :
    (State.sendRec s r bytes).kernel = s.kernel := by
  simp [State.sendRec]

@[simp] theorem State.cmd_kernel (s : State) (op : Nat) (h : Hdr) (k : CmdRef → State → State) (hk : ∀ x0 s, (k x0 s).kernel = s.kernel) :
    (State.cmd s op h k).kernel = s.kernel := by
  unfold State.cmd
  repeat' first
    | (simp; done)
    | (refine foldl_kernel_to _ _ _ _ ?_ ?_)
    | (refine foldl_proj Prod.fst _ _ _ _ ?_ ?_)
    | (refine foldl_proj Prod.snd _ _ _ _ ?_ ?_)
    | (intro _ _)
    | (dsimp only)
    | split
    | rfl
    | (simp [*]; done)

@[simp] theorem State.event2_kernel (s : State) (tenant : Nat) (code : Nat) (object : Nat) (detail : Nat) :
    (State.event2 s tenant code object detail).kernel = s.kernel := by
  simp [State.event2]

@[simp] theorem State.hostConsumer_kernel (s : State) (e : Nat) :
    (State.hostConsumer s e).2.kernel = s.kernel := by
  rfl

@[simp] theorem State.writeRecord_kernel (s : State) (fn : Nat) (base : Nat) (producer : Nat) (place : Nat × Nat × Nat) (r : RingRec) :
    (State.writeRecord s fn base producer place r).kernel = s.kernel := by
  simp [State.writeRecord]

@[simp] theorem State.replyAfterAck_kernel (s : State) (c : CmdRef) (r0 : Nat) (counted : Bool) :
    (State.replyAfterAck s c r0 counted).kernel = s.kernel := by
  simp [State.replyAfterAck]

@[simp] theorem State.setMemory_kernel (s : State) (cls : Nat) (unit : Nat) (m : Memory) :
    (State.setMemory s cls unit m).kernel = s.kernel := by
  rfl

@[simp] theorem State.xorWord_kernel (s : State) (cls : Nat) (unit : Nat) (cw : Nat) (mask : Nat) :
    (State.xorWord s cls unit cw mask).kernel = s.kernel := by
  rfl

@[simp] theorem State.xorCipher_kernel (s : State) (cls : Nat) (cw : Nat) (mask : Nat) (key : Nat) :
    (State.xorCipher s cls cw mask key).kernel = s.kernel := by
  rfl

@[simp] theorem State.xorStored_kernel (s : State) (cls : Nat) (unit : Nat) (cw : Nat) (mask : Nat) :
    (State.xorStored s cls unit cw mask).kernel = s.kernel := by
  unfold State.xorStored
  repeat' first
    | (simp; done)
    | (refine foldl_kernel_to _ _ _ _ ?_ ?_)
    | (refine foldl_proj Prod.fst _ _ _ _ ?_ ?_)
    | (refine foldl_proj Prod.snd _ _ _ _ ?_ ?_)
    | (intro _ _)
    | (dsimp only)
    | split
    | rfl
    | (simp [*]; done)

@[simp] theorem State.refuseFlip_kernel (s : State) :
    (State.refuseFlip s).kernel = s.kernel := by
  rfl

@[simp] theorem State.applyFlip_kernel (s : State) (cls : Nat) (unit : Nat) (cw : Nat) (tenant : Nat) :
    (State.applyFlip s cls unit cw tenant).kernel = s.kernel := by
  simp [State.applyFlip]

@[simp] theorem State.flipMeets_kernel (s : State) (cls : Nat) (unit : Nat) (addr : Nat) (len : Nat) (tenant : Nat) :
    (State.flipMeets s cls unit addr len tenant).kernel = s.kernel := by
  simp [State.flipMeets]

@[simp] theorem State.newWords_kernel (s : State) (cls : Nat) (unit : Nat) (addr : Nat) (len : Nat) (tenant : Nat) :
    (State.newWords s cls unit addr len tenant).kernel = s.kernel := by
  simp [State.newWords]

@[simp] theorem State.memWrite_kernel (s : State) (cls : Nat) (unit : Nat) (addr : Nat) (bytes : List Byte) (tenant : Nat) :
    (State.memWrite s cls unit addr bytes tenant).kernel = s.kernel := by
  simp [State.memWrite]

@[simp] theorem State.foundCorrectable_kernel (s : State) (cls : Nat) (unit : Nat) (addr : Nat) (syndrome : Nat) (place : Nat) :
    (State.foundCorrectable s cls unit addr syndrome place).kernel = s.kernel := by
  simp [State.foundCorrectable]

@[simp] theorem State.foundUncorrectable_kernel (s : State) (cls : Nat) (unit : Nat) (addr : Nat) (syndrome : Nat) (scrub : Bool) :
    (State.foundUncorrectable s cls unit addr syndrome scrub).kernel = s.kernel := by
  simp [State.foundUncorrectable]

@[simp] theorem State.poisonWord_kernel (s : State) (cls : Nat) (unit : Nat) (addr : Nat) :
    (State.poisonWord s cls unit addr).kernel = s.kernel := by
  simp [State.poisonWord]

@[simp] theorem State.passUnseen_kernel (s : State) (cls : Nat) (unit : Nat) (cw : Nat) (mask : Nat) :
    (State.passUnseen s cls unit cw mask).kernel = s.kernel := by
  unfold State.passUnseen
  dsimp only
  repeat' first | (simp; done) | split

@[simp] theorem State.readFlipped_kernel (s : State) (cls : Nat) (unit : Nat) (cw : Nat) (mask : Nat) (scrub : Bool) :
    (State.readFlipped s cls unit cw mask scrub).kernel = s.kernel := by
  unfold State.readFlipped
  dsimp only
  repeat' first | (simp; done) | split

@[simp] theorem State.readRange_kernel (s : State) (cls : Nat) (unit : Nat) (addr : Nat) (len : Nat) (scrub : Bool) :
    (State.readRange s cls unit addr len scrub).kernel = s.kernel := by
  simp [State.readRange]

@[simp] theorem State.poisonConsumed_kernel (s : State) (cls : Nat) (unit : Nat) (addr : Nat) (request : Nat) (context : Nat) (row : Nat) (tenant : Nat) :
    (State.poisonConsumed s cls unit addr request context row tenant).kernel = s.kernel := by
  simp [State.poisonConsumed]

@[simp] theorem State.writeCopies_kernel (s : State) (e : LedgerEntry) :
    (State.writeCopies s e).kernel = s.kernel := by
  simp [State.writeCopies]

@[simp] theorem State.repairRange_kernel (s : State) (cls : Nat) (unit : Nat) (addr : Nat) (len : Nat) :
    (State.repairRange s cls unit addr len).kernel = s.kernel := by
  rfl

@[simp] theorem State.readCopies_kernel (s : State) (e : LedgerEntry) :
    (State.readCopies s e).1.kernel = s.kernel := by
  unfold State.readCopies
  dsimp only
  repeat' first | (simp; done) | split

@[simp] theorem State.setToll_kernel (s : State) (t : Nat) (x : Toll) :
    (State.setToll s t x).kernel = s.kernel := by
  rfl

theorem execTollDecision_kernel (toll : Nat) (requests : Nat) (beats : Nat) (cycles : Nat) (s : State) :
    ∀ z, execTollDecision toll requests beats cycles s = .next z → z.kernel = s.kernel := by
  unfold execTollDecision
  intro z hz
  dsimp only at hz
  repeat' split at hz
  all_goals cases hz; simp

theorem execTollPriorityWrite_kernel (toll : Nat) (offset : Nat) (value : W32) (s : State) :
    ∀ z, execTollPriorityWrite toll offset value s = .next z → z.kernel = s.kernel := by
  unfold execTollPriorityWrite
  intro z hz
  split at hz <;> cases hz <;> simp

@[simp] theorem State.clearTollFence_kernel (s : State) (mask : Nat) :
    (State.clearTollFence s mask).kernel = s.kernel := by
  rfl

theorem execTollFenceClear_kernel (mask : Nat) (s : State) :
    ∀ z, execTollFenceClear mask s = .next z → z.kernel = s.kernel := by
  intro z hz; cases hz; simp

@[simp] theorem State.armFlip_kernel (s : State) :
    (State.armFlip s).kernel = s.kernel := by
  simp [State.armFlip]

theorem execFlipArm_kernel (s : State) :
    ∀ z, execFlipArm s = .next z → z.kernel = s.kernel := by
  intro z hz; cases hz; simp

@[simp] theorem readErrorLogRun_kernel (h : Hdr) (from_ : Nat) (count : Nat) (c : CmdRef) (s : State) :
    (readErrorLogRun h from_ count c s).kernel = s.kernel := by
  unfold readErrorLogRun
  dsimp only
  repeat' first | (simp; done) | split

theorem execReadErrorLog_kernel (h : Hdr) (from_ : Nat) (count : Nat) (s : State) :
    ∀ z, execReadErrorLog h from_ count s = .next z → z.kernel = s.kernel := by
  intro z hz; cases hz; simp

@[simp] theorem State.setStream_kernel (s : State) (n : Nat) (st : ActionStream) :
    (State.setStream s n st).kernel = s.kernel := by
  rfl

@[simp] theorem State.setEntry_kernel (s : State) (e : LedgerEntry) :
    (State.setEntry s e).kernel = s.kernel := by
  rfl

@[simp] theorem State.writeOutcome_kernel (s : State) (e : LedgerEntry) (code : Nat) :
    (State.writeOutcome s e code).kernel = s.kernel := by
  unfold State.writeOutcome
  dsimp only
  repeat' first | (simp; done) | split

@[simp] theorem State.endEntry_kernel (s : State) (e : LedgerEntry) (code : Nat) :
    (State.endEntry s e code).kernel = s.kernel := by
  simp [State.endEntry]

@[simp] theorem State.discardLedger_kernel (s : State) :
    (State.discardLedger s).kernel = s.kernel := by
  simp [State.discardLedger]

@[simp] theorem State.countRenewal_kernel (s : State) (n : Nat) :
    (State.countRenewal s n).kernel = s.kernel := by
  unfold State.countRenewal
  split <;> simp

@[simp] theorem State.recount_kernel (s : State) (n : Nat) :
    (State.recount s n).kernel = s.kernel := by
  rfl

@[simp] theorem State.recountAll_kernel (s : State) (tenant : Option Nat) :
    (State.recountAll s tenant).kernel = s.kernel := by
  simp [State.recountAll]

@[simp] theorem State.insertEntry_kernel (s : State) (e : LedgerEntry) :
    (State.insertEntry s e).kernel = s.kernel := by
  simp [State.insertEntry]

@[simp] theorem State.takeSequence_kernel (s : State) (n : Nat) :
    (State.takeSequence s n).kernel = s.kernel := by
  rfl

@[simp] theorem State.slotFull_kernel (s : State) (n : Nat) :
    (State.slotFull s n).kernel = s.kernel := by
  simp [State.slotFull]

@[simp] theorem State.loadTest_kernel (s : State) (e : LedgerEntry) :
    (State.loadTest s e).kernel = s.kernel := by
  unfold State.loadTest
  split <;> simp

@[simp] theorem State.waitEntries_kernel (s : State) (n : Nat) :
    (State.waitEntries s n).kernel = s.kernel := by
  rfl

@[simp] theorem State.retime_kernel (s : State) (e : LedgerEntry) :
    (State.retime s e).kernel = s.kernel := by
  unfold State.retime
  split <;> simp

@[simp] theorem State.expire_kernel (s : State) (e : LedgerEntry) :
    (State.expire s e).kernel = s.kernel := by
  simp [State.expire]

@[simp] theorem State.tickEntry_kernel (s : State) (e : LedgerEntry) :
    (State.tickEntry s e).kernel = s.kernel := by
  unfold State.tickEntry
  dsimp only
  repeat' first | (simp; done) | split

@[simp] theorem State.emitFalls_kernel (s : State) (before : List Nat) (t16 : Nat) :
    (State.emitFalls s before t16).kernel = s.kernel := by
  simp [State.emitFalls]

@[simp] theorem State.cutLines_kernel (s : State) (ls : List Nat) :
    (State.cutLines s ls).kernel = s.kernel := by
  simp [State.cutLines]

@[simp] theorem State.setFences_kernel (s : State) (brk : Bool) (self : Bool) (leave : Bool) :
    (State.setFences s brk self leave).kernel = s.kernel := by
  simp [State.setFences]

@[simp] theorem State.setDisc_kernel (s : State) (d : Nat) :
    (State.setDisc s d).kernel = s.kernel := by
  simp [State.setDisc]

@[simp] theorem State.firstStep_kernel (s : State) (off : Int) :
    (State.firstStep s off).kernel = s.kernel := by
  rfl

@[simp] theorem State.discipline_kernel (s : State) :
    (State.discipline s).kernel = s.kernel := by
  unfold State.discipline
  split <;> simp

@[simp] theorem State.dropPtp_kernel (s : State) :
    (State.dropPtp s).kernel = s.kernel := by
  rfl

@[simp] theorem State.setTimebaseCfg_kernel (s : State) (p : TimebaseParams) :
    (State.setTimebaseCfg s p).kernel = s.kernel := by
  simp [State.setTimebaseCfg]

@[simp] theorem State.stepTime_kernel (s : State) (ns : Int) :
    (State.stepTime s ns).kernel = s.kernel := by
  rfl

@[simp] theorem setTimebaseRun_kernel (p : TimebaseParams) (c : CmdRef) (s : State) :
    (setTimebaseRun p c s).kernel = s.kernel := by
  simp [setTimebaseRun]

theorem execSetTimebase_kernel (h : Hdr) (p : TimebaseParams) (s : State) :
    ∀ z, execSetTimebase h p s = .next z → z.kernel = s.kernel := by
  intro z hz; cases hz; simp

@[simp] theorem State.setTrack_kernel (s : State) (n : Nat) (t : Track) :
    (State.setTrack s n t).kernel = s.kernel := by
  rfl

@[simp] theorem defineTrackRun_kernel (h : Hdr) (p : TrackParams) (c : CmdRef) (s : State) :
    (defineTrackRun h p c s).kernel = s.kernel := by
  unfold defineTrackRun
  split <;> simp

theorem execDefineTrack_kernel (h : Hdr) (p : TrackParams) (s : State) :
    ∀ z, execDefineTrack h p s = .next z → z.kernel = s.kernel := by
  intro z hz; cases hz; simp

@[simp] theorem defineTrackDeleteRun_kernel (h : Hdr) (n : Nat) (c : CmdRef) (s : State) :
    (defineTrackDeleteRun h n c s).kernel = s.kernel := by
  unfold defineTrackDeleteRun
  split <;> simp

theorem execDefineTrackDelete_kernel (h : Hdr) (track : Nat) (s : State) :
    ∀ z, execDefineTrackDelete h track s = .next z → z.kernel = s.kernel := by
  intro z hz; cases hz; simp

@[simp] theorem defineActionStreamRun_kernel (h : Hdr) (p : ActionParams) (c : CmdRef) (s : State) :
    (defineActionStreamRun h p c s).kernel = s.kernel := by
  simp [defineActionStreamRun]

theorem execDefineActionStream_kernel (h : Hdr) (p : ActionParams) (s : State) :
    ∀ z, execDefineActionStream h p s = .next z → z.kernel = s.kernel := by
  intro z hz; cases hz; simp

@[simp] theorem postLaunchRun_kernel (h : Hdr) (p : PostParams) (c : CmdRef) (s : State) :
    (postLaunchRun h p c s).kernel = s.kernel := by
  unfold postLaunchRun
  split <;> simp

theorem execPostLaunch_kernel (h : Hdr) (p : PostParams) (s : State) :
    ∀ z, execPostLaunch h p s = .next z → z.kernel = s.kernel := by
  intro z hz; cases hz; simp

@[simp] theorem State.recall_kernel (s : State) (f : Nat → Nat → Nat → Bool) :
    (State.recall s f).1.kernel = s.kernel := by
  simp [State.recall]

@[simp] theorem recallLaunchRun_kernel (h : Hdr) (stream : Nat) (byRequest : Bool) (key : Nat) (count : Nat) (c : CmdRef) (s : State) :
    (recallLaunchRun h stream byRequest key count c s).kernel = s.kernel := by
  unfold recallLaunchRun
  split <;> simp

theorem execRecallLaunch_kernel (h : Hdr) (stream : Nat) (byRequest : Bool) (key : Nat) (count : Nat) (s : State) :
    ∀ z, execRecallLaunch h stream byRequest key count s = .next z → z.kernel = s.kernel := by
  intro z hz; cases hz; simp

@[simp] theorem State.writeLineEnable_kernel (s : State) (value : Nat) :
    (State.writeLineEnable s value).kernel = s.kernel := by
  simp [State.writeLineEnable]

theorem execLineEnableWrite_kernel (value : Nat) (s : State) :
    ∀ z, execLineEnableWrite value s = .next z → z.kernel = s.kernel := by
  intro z hz; cases hz; simp

theorem execHoldAssert_kernel (s : State) :
    ∀ z, execHoldAssert s = .next z → z.kernel = s.kernel := by
  unfold execHoldAssert
  intro z hz
  split at hz <;> cases hz <;> simp

theorem execHoldRelease_kernel (s : State) :
    ∀ z, execHoldRelease s = .next z → z.kernel = s.kernel := by
  unfold execHoldRelease
  intro z hz
  split at hz <;> cases hz <;> simp

theorem execReleaseDelayEnd_kernel (input : Option Nat) (s : State) :
    ∀ z, execReleaseDelayEnd input s = .next z → z.kernel = s.kernel := by
  unfold execReleaseDelayEnd
  intro z hz
  repeat' split at hz
  all_goals cases hz; simp

theorem execStreamHoldAssert_kernel (input : Nat) (s : State) :
    ∀ z, execStreamHoldAssert input s = .next z → z.kernel = s.kernel := by
  unfold execStreamHoldAssert
  intro z hz
  dsimp only at hz
  repeat' split at hz
  all_goals cases hz; simp

theorem execStreamHoldRelease_kernel (input : Nat) (s : State) :
    ∀ z, execStreamHoldRelease input s = .next z → z.kernel = s.kernel := by
  unfold execStreamHoldRelease
  intro z hz
  dsimp only at hz
  repeat' split at hz
  all_goals cases hz; simp

theorem execInputEdge_kernel (input : Nat) (rising : Bool) (fraction : Nat) (s : State) :
    ∀ z, execInputEdge input rising fraction s = .next z → z.kernel = s.kernel := by
  unfold execInputEdge
  intro z hz
  dsimp only at hz
  repeat' split at hz
  all_goals cases hz; simp

theorem execMilestonePulse_kernel (pllLocked : Bool) (s : State) :
    ∀ z, execMilestonePulse pllLocked s = .next z → z.kernel = s.kernel := by
  unfold execMilestonePulse
  intro z hz
  repeat' split at hz
  all_goals cases hz; simp

theorem execTimeCodeFrame_kernel (bytes : List Byte) (s : State) :
    ∀ z, execTimeCodeFrame bytes s = .next z → z.kernel = s.kernel := by
  intro z hz; cases hz; simp

theorem execBusLoss_kernel (pllUnlocked : Bool) (s : State) :
    ∀ z, execBusLoss pllUnlocked s = .next z → z.kernel = s.kernel := by
  unfold execBusLoss
  intro z hz
  dsimp only at hz
  repeat' split at hz
  all_goals cases hz; simp

theorem execPtpMessage_kernel (m : PtpMsg) (s : State) :
    ∀ z, execPtpMessage m s = .next z → z.kernel = s.kernel := by
  unfold execPtpMessage
  intro z hz
  dsimp only at hz
  repeat' split at hz
  all_goals cases hz; simp

theorem execPtpAnnounceTimeout_kernel (s : State) :
    ∀ z, execPtpAnnounceTimeout s = .next z → z.kernel = s.kernel := by
  unfold execPtpAnnounceTimeout
  intro z hz
  repeat' split at hz
  all_goals cases hz; simp

theorem execPtpSettled_kernel (s : State) :
    ∀ z, execPtpSettled s = .next z → z.kernel = s.kernel := by
  unfold execPtpSettled
  intro z hz
  split at hz <;> cases hz <;> simp

theorem execHoldoverLimit_kernel (s : State) :
    ∀ z, execHoldoverLimit s = .next z → z.kernel = s.kernel := by
  unfold execHoldoverLimit
  intro z hz
  repeat' split at hz
  all_goals cases hz; simp

@[simp] theorem State.frameRetime_kernel (s : State) (n : Nat) :
    (State.frameRetime s n).kernel = s.kernel := by
  simp [State.frameRetime]

@[simp] theorem State.trackFrame_kernel (s : State) (port : Nat) (f : EncFrame) (n : Nat) :
    (State.trackFrame s port f n).kernel = s.kernel := by
  unfold State.trackFrame
  split <;> simp

theorem execEncoderFrame_kernel (port : Nat) (f : EncFrame) (s : State) :
    ∀ z, execEncoderFrame port f s = .next z → z.kernel = s.kernel := by
  intro z hz; cases hz; simp

@[simp] theorem State.goStale_kernel (s : State) (n : Nat) (t : Track) :
    (State.goStale s n t).kernel = s.kernel := by
  simp [State.goStale]

theorem execTrackStale_kernel (track : Nat) (s : State) :
    ∀ z, execTrackStale track s = .next z → z.kernel = s.kernel := by
  unfold execTrackStale
  intro z hz
  repeat' split at hz
  all_goals cases hz; simp

theorem execMilestoneTick_kernel (s : State) :
    ∀ z, execMilestoneTick s = .next z → z.kernel = s.kernel := by
  unfold execMilestoneTick
  intro z hz
  split at hz <;> cases hz <;> simp

theorem execEntryExpiry_kernel (stream : Nat) (sequence : Nat) (s : State) :
    ∀ z, execEntryExpiry stream sequence s = .next z → z.kernel = s.kernel := by
  unfold execEntryExpiry
  intro z hz
  repeat' split at hz
  all_goals cases hz; simp

theorem execPulseEnd_kernel (stream : Nat) (sequence : Nat) (s : State) :
    ∀ z, execPulseEnd stream sequence s = .next z → z.kernel = s.kernel := by
  unfold execPulseEnd
  intro z hz
  repeat' split at hz
  all_goals cases hz; simp

theorem execEthernetLinkChange_kernel (port : Nat) (up : Bool) (s : State) :
    ∀ z, execEthernetLinkChange port up s = .next z → z.kernel = s.kernel := by
  unfold execEthernetLinkChange
  intro z hz
  split at hz <;> cases hz <;> simp

@[simp] theorem State.setFrames_kernel (s : State) (m : Map Frame) :
    (State.setFrames s m).kernel = s.kernel := by
  rfl

@[simp] theorem State.modFrame_kernel (s : State) (page : Nat) (f : Frame → Frame) :
    (State.modFrame s page f).kernel = s.kernel := by
  rfl

@[simp] theorem State.zeroRange_kernel (s : State) (cls : Nat) (unit : Nat) (addr : Nat) (len : Nat) :
    (State.zeroRange s cls unit addr len).kernel = s.kernel := by
  rfl

theorem State.allocFrame_kernel (s : State) (tenant : Nat) (tier : Nat) (st : Nat) (family : Nat) :
    ∀ z, State.allocFrame s tenant tier st family = some z → z.2.kernel = s.kernel := by
  intro z hz
  unfold State.allocFrame at hz
  repeat' first
    | contradiction
    | (cases hz; first | rfl | (simp; done) | (simp [*]; done))
    | split at hz
    | (simp only [Option.map_eq_some_iff, Option.bind_eq_some_iff] at hz; obtain ⟨_, _, hz⟩ := hz)

theorem State.allocFrames_kernel (s : State) (tenant : Nat) (tier : Nat) (st : Nat) (family : Nat) (n : Nat) :
    ∀ z, State.allocFrames s tenant tier st family n = some z → z.2.kernel = s.kernel := by
  induction n generalizing s tenant tier st family with
  | _ => 
    intro z hz
    unfold State.allocFrames at hz
    repeat' first
      | contradiction
      | (cases hz; first | rfl | (simp; done) | (simp [*]; done))
      | split at hz
      | (simp only [Option.map_eq_some_iff, Option.bind_eq_some_iff] at hz; obtain ⟨_, _, hz⟩ := hz)
      | grind [State.kernel, State.launches, Option.map_eq_some_iff, Option.bind_eq_some_iff, → State.allocFrame_kernel]

@[simp] theorem State.recordRetired_kernel (s : State) (page : Nat) :
    (State.recordRetired s page).kernel = s.kernel := by
  simp [State.recordRetired]

@[simp] theorem State.freeNow_kernel (s : State) (page : Nat) :
    (State.freeNow s page).kernel = s.kernel := by
  unfold State.freeNow
  split <;> simp

@[simp] theorem State.dropRef_kernel (s : State) (page : Nat) :
    (State.dropRef s page).kernel = s.kernel := by
  unfold State.dropRef
  split <;> simp

@[simp] theorem State.dropRefs_kernel (s : State) (pages : List Nat) :
    (State.dropRefs s pages).kernel = s.kernel := by
  simp [State.dropRefs]

@[simp] theorem State.addRef_kernel (s : State) (page : Nat) :
    (State.addRef s page).kernel = s.kernel := by
  rfl

@[simp] theorem State.addRefs_kernel (s : State) (pages : List Nat) :
    (State.addRefs s pages).kernel = s.kernel := by
  simp [State.addRefs]

@[simp] theorem State.copyFrame_kernel (s : State) (src : Nat) (dst : Nat) :
    (State.copyFrame s src dst).kernel = s.kernel := by
  simp [State.copyFrame]

@[simp] theorem State.moveFrame_kernel (s : State) (src : Nat) (dst : Nat) :
    (State.moveFrame s src dst).kernel = s.kernel := by
  unfold State.moveFrame
  dsimp only
  repeat' first | (simp; done) | split

@[simp] theorem State.setCtx_kernel (s : State) (n : Nat) (x : Ctx) :
    (State.setCtx s n x).kernel = s.kernel := by
  rfl

theorem State.tableRoom_kernel (s : State) (tenant : Nat) :
    ∀ z, State.tableRoom s tenant = some z → z.kernel = s.kernel := by
  intro z hz
  unfold State.tableRoom at hz
  (try dsimp only at hz)
  repeat' first
    | contradiction
    | (cases hz; first | rfl | (simp; done) | (simp [*]; done))
    | split at hz
    | (simp only [Option.map_eq_some_iff, Option.bind_eq_some_iff] at hz; obtain ⟨_, _, hz⟩ := hz)
    | grind [State.kernel, State.launches, Option.map_eq_some_iff, Option.bind_eq_some_iff, → State.allocFrame_kernel]

@[simp] theorem State.takeCtxId_kernel (s : State) :
    (State.takeCtxId s).2.kernel = s.kernel := by
  unfold State.takeCtxId
  split <;> simp

@[simp] theorem State.joinFamily_kernel (s : State) (root : Nat) :
    (State.joinFamily s root).kernel = s.kernel := by
  rfl

@[simp] theorem State.leaveFamily_kernel (s : State) (root : Nat) :
    (State.leaveFamily s root).kernel = s.kernel := by
  simp [State.leaveFamily]

@[simp] theorem State.waitOn_kernel (s : State) (n : Nat) (w : Waiter) :
    (State.waitOn s n w).kernel = s.kernel := by
  unfold State.waitOn
  split <;> simp

@[simp] theorem State.forkNow_kernel (s : State) (c : CmdRef) (position : Nat) (x : Ctx) :
    (State.forkNow s c position x).kernel = s.kernel := by
  unfold State.forkNow
  repeat' first
    | (simp; done)
    | (refine foldl_kernel_to _ _ _ _ ?_ ?_)
    | (refine foldl_proj Prod.fst _ _ _ _ ?_ ?_)
    | (refine foldl_proj Prod.snd _ _ _ _ ?_ ?_)
    | (intro _ _)
    | (dsimp only)
    | split
    | rfl
    | (simp [*]; done)
    | grind [State.kernel, State.launches, Option.map_eq_some_iff, Option.bind_eq_some_iff, State.takeCtxId_kernel, State.addRefs_kernel, State.clearRecord_kernel, State.setCtx_kernel, → State.tableRoom_kernel, State.joinFamily_kernel, State.reply_kernel]

@[simp] theorem State.pauseNow_kernel (s : State) (c : CmdRef) (n : Nat) (ttl : Nat) (x : Ctx) :
    (State.pauseNow s c n ttl x).kernel = s.kernel := by
  rfl

@[simp] theorem State.resumeNow_kernel (s : State) (c : CmdRef) (n : Nat) (x : Ctx) :
    (State.resumeNow s c n x).kernel = s.kernel := by
  rfl

@[simp] theorem State.releaseCtx_kernel (s : State) (x : Ctx) :
    (State.releaseCtx s x).1.kernel = s.kernel := by
  simp [State.releaseCtx]

@[simp] theorem State.closeNow_kernel (s : State) (c : CmdRef) (n : Nat) (x : Ctx) :
    (State.closeNow s c n x).kernel = s.kernel := by
  simp [State.closeNow]

@[simp] theorem State.doFork_kernel (s : State) (c : CmdRef) (n : Nat) (position : Nat) :
    (State.doFork s c n position).kernel = s.kernel := by
  unfold State.doFork
  repeat' first | (simp; done) | split

@[simp] theorem State.doPause_kernel (s : State) (c : CmdRef) (n : Nat) (ttl : Nat) :
    (State.doPause s c n ttl).kernel = s.kernel := by
  unfold State.doPause
  repeat' first | (simp; done) | split

@[simp] theorem State.doResume_kernel (s : State) (c : CmdRef) (n : Nat) :
    (State.doResume s c n).kernel = s.kernel := by
  unfold State.doResume
  repeat' first | (simp; done) | split

@[simp] theorem State.doClose_kernel (s : State) (c : CmdRef) (n : Nat) :
    (State.doClose s c n).kernel = s.kernel := by
  unfold State.doClose
  split <;> simp

theorem State.movePage_kernel (s : State) (n : Nat) (page : Nat) (tier : Nat) :
    ∀ z, State.movePage s n page tier = some z → z.kernel = s.kernel := by
  intro z hz
  unfold State.movePage at hz
  repeat' first
    | contradiction
    | (cases hz; first | rfl | (simp; done) | (simp [*]; done))
    | split at hz
    | (simp only [Option.map_eq_some_iff, Option.bind_eq_some_iff] at hz; obtain ⟨_, _, hz⟩ := hz)
    | grind [State.kernel, State.launches, Option.map_eq_some_iff, Option.bind_eq_some_iff, State.setCtx_kernel, State.moveFrame_kernel, → State.allocFrame_kernel]

@[simp] theorem State.movePages_kernel (s : State) (n : Nat) (tier : Nat) (pages : List Nat) :
    (State.movePages s n tier pages).1.kernel = s.kernel := by
  unfold State.movePages
  refine foldl_proj Prod.fst _ _ _ _ ?_ rfl
  intro b p
  split
  · exact State.movePage_kernel _ _ _ _ _ ‹_›
  · rfl

@[simp] theorem State.pauseEnds_kernel (s : State) (n : Nat) (x : Ctx) (c : CmdRef) :
    (State.pauseEnds s n x c).kernel = s.kernel := by
  unfold State.pauseEnds
  dsimp only
  repeat' first | (simp; done) | split

@[simp] theorem State.resumeEnds_kernel (s : State) (n : Nat) (x : Ctx) (c : CmdRef) :
    (State.resumeEnds s n x c).kernel = s.kernel := by
  unfold State.resumeEnds
  dsimp only
  repeat' first | (simp; done) | split

@[simp] theorem State.expireCtx_kernel (s : State) (n : Nat) (x : Ctx) :
    (State.expireCtx s n x).kernel = s.kernel := by
  simp [State.expireCtx]

@[simp] theorem State.logRetired_kernel (s : State) (page : Nat) (atOnce : Nat) (pending : Nat) :
    (State.logRetired s page atOnce pending).kernel = s.kernel := by
  simp [State.logRetired]

@[simp] theorem retirePageRun_kernel (page : Nat) (c : CmdRef) (s : State) :
    (retirePageRun page c s).kernel = s.kernel := by
  unfold retirePageRun
  repeat' first | (simp; done) | split

@[simp] theorem retirePageBankRun_kernel (page : Nat) (c : CmdRef) (s : State) :
    (retirePageBankRun page c s).kernel = s.kernel := by
  simp [retirePageBankRun]

theorem execRetirePage_kernel (h : Hdr) (page : Nat) (s : State) :
    ∀ z, execRetirePage h page s = .next z → z.kernel = s.kernel := by
  intro z hz; cases hz; simp

theorem execRetirePageBank_kernel (h : Hdr) (page : Nat) (s : State) :
    ∀ z, execRetirePageBank h page s = .next z → z.kernel = s.kernel := by
  intro z hz; cases hz; simp

@[simp] theorem State.onCtx_kernel (s : State) (h : Hdr) (n : Nat) (c : CmdRef) (k : State → State) (hk : ∀ s, (k  s).kernel = s.kernel) :
    (State.onCtx s h n c k).kernel = s.kernel := by
  unfold State.onCtx
  repeat' first
    | (simp; done)
    | (refine foldl_kernel_to _ _ _ _ ?_ ?_)
    | (refine foldl_proj Prod.fst _ _ _ _ ?_ ?_)
    | (refine foldl_proj Prod.snd _ _ _ _ ?_ ?_)
    | (intro _ _)
    | (dsimp only)
    | split
    | rfl
    | (simp [*]; done)

@[simp] theorem openContextRun_kernel (h : Hdr) (limit : Nat) (c : CmdRef) (s : State) :
    (openContextRun h limit c s).kernel = s.kernel := by
  unfold openContextRun
  repeat' first
    | (simp; done)
    | (refine foldl_kernel_to _ _ _ _ ?_ ?_)
    | (refine foldl_proj Prod.fst _ _ _ _ ?_ ?_)
    | (refine foldl_proj Prod.snd _ _ _ _ ?_ ?_)
    | (intro _ _)
    | (dsimp only)
    | split
    | rfl
    | (simp [*]; done)
    | grind [State.kernel, State.launches, Option.map_eq_some_iff, Option.bind_eq_some_iff, State.takeCtxId_kernel, State.clearRecord_kernel, State.setCtx_kernel, → State.tableRoom_kernel, State.joinFamily_kernel, State.reply_kernel]

theorem execOpenContext_kernel (h : Hdr) (limit : Nat) (s : State) :
    ∀ z, execOpenContext h limit s = .next z → z.kernel = s.kernel := by
  intro z hz; cases hz; simp

theorem execForkContext_kernel (h : Hdr) (parent : Nat) (position : Nat) (s : State) :
    ∀ z, execForkContext h parent position s = .next z → z.kernel = s.kernel := by
  intro z hz; cases hz; simp

theorem execPauseContext_kernel (h : Hdr) (context : Nat) (ttl : Nat) (s : State) :
    ∀ z, execPauseContext h context ttl s = .next z → z.kernel = s.kernel := by
  intro z hz; cases hz; simp

theorem execResumeContext_kernel (h : Hdr) (context : Nat) (s : State) :
    ∀ z, execResumeContext h context s = .next z → z.kernel = s.kernel := by
  intro z hz; cases hz; simp

theorem execCloseContext_kernel (h : Hdr) (context : Nat) (s : State) :
    ∀ z, execCloseContext h context s = .next z → z.kernel = s.kernel := by
  intro z hz; cases hz; simp

theorem execPausedFrameMove_kernel (context : Nat) (page : Nat) (s : State) :
    ∀ z, execPausedFrameMove context page s = .next z → z.kernel = s.kernel := by
  intro z hz
  unfold execPausedFrameMove at hz
  repeat' first
    | (cases hz; first | (simp; done) | rfl | (simp [*]; done))
    | split at hz
    | (cases hz
       repeat' first
         | (simp; done)
         | (refine foldl_kernel_to _ _ _ _ ?_ ?_)
         | (refine foldl_proj Prod.fst _ _ _ _ ?_ ?_)
         | (intro _ _)
         | (dsimp only)
         | split
         | rfl
         | (simp [*]; done)
         | grind [State.kernel, State.launches, State.setCtx_kernel, → State.movePage_kernel])

theorem execContextExpired_kernel (context : Nat) (s : State) :
    ∀ z, execContextExpired context s = .next z → z.kernel = s.kernel := by
  unfold execContextExpired
  intro z hz
  repeat' split at hz
  all_goals cases hz; simp

@[simp] theorem State.countFp_kernel (s : State) (core : Nat) (sat : Nat) (flu : Nat) :
    (State.countFp s core sat flu).kernel = s.kernel := by
  simp [State.countFp]

@[simp] theorem State.pageWrite_kernel (s : State) (page : Nat) (off : Nat) (bytes : List Byte) :
    (State.pageWrite s page off bytes).kernel = s.kernel := by
  simp [State.pageWrite]

@[simp] theorem State.tailWrite_kernel (s : State) (g : Nat × Nat × Nat × Nat) (tails : List Nat) (j : Nat) (layer : Nat) (sub : Nat) (bytes : List Byte) :
    (State.tailWrite s g tails j layer sub bytes).kernel = s.kernel := by
  simp [State.tailWrite]

@[simp] theorem State.rowWrite_kernel (s : State) (x : GroupRow) (p : RowPlace) (off : Nat) (bytes : List Byte) :
    (State.rowWrite s x p off bytes).kernel = s.kernel := by
  simp [State.rowWrite]

@[simp] theorem State.tagRequest_kernel (s : State) (request : Option Nat) (context : Nat) (cls : Nat) (unit : Nat) (addr : Nat) (row : Nat) (tenant : Nat) :
    (State.tagRequest s request context cls unit addr row tenant).kernel = s.kernel := by
  unfold State.tagRequest
  dsimp only
  repeat' first | (simp; done) | split

@[simp] theorem State.rowMeets_kernel (s : State) (x : GroupRow) (cls : Nat) (unit : Nat) (addr : Nat) (len : Nat) :
    (State.rowMeets s x cls unit addr len).kernel = s.kernel := by
  unfold State.rowMeets
  dsimp only
  repeat' first | (simp; done) | split

@[simp] theorem State.rowRead_kernel (s : State) (x : GroupRow) (p : RowPlace) (off : Nat) (len : Nat) :
    (State.rowRead s x p off len).2.kernel = s.kernel := by
  unfold State.rowRead
  dsimp only
  repeat' first | (simp; done) | split

@[simp] theorem State.passOne_kernel (s : State) (x : GroupRow) (p : RowPlace) :
    (State.passOne s x p).kernel = s.kernel := by
  simp [State.passOne]

@[simp] theorem State.passTwo_kernel (s : State) (x : GroupRow) (p : RowPlace) (head : Nat) :
    (State.passTwo s x p head).2.kernel = s.kernel := by
  simp [State.passTwo]

@[simp] theorem State.passThree_kernel (s : State) (x : GroupRow) (p : RowPlace) (head : Nat) (m : Softmax) :
    (State.passThree s x p head m).2.kernel = s.kernel := by
  unfold State.passThree
  dsimp only
  repeat' first | (simp; done) | split

@[simp] theorem State.passRow_kernel (s : State) (x : GroupRow) (p : RowPlace) :
    (State.passRow s x p).2.2.kernel = s.kernel := by
  exact foldl_proj (fun a : List (List F32) × Nat × State => a.2.2) _ _ _ s.kernel (fun a h => by simp) rfl

@[simp] theorem State.setBay_kernel (s : State) (n : Nat) (b : Bay) :
    (State.setBay s n b).kernel = s.kernel := by
  rfl

@[simp] theorem State.modBay_kernel (s : State) (n : Nat) (f : Bay → Bay) :
    (State.modBay s n f).kernel = s.kernel := by
  rfl

@[simp] theorem State.setReq_kernel (s : State) (r : Req) :
    (State.setReq s r).kernel = s.kernel := by
  rfl

@[simp] theorem State.takeSlotOf_kernel (s : State) (id : Nat) :
    (State.takeSlotOf s id).kernel = s.kernel := by
  rfl

@[simp] theorem State.takeSlot_kernel (s : State) :
    (State.takeSlot s).2.kernel = s.kernel := by
  unfold State.takeSlot
  split <;> simp

@[simp] theorem State.returnSlot_kernel (s : State) (r : Req) :
    (State.returnSlot s r).kernel = s.kernel := by
  rfl

@[simp] theorem State.createReq_kernel (s : State) (n : NewReq) :
    (State.createReq s n).2.kernel = s.kernel := by
  unfold State.createReq
  dsimp only
  repeat' first | (simp; done) | split

@[simp] theorem State.setHistory_kernel (s : State) (r : Req) (g : Nat × Nat × Nat × Nat) (length : Nat) (pages : List (List Nat)) (kinds : List Nat) :
    (State.setHistory s r g length pages kinds).1.kernel = s.kernel := by
  unfold State.setHistory
  repeat' first | (simp; done) | split

theorem State.takeFrame_kernel (s : State) (tenant : Nat) (family : Nat) (reserved : List Nat) :
    ∀ z, State.takeFrame s tenant family reserved = some z → z.2.2.kernel = s.kernel := by
  intro z hz
  unfold State.takeFrame at hz
  repeat' first
    | contradiction
    | (cases hz; first | rfl | (simp; done) | (simp [*]; done))
    | split at hz
    | (simp only [Option.map_eq_some_iff, Option.bind_eq_some_iff] at hz; obtain ⟨_, _, hz⟩ := hz)
    | grind [State.kernel, State.launches, Option.map_eq_some_iff, Option.bind_eq_some_iff, State.modFrame_kernel, → State.allocFrame_kernel]

theorem State.readyFrame_kernel (s : State) (tenant : Nat) (family : Nat) (ctx : Nat) (reserved : List Nat) (pages : List Nat) (i : Nat) :
    ∀ z, State.readyFrame s tenant family ctx reserved pages i = some z → z.2.2.kernel = s.kernel := by
  intro z hz
  unfold State.readyFrame at hz
  (try dsimp only at hz)
  repeat' first
    | contradiction
    | (cases hz; first | rfl | (simp; done) | (simp [*]; done))
    | split at hz
    | (simp only [Option.map_eq_some_iff, Option.bind_eq_some_iff] at hz; obtain ⟨_, _, hz⟩ := hz)
    | grind [State.kernel, State.launches, Option.map_eq_some_iff, Option.bind_eq_some_iff, → State.takeFrame_kernel, State.dropRef_kernel, State.copyFrame_kernel, State.count_kernel]

theorem State.readyFrames_kernel (s : State) (tenant : Nat) (family : Nat) (ctx : Nat) (reserved : List Nat) (pages : List Nat) (i : Nat) (n : Nat) :
    ∀ z, State.readyFrames s tenant family ctx reserved pages i n = some z → z.2.2.kernel = s.kernel := by
  induction n generalizing s tenant family ctx reserved pages i with
  | _ => 
    intro z hz
    unfold State.readyFrames at hz
    repeat' first
      | contradiction
      | (cases hz; first | rfl | (simp; done) | (simp [*]; done))
      | split at hz
      | (simp only [Option.map_eq_some_iff, Option.bind_eq_some_iff] at hz; obtain ⟨_, _, hz⟩ := hz)
      | grind [State.kernel, State.launches, Option.map_eq_some_iff, Option.bind_eq_some_iff, → State.readyFrame_kernel]

@[simp] theorem State.poisonReaders_kernel (s : State) (page : Nat) (own : Nat) :
    (State.poisonReaders s page own).kernel = s.kernel := by
  rfl

@[simp] theorem State.readKv_kernel (s : State) (r : KvReader) (page : Nat) (off : Nat) (n : Nat) :
    (State.readKv s r page off n).1.kernel = s.kernel := by
  unfold State.readKv
  dsimp only
  repeat' first | (simp; done) | split

@[simp] theorem State.readTail_kernel (s : State) (r : KvReader) (g : Nat × Nat × Nat × Nat) (tails : List Nat) (layer : Nat) (j : Nat) :
    (State.readTail s r g tails layer j).1.kernel = s.kernel := by
  unfold State.readTail
  dsimp only
  repeat' first | (simp; done) | split

@[simp] theorem State.readTails_kernel (s : State) (r : KvReader) (g : Nat × Nat × Nat × Nat) (tails : List Nat) (layer : Nat) (n : Nat) :
    (State.readTails s r g tails layer n).1.kernel = s.kernel := by
  unfold State.readTails
  repeat' first
    | (simp; done)
    | (refine foldl_kernel_to _ _ _ _ ?_ ?_)
    | (refine foldl_proj Prod.fst _ _ _ _ ?_ ?_)
    | (refine foldl_proj Prod.snd _ _ _ _ ?_ ?_)
    | (intro _ _)
    | (dsimp only)
    | split
    | rfl
    | (simp [*]; done)

@[simp] theorem State.scatterOne_kernel (s : State) (g : Nat × Nat × Nat × Nat) (tails : List Nat) (pages : List Nat) (length : Nat) (layer : Nat) (j : Nat) :
    (State.scatterOne s g tails pages length layer j).kernel = s.kernel := by
  simp [State.scatterOne]

theorem State.scatterAt_kernel (s : State) (g : Nat × Nat × Nat × Nat) (tenant : Nat) (family : Nat) (ctx : Nat) (tails : List Nat) (reserved : List Nat) (mine : List Nat) (length : Nat) (n : Nat) (layer : Nat) :
    ∀ z, State.scatterAt s g tenant family ctx tails reserved mine length n layer = some z → z.2.2.kernel = s.kernel := by
  unfold State.scatterAt
  intro z hz
  simp only [Option.map_eq_some_iff] at hz
  obtain ⟨x, hx, rfl⟩ := hz
  exact foldl_kernel_to _ _ _ _ (fun s j => by simp) (State.readyFrames_kernel _ _ _ _ _ _ _ _ _ hx)

theorem State.scatterLayers_kernel (s : State) (g : Nat × Nat × Nat × Nat) (tenant : Nat) (family : Nat) (ctx : Nat) (tails : List Nat) (reserved : List Nat) (pages : List (List Nat)) (length : Nat) (n : Nat) (layer : Nat) (fuel : Nat) :
    ∀ z, State.scatterLayers s g tenant family ctx tails reserved pages length n layer fuel = some z → z.2.2.kernel = s.kernel := by
  induction fuel generalizing s g tenant family ctx tails reserved pages length n layer with
  | _ =>
    intro z hz
    unfold State.scatterLayers at hz
    (try dsimp only at hz)
    repeat' first
      | contradiction
      | (cases hz; first | rfl | (simp; done) | (simp [*]; done))
      | split at hz
      | (simp only [Option.map_eq_some_iff, Option.bind_eq_some_iff] at hz; obtain ⟨_, _, hz⟩ := hz)
      | grind [State.kernel, State.launches, Option.map_eq_some_iff, Option.bind_eq_some_iff, → State.scatterAt_kernel]

theorem State.growTables_kernel (s : State) (tenant : Nat) (fuel : Nat) :
    ∀ z, State.growTables s tenant fuel = some z → z.kernel = s.kernel := by
  induction fuel generalizing s tenant with
  | _ => 
    intro z hz
    unfold State.growTables at hz
    (try dsimp only at hz)
    repeat' first
      | contradiction
      | (cases hz; first | rfl | (simp; done) | (simp [*]; done))
      | split at hz
      | (simp only [Option.map_eq_some_iff, Option.bind_eq_some_iff] at hz; obtain ⟨_, _, hz⟩ := hz)
      | grind [State.kernel, State.launches, Option.map_eq_some_iff, Option.bind_eq_some_iff, → State.allocFrame_kernel]

@[simp] theorem State.freeFrames_kernel (s : State) (pages : List Nat) :
    (State.freeFrames s pages).kernel = s.kernel := by
  simp [State.freeFrames]

@[simp] theorem State.scatterEnds_kernel (s : State) (r : Req) :
    (State.scatterEnds s r).1.kernel = s.kernel := by
  simp [State.scatterEnds]

theorem State.scatterLayer_kernel (s : State) (r : Req) (layer : Nat) :
    ∀ z, State.scatterLayer s r layer = some z → z.1.kernel = s.kernel := by
  intro z hz
  unfold State.scatterLayer at hz
  (try dsimp only at hz)
  repeat' first
    | contradiction
    | (cases hz; first | rfl | (simp; done) | (simp [*]; done))
    | split at hz
    | (simp only [Option.map_eq_some_iff, Option.bind_eq_some_iff] at hz; obtain ⟨_, _, hz⟩ := hz)
    | grind [State.kernel, State.launches, Option.map_eq_some_iff, Option.bind_eq_some_iff, State.setHistory_kernel, State.readTails_kernel, → State.scatterAt_kernel, → State.growTables_kernel, State.scatterEnds_kernel]

theorem State.scatterFrom_kernel (s : State) (r : Req) (layer : Nat) (fuel : Nat) :
    ∀ z, State.scatterFrom s r layer fuel = some z → z.1.kernel = s.kernel := by
  induction fuel generalizing s r layer with
  | _ =>
    intro z hz
    unfold State.scatterFrom at hz
    (try dsimp only at hz)
    repeat' first
      | contradiction
      | (cases hz; first | rfl | (simp; done) | (simp [*]; done))
      | split at hz
      | (simp only [Option.map_eq_some_iff, Option.bind_eq_some_iff] at hz; obtain ⟨_, _, hz⟩ := hz)
      | grind [State.kernel, State.launches, Option.map_eq_some_iff, Option.bind_eq_some_iff, → State.scatterLayer_kernel]

theorem State.finishScatter_kernel (s : State) (r : Req) :
    ∀ z, State.finishScatter s r = some z → z.1.kernel = s.kernel := by
  intro z hz
  unfold State.finishScatter at hz
  (try dsimp only at hz)
  repeat' first
    | contradiction
    | (cases hz; first | rfl | (simp; done) | (simp [*]; done))
    | split at hz
    | (simp only [Option.map_eq_some_iff, Option.bind_eq_some_iff] at hz; obtain ⟨_, _, hz⟩ := hz)
    | grind [State.kernel, State.launches, Option.map_eq_some_iff, Option.bind_eq_some_iff, State.scatterEnds_kernel, → State.scatterFrom_kernel]

theorem State.beginScatter_kernel (s : State) (r : Req) :
    ∀ z, State.beginScatter s r = some z → z.1.kernel = s.kernel := by
  intro z hz
  unfold State.beginScatter at hz
  (try dsimp only at hz)
  repeat' first
    | contradiction
    | (cases hz; first | rfl | (simp; done) | (simp [*]; done))
    | split at hz
    | (simp only [Option.map_eq_some_iff, Option.bind_eq_some_iff] at hz; obtain ⟨_, _, hz⟩ := hz)
    | grind [State.kernel, State.launches, Option.map_eq_some_iff, Option.bind_eq_some_iff, → State.allocFrames_kernel, State.freeFrames_kernel]

theorem State.reserveStep_kernel (s : State) (tenant : Nat) (family : Nat) (g : Nat × Nat × Nat × Nat) (len : Nat) (pages : List (List Nat)) (unshared : Bool) (q : Nat) :
    ∀ z, State.reserveStep s tenant family g len pages unshared q = some z → z.2.2.kernel = s.kernel := by
  intro z hz
  unfold State.reserveStep at hz
  (try dsimp only at hz)
  repeat' first
    | contradiction
    | (cases hz; first | rfl | (simp; done) | (simp [*]; done))
    | split at hz
    | (simp only [Option.map_eq_some_iff, Option.bind_eq_some_iff] at hz; obtain ⟨_, _, hz⟩ := hz)
    | grind [State.kernel, State.launches, Option.map_eq_some_iff, Option.bind_eq_some_iff, → State.allocFrames_kernel]

@[simp] theorem State.deliver_kernel (s : State) (r : Req) (tokens : List Nat) :
    (State.deliver s r tokens).1.kernel = s.kernel := by
  unfold State.deliver
  repeat' first | (simp; done) | split

@[simp] theorem State.writeReport_kernel (s : State) (r : Req) (route : Nat) (status : Nat) (tLaunch16 : Nat) (sequence : Nat) (tokens : List Nat) :
    (State.writeReport s r route status tLaunch16 sequence tokens).kernel = s.kernel := by
  unfold State.writeReport
  dsimp only
  repeat' first | (simp; done) | split

@[simp] theorem State.releaseReq_kernel (s : State) (r : Req) (status : Nat) :
    (State.releaseReq s r status).kernel = s.kernel := by
  unfold State.releaseReq
  extract_lets inFlight rides s₁ kept
  have h₁ : s₁.kernel = s.kernel := by simp only [s₁]; split <;> simp
  clear_value s₁ kept
  split
  · simp +zetaDelta [h₁]
  · have h₂ : ((if isCancel status then (s₁, r) else (s₁.finishScatter r).getD (s₁, r)) : State × Req).1.kernel = s.kernel := by
      split
      · exact h₁
      · cases h : s₁.finishScatter r with
        | none => exact h₁
        | some z => exact (State.finishScatter_kernel _ _ z h).trans h₁
    generalize (if isCancel status then (s₁, r) else (s₁.finishScatter r).getD (s₁, r) : State × Req) = p at h₂ ⊢
    obtain ⟨t, q⟩ := p
    dsimp only at h₂ ⊢
    repeat' first | (simp [h₂]; done) | split

@[simp] theorem State.endReq_kernel (s : State) (r : Req) (status : Nat) (tLaunch16 : Nat) (sequence : Nat) (tokens : List Nat) :
    (State.endReq s r status tLaunch16 sequence tokens).kernel = s.kernel := by
  unfold State.endReq
  repeat' first | (simp; done) | split

@[simp] theorem State.unmask_kernel (s : State) (r : Req) :
    (State.unmask s r).kernel = s.kernel := by
  rfl

@[simp] theorem State.cancelReq_kernel (s : State) (r : Req) (status : Nat) :
    (State.cancelReq s r status).kernel = s.kernel := by
  simp [State.cancelReq]

@[simp] theorem State.submit_kernel (s : State) (q : Submission) (c : CmdRef) (x : Ctx) (t : Template) :
    (State.submit s q c x t).kernel = s.kernel := by
  unfold State.submit
  split <;> simp

@[simp] theorem State.doSubmit_kernel (s : State) (q : Submission) (c : CmdRef) :
    (State.doSubmit s q c).kernel = s.kernel := by
  unfold State.doSubmit
  split <;> simp

theorem execSubmitRequest_kernel (h : Hdr) (p : SubmitParams) (inputs : List (Nat × Nat)) (s : State) :
    ∀ z, execSubmitRequest h p inputs s = .next z → z.kernel = s.kernel := by
  intro z hz; cases hz; simp

@[simp] theorem State.dropObject_kernel (s : State) (route : Nat) :
    (State.dropObject s route).kernel = s.kernel := by
  simp [State.dropObject]

@[simp] theorem State.objectCreate_kernel (s : State) (n : Nat) (pic : Picture) (b : BoxRec) :
    (State.objectCreate s n pic b).kernel = s.kernel := by
  unfold State.objectCreate
  repeat' first | (simp; done) | split

@[simp] theorem State.runWaiter_kernel (s : State) (n : Nat) (w : Waiter) :
    (State.runWaiter s n w).kernel = s.kernel := by
  unfold State.runWaiter
  split <;> simp

@[simp] theorem State.runWaiters_kernel (s : State) (n : Nat) :
    (State.runWaiters s n).kernel = s.kernel := by
  unfold State.runWaiters
  split <;> simp

theorem execPauseMoveDone_kernel (context : Nat) (s : State) :
    ∀ z, execPauseMoveDone context s = .next z → z.kernel = s.kernel := by
  unfold execPauseMoveDone
  intro z hz
  repeat' split at hz
  all_goals cases hz; simp

theorem execResumeMoveDone_kernel (context : Nat) (s : State) :
    ∀ z, execResumeMoveDone context s = .next z → z.kernel = s.kernel := by
  unfold execResumeMoveDone
  intro z hz
  repeat' split at hz
  all_goals cases hz; simp

@[simp] theorem State.readFlush_kernel (s : State) (context : Nat) (tenant : Nat) (f : Flush) :
    (State.readFlush s context tenant f).kernel = s.kernel := by
  simp [State.readFlush]

theorem execFlushScatterDone_kernel (context : Nat) (s : State) :
    ∀ z, execFlushScatterDone context s = .next z → z.kernel = s.kernel := by
  intro z hz
  unfold execFlushScatterDone at hz
  (try dsimp only at hz)
  repeat' first
    | contradiction
    | (cases hz; first | rfl | (simp; done) | (simp [*]; done))
    | split at hz
    | (simp only [Option.map_eq_some_iff, Option.bind_eq_some_iff] at hz; obtain ⟨_, _, hz⟩ := hz)
    | grind [State.kernel, State.launches, Option.map_eq_some_iff, Option.bind_eq_some_iff, State.setCtx_kernel, → State.scatterLayers_kernel, → State.growTables_kernel, State.freeFrames_kernel, State.runWaiters_kernel, State.readFlush_kernel]

@[simp] theorem State.sendMarker_kernel (s : State) (r : CopyRec) :
    (State.sendMarker s r).kernel = s.kernel := by
  simp [State.sendMarker]

@[simp] theorem cancelRequestRun_kernel (h : Hdr) (id : Nat) (withRecall : Bool) (c : CmdRef) (s : State) :
    (cancelRequestRun h id withRecall c s).kernel = s.kernel := by
  unfold cancelRequestRun
  repeat' first | (simp; done) | split

theorem execCancelRequest_kernel (h : Hdr) (request : Nat) (withRecall : Bool) (s : State) :
    ∀ z, execCancelRequest h request withRecall s = .next z → z.kernel = s.kernel := by
  intro z hz; cases hz; simp

@[simp] theorem setSamplingDeleteRun_kernel (h : Hdr) (n : Nat) (c : CmdRef) (s : State) :
    (setSamplingDeleteRun h n c s).kernel = s.kernel := by
  unfold setSamplingDeleteRun
  split <;> simp

@[simp] theorem setSamplingDefineRun_kernel (h : Hdr) (n : Nat) (op : Nat) (r : TemplateRec) (c : CmdRef) (s : State) :
    (setSamplingDefineRun h n op r c s).kernel = s.kernel := by
  simp [setSamplingDefineRun]

theorem execSetSamplingDefine_kernel (h : Hdr) (template : Nat) (r : SamplingDef) (s : State) :
    ∀ z, execSetSamplingDefine h template r s = .next z → z.kernel = s.kernel := by
  intro z hz; cases hz; simp

theorem execSetSamplingDelete_kernel (h : Hdr) (template : Nat) (s : State) :
    ∀ z, execSetSamplingDelete h template s = .next z → z.kernel = s.kernel := by
  intro z hz; cases hz; simp

@[simp] theorem setConvoyPolicyRun_kernel (h : Hdr) (p : PolicyParams) (c : CmdRef) (s : State) :
    (setConvoyPolicyRun h p c s).kernel = s.kernel := by
  unfold setConvoyPolicyRun
  split <;> simp

theorem execSetConvoyPolicy_kernel (h : Hdr) (p : PolicyParams) (s : State) :
    ∀ z, execSetConvoyPolicy h p s = .next z → z.kernel = s.kernel := by
  intro z hz; cases hz; simp

end Sys2Proof.Machine
end

