-- ==== Sys2Proof/Laws/KernelCores.lean ====
section
/-! SUPPORT. Frame lemmas: the operations and meanings of vision, the cores, firings, attention passes and convoys leave the fuses, the command queue and the launches unchanged. -/

namespace Sys2Proof.Machine

@[simp] theorem State.setArray_kernel (s : State) (core : Nat) (string : Nat) (position : Nat) (a : ArrayRec) :
    (State.setArray s core string position a).kernel = s.kernel := by
  rfl

@[simp] theorem State.setCore_kernel (s : State) (n : Nat) (c : Core) :
    (State.setCore s n c).kernel = s.kernel := by
  rfl

@[simp] theorem State.checkArray_kernel (s : State) (core : Nat) (string : Nat) (position : Nat) :
    (State.checkArray s core string position).kernel = s.kernel := by
  simp [State.checkArray]

@[simp] theorem State.writeTile_kernel (s : State) (core : Nat) (string : Nat) (position : Nat) (tile : List W64) (scales : List Byte) (mxint8 : Bool) (step : Nat) (tenant : Nat) :
    (State.writeTile s core string position tile scales mxint8 step tenant).kernel = s.kernel := by
  simp [State.writeTile]

@[simp] theorem State.copyTile_kernel (s : State) (core : Nat) (string : Nat) (src : Nat) (dst : Nat) (tenant : Nat) :
    (State.copyTile s core string src dst tenant).kernel = s.kernel := by
  simp [State.copyTile]

@[simp] theorem State.initArrays_kernel (s : State) (core : Nat) :
    (State.initArrays s core).kernel = s.kernel := by
  rfl

@[simp] theorem State.noteFirings_kernel (s : State) (core : Nat) (n : Nat) :
    (State.noteFirings s core n).kernel = s.kernel := by
  rfl

@[simp] theorem State.countFiring_kernel (s : State) (core : Nat) (string : Nat) (position : Nat) (calibration : Bool) :
    (State.countFiring s core string position calibration).kernel = s.kernel := by
  simp [State.countFiring]

@[simp] theorem State.countFirings_kernel (s : State) (core : Nat) (n : Nat) :
    (State.countFirings s core n).kernel = s.kernel := by
  simp [State.countFirings]

@[simp] theorem State.addSum_kernel (s : State) (core : Nat) (x : RowSum) :
    (State.addSum s core x).kernel = s.kernel := by
  simp [State.addSum]

@[simp] theorem State.queueTile_kernel (s : State) (core : Nat) (ticket : Nat) (t : TileRef) (r : Option (List F32)) :
    (State.queueTile s core ticket t r).kernel = s.kernel := by
  simp [State.queueTile]

@[simp] theorem State.fillTile_kernel (s : State) (core : Nat) (ticket : Nat) (t : TileRef) (r : List F32) :
    (State.fillTile s core ticket t r).kernel = s.kernel := by
  unfold State.fillTile
  repeat' first
    | (simp; done)
    | (refine foldl_kernel_to _ _ _ _ ?_ ?_)
    | (refine foldl_proj Prod.fst _ _ _ _ ?_ ?_)
    | (refine foldl_proj Prod.snd _ _ _ _ ?_ ?_)
    | (intro _ _)
    | (dsimp only)
    | split
    | rfl
    | (simp [*]; done)

@[simp] theorem State.queueData_kernel (s : State) (core : Nat) (ticket : Nat) (t : Option TileRef) (r : Option (List F32)) :
    (State.queueData s core ticket t r).kernel = s.kernel := by
  unfold State.queueData
  repeat' first
    | (simp; done)
    | (refine foldl_kernel_to _ _ _ _ ?_ ?_)
    | (refine foldl_proj Prod.fst _ _ _ _ ?_ ?_)
    | (refine foldl_proj Prod.snd _ _ _ _ ?_ ?_)
    | (intro _ _)
    | (dsimp only)
    | split
    | rfl
    | (simp [*]; done)

@[simp] theorem State.fillData_kernel (s : State) (core : Nat) (ticket : Nat) (t : Option TileRef) (r : List F32) :
    (State.fillData s core ticket t r).kernel = s.kernel := by
  unfold State.fillData
  repeat' first
    | (simp; done)
    | (refine foldl_kernel_to _ _ _ _ ?_ ?_)
    | (refine foldl_proj Prod.fst _ _ _ _ ?_ ?_)
    | (refine foldl_proj Prod.snd _ _ _ _ ?_ ?_)
    | (intro _ _)
    | (dsimp only)
    | split
    | rfl
    | (simp [*]; done)

@[simp] theorem State.dropSums_kernel (s : State) (bay : Nat) :
    (State.dropSums s bay).kernel = s.kernel := by
  rfl

@[simp] theorem State.markSuspect_kernel (s : State) (f : Firing) :
    (State.markSuspect s f).kernel = s.kernel := by
  unfold State.markSuspect
  dsimp only
  repeat' first | (simp; done) | split

@[simp] theorem State.logDisagreement_kernel (s : State) (f : Firing) (outcome : Nat) (saturated : Nat) (dis : Nat) :
    (State.logDisagreement s f outcome saturated dis).kernel = s.kernel := by
  simp [State.logDisagreement]

@[simp] theorem State.revertReq_kernel (s : State) (r : Req) :
    (State.revertReq s r).kernel = s.kernel := by
  simp [State.revertReq]

@[simp] theorem State.abandonConvoys_kernel (s : State) (n : Nat) :
    (State.abandonConvoys s n).kernel = s.kernel := by
  unfold State.abandonConvoys
  repeat' first
    | (simp; done)
    | (refine foldl_kernel_to _ _ _ _ ?_ ?_)
    | (refine foldl_proj Prod.fst _ _ _ _ ?_ ?_)
    | (refine foldl_proj Prod.snd _ _ _ _ ?_ ?_)
    | (intro _ _)
    | (dsimp only)
    | split
    | rfl
    | (simp [*]; done)

@[simp] theorem State.emptyBay_kernel (s : State) (n : Nat) :
    (State.emptyBay s n).kernel = s.kernel := by
  unfold State.emptyBay
  dsimp only
  repeat' first | (simp; done) | split

@[simp] theorem State.loadBaySlice_kernel (s : State) (b : Bay) (bale : Bale) (slice : Nat) (core : Nat) :
    (State.loadBaySlice s b bale slice core).kernel = s.kernel := by
  simp [State.loadBaySlice]

@[simp] theorem State.writeIndex_kernel (s : State) (core : Nat) (string : Nat) (index : Nat) (position : Nat) :
    (State.writeIndex s core string index position).kernel = s.kernel := by
  unfold State.writeIndex
  split <;> simp

@[simp] theorem State.stagingError_kernel (s : State) (handle : Nat) :
    (State.stagingError s handle).kernel = s.kernel := by
  unfold State.stagingError
  split <;> simp

@[simp] theorem State.readStaging_kernel (s : State) (handle : Nat) :
    (State.readStaging s handle).kernel = s.kernel := by
  unfold State.readStaging
  split <;> simp

@[simp] theorem State.readSliceStaging_kernel (s : State) (slice : Nat) :
    (State.readSliceStaging s slice).kernel = s.kernel := by
  simp [State.readSliceStaging]

@[simp] theorem State.loadSlice_kernel (s : State) (slice : Nat) (core : Nat) :
    (State.loadSlice s slice core).kernel = s.kernel := by
  unfold State.loadSlice
  repeat' first
    | (simp; done)
    | (refine foldl_kernel_to _ _ _ _ ?_ ?_)
    | (refine foldl_proj Prod.fst _ _ _ _ ?_ ?_)
    | (refine foldl_proj Prod.snd _ _ _ _ ?_ ?_)
    | (intro _ _)
    | (dsimp only)
    | split
    | rfl
    | (simp [*]; done)

@[simp] theorem State.recordArray_kernel (s : State) (core : Nat) (string : Nat) (position : Nat) :
    (State.recordArray s core string position).kernel = s.kernel := by
  simp [State.recordArray]

@[simp] theorem State.setRemap_kernel (s : State) (core : Nat) (string : Nat) (index : Nat) (position : Nat) :
    (State.setRemap s core string index position).kernel = s.kernel := by
  rfl

@[simp] theorem State.switchRemap_kernel (s : State) (core : Nat) (d : Nat × Nat × Option CmdRef) :
    (State.switchRemap s core d).kernel = s.kernel := by
  unfold State.switchRemap
  dsimp only
  repeat' first | (simp; done) | split

@[simp] theorem State.switchIndices_kernel (s : State) (core : Nat) (which : Nat → Bool) :
    (State.switchIndices s core which).kernel = s.kernel := by
  simp [State.switchIndices]

@[simp] theorem State.switchRemaps_kernel (s : State) (core : Nat) :
    (State.switchRemaps s core).kernel = s.kernel := by
  unfold State.switchRemaps
  repeat' first
    | (simp; done)
    | (refine foldl_kernel_to _ _ _ _ ?_ ?_)
    | (refine foldl_proj Prod.fst _ _ _ _ ?_ ?_)
    | (refine foldl_proj Prod.snd _ _ _ _ ?_ ?_)
    | (intro _ _)
    | (dsimp only)
    | split
    | rfl
    | (simp [*]; done)

@[simp] theorem State.queueRemap_kernel (s : State) (core : Nat) (string : Nat) (index : Nat) (position : Nat) (c : Option CmdRef) :
    (State.queueRemap s core string index position c).kernel = s.kernel := by
  rfl

@[simp] theorem State.assignStandby_kernel (s : State) (core : Nat) (string : Nat) (position : Nat) :
    (State.assignStandby s core string position).kernel = s.kernel := by
  unfold State.assignStandby
  repeat' first | (simp; done) | split

@[simp] theorem State.releaseStandbysOf_kernel (s : State) (core : Nat) (which : Nat → Nat → Bool) :
    (State.releaseStandbysOf s core which).kernel = s.kernel := by
  rfl

@[simp] theorem State.releaseStandbys_kernel (s : State) (core : Nat) :
    (State.releaseStandbys s core).kernel = s.kernel := by
  rfl

@[simp] theorem State.shrinkEvent_kernel (s : State) (bay : Nat) (core : Nat) :
    (State.shrinkEvent s bay core).kernel = s.kernel := by
  simp [State.shrinkEvent]

@[simp] theorem State.abandonHandover_kernel (s : State) :
    (State.abandonHandover s).kernel = s.kernel := by
  unfold State.abandonHandover
  split <;> simp

@[simp] theorem State.loseSlice_kernel (s : State) (slice : Nat) (core : Nat) :
    (State.loseSlice s slice core).kernel = s.kernel := by
  simp [State.loseSlice]

@[simp] theorem State.dropHandover_kernel (s : State) (slice : Option Nat) (core : Nat) :
    (State.dropHandover s slice core).kernel = s.kernel := by
  unfold State.dropHandover
  split <;> simp

@[simp] theorem State.fenceCore_kernel (s : State) (n : Nat) (reason : Nat) :
    (State.fenceCore s n reason).kernel = s.kernel := by
  unfold State.fenceCore
  dsimp only
  repeat' first | (simp; done) | split

@[simp] theorem State.shrink_kernel (s : State) (core : Nat) :
    (State.shrink s core).kernel = s.kernel := by
  simp [State.shrink]

@[simp] theorem State.exhaust_kernel (s : State) (core : Nat) :
    (State.exhaust s core).kernel = s.kernel := by
  unfold State.exhaust
  repeat' first | (simp; done) | split

@[simp] theorem State.repairWord_kernel (s : State) (core : Nat) (string : Nat) (position : Nat) :
    (State.repairWord s core string position).kernel = s.kernel := by
  unfold State.repairWord
  dsimp only
  repeat' first | (simp; done) | split

@[simp] theorem State.repairWords_kernel (s : State) (core : Nat) (addr : Nat) (len : Nat) :
    (State.repairWords s core addr len).kernel = s.kernel := by
  simp [State.repairWords]

@[simp] theorem State.beginHandover_kernel (s : State) (out : Nat) (inc : Nat) (refs : List CmdRef) :
    (State.beginHandover s out inc refs).kernel = s.kernel := by
  rfl

@[simp] theorem State.restScrub_kernel (s : State) (core : Nat) :
    (State.restScrub s core).kernel = s.kernel := by
  simp [State.restScrub]

@[simp] theorem State.enterService_kernel (s : State) (core : Nat) :
    (State.enterService s core).kernel = s.kernel := by
  rfl

@[simp] theorem State.swapRoles_kernel (s : State) (h : Handover) :
    (State.swapRoles s h).kernel = s.kernel := by
  unfold State.swapRoles
  split <;> simp

@[simp] theorem State.adoptSlice_kernel (s : State) :
    (State.adoptSlice s).kernel = s.kernel := by
  unfold State.adoptSlice
  dsimp only
  repeat' first | (simp; done) | split

@[simp] theorem State.afterUncorrectable_kernel (s : State) (cls : Nat) (unit : Nat) (addr : Nat) :
    (State.afterUncorrectable s cls unit addr).kernel = s.kernel := by
  simp [State.afterUncorrectable]

@[simp] theorem State.scrubFlip_kernel (a : State × ScrubSum) (cls : Nat) (unit : Nat) (cw : Nat) (mask : Nat) :
    (State.scrubFlip a cls unit cw mask).1.kernel = a.1.kernel := by
  unfold State.scrubFlip
  dsimp only
  repeat' first | (simp; done) | split

@[simp] theorem State.scrubFound_kernel (a : State × ScrubSum) (cls : Nat) (unit : Nat) (f : FoundError) :
    (State.scrubFound a cls unit f).1.kernel = a.1.kernel := by
  unfold State.scrubFound
  repeat' first
    | (simp; done)
    | (refine foldl_kernel_to _ _ _ _ ?_ ?_)
    | (refine foldl_proj Prod.fst _ _ _ _ ?_ ?_)
    | (refine foldl_proj Prod.snd _ _ _ _ ?_ ?_)
    | (intro _ _)
    | (dsimp only)
    | split
    | rfl
    | grind [State.kernel, State.launches, Option.map_eq_some_iff, Option.bind_eq_some_iff, State.foundCorrectable_kernel, State.foundUncorrectable_kernel, State.poisonWord_kernel, State.afterUncorrectable_kernel]

@[simp] theorem State.scrubRange_kernel (s : State) (cls : Nat) (unit : Nat) (start : Nat) (len : Nat) (found : List FoundError) :
    (State.scrubRange s cls unit start len found).1.kernel = s.kernel := by
  unfold State.scrubRange
  refine foldl_proj Prod.fst _ _ _ _ (fun b x => State.scrubFound_kernel _ _ _ _) ?_
  exact foldl_proj Prod.fst _ _ _ _ (fun b x => State.scrubFlip_kernel _ _ _ _ _) rfl

@[simp] theorem State.endScrub_kernel (s : State) (c : Scrub) (words : Nat) (status : Nat) (found : List FoundError) :
    (State.endScrub s c words status found).kernel = s.kernel := by
  unfold State.endScrub
  repeat' first
    | (simp; done)
    | (refine foldl_kernel_to _ _ _ _ ?_ ?_)
    | (refine foldl_proj Prod.fst _ _ _ _ ?_ ?_)
    | (refine foldl_proj Prod.snd _ _ _ _ ?_ ?_)
    | (intro _ _)
    | (dsimp only)
    | split
    | rfl
    | grind [State.kernel, State.launches, Option.map_eq_some_iff, Option.bind_eq_some_iff, State.writePayload_kernel, State.reply_kernel, State.scrubRange_kernel]

@[simp] theorem State.cutScrub_kernel (s : State) (c : Scrub) :
    (State.cutScrub s c).kernel = s.kernel := by
  simp [State.cutScrub]

@[simp] theorem scrubRangeRun_kernel (h : Hdr) (p : ScrubParams) (c : CmdRef) (s : State) :
    (scrubRangeRun h p c s).kernel = s.kernel := by
  simp [scrubRangeRun]

theorem execScrubRange_kernel (h : Hdr) (p : ScrubParams) (s : State) :
    ∀ z, execScrubRange h p s = .next z → z.kernel = s.kernel := by
  intro z hz; cases hz; simp

@[simp] theorem scrubStopRun_kernel (cls : Nat) (unit : Nat) (c : CmdRef) (s : State) :
    (scrubStopRun cls unit c s).kernel = s.kernel := by
  unfold scrubStopRun
  repeat' first | (simp; done) | split

theorem execScrubStop_kernel (h : Hdr) (cls : Nat) (unit : Nat) (s : State) :
    ∀ z, execScrubStop h cls unit s = .next z → z.kernel = s.kernel := by
  intro z hz; cases hz; simp

theorem execScrubRun_kernel (cls : Nat) (unit : Nat) (found : List FoundError) (s : State) :
    ∀ z, execScrubRun cls unit found s = .next z → z.kernel = s.kernel := by
  unfold execScrubRun
  intro z hz
  repeat' split at hz
  all_goals cases hz; simp

@[simp] theorem State.countDis_kernel (s : State) (f : Firing) (position : Nat) :
    (State.countDis s f position).kernel = s.kernel := by
  simp [State.countDis]

@[simp] theorem State.countSaturated_kernel (s : State) (f : Firing) (n : Nat) :
    (State.countSaturated s f n).kernel = s.kernel := by
  simp [State.countSaturated]

@[simp] theorem State.countSegment_kernel (s : State) (f : Firing) (position : Nat) :
    (State.countSegment s f position).kernel = s.kernel := by
  simp [State.countSegment]

@[simp] theorem State.scaleFiring_kernel (s : State) (core : Nat) (string : Nat) (position : Nat) (y : List Int) (xs : List Int) (emax : Nat) :
    (State.scaleFiring s core string position y xs emax).2.kernel = s.kernel := by
  simp [State.scaleFiring]

@[simp] theorem State.inputOf_kernel (s : State) (f : Firing) :
    (State.inputOf s f).2.kernel = s.kernel := by
  unfold State.inputOf
  repeat' first
    | (simp; done)
    | (refine foldl_kernel_to _ _ _ _ ?_ ?_)
    | (refine foldl_proj Prod.fst _ _ _ _ ?_ ?_)
    | (refine foldl_proj Prod.snd _ _ _ _ ?_ ?_)
    | (intro _ _)
    | (dsimp only)
    | split
    | rfl
    | grind [State.kernel, State.launches, Option.map_eq_some_iff, Option.bind_eq_some_iff, State.memWrite_kernel, State.readRange_kernel, State.tagRequest_kernel]

@[simp] theorem State.queueRefire_kernel (s : State) (p : PendingRefire) :
    (State.queueRefire s p).kernel = s.kernel := by
  simp [State.queueRefire]

@[simp] theorem State.takeSuspect_kernel (s : State) (f : Firing) (ticket : Nat) (tile : Option TileRef) (results : List F32) (r : FireResult) :
    (State.takeSuspect s f ticket tile results r).kernel = s.kernel := by
  simp [State.takeSuspect]

@[simp] theorem State.disagreed_kernel (s : State) (f : Firing) (ticket : Nat) (tile : Option TileRef) (xs : List Int) (emax : Nat) (results : List F32) (r : FireResult) :
    (State.disagreed s f ticket tile xs emax results r).kernel = s.kernel := by
  unfold State.disagreed
  dsimp only
  repeat' first | (simp; done) | split

@[simp] theorem State.noteWarm_kernel (s : State) (f : Firing) :
    (State.noteWarm s f).kernel = s.kernel := by
  simp [State.noteWarm]

@[simp] theorem State.fireAligned_kernel (s : State) (f : Firing) (tile : Option TileRef) (xs : List Int) (emax : Nat) :
    (State.fireAligned s f tile xs emax).kernel = s.kernel := by
  simp [State.fireAligned]

@[simp] theorem State.fireNaN_kernel (s : State) (f : Firing) (tile : Option TileRef) :
    (State.fireNaN s f tile).kernel = s.kernel := by
  simp [State.fireNaN]

@[simp] theorem State.fireCalibration_kernel (s : State) (f : Firing) :
    (State.fireCalibration s f).kernel = s.kernel := by
  simp [State.fireCalibration]

@[simp] theorem State.fireGroup_kernel (s : State) (f : Firing) :
    (State.fireGroup s f).kernel = s.kernel := by
  simp [State.fireGroup]

theorem execArrayFiring_kernel (f : Firing) (s : State) :
    ∀ z, execArrayFiring f s = .next z → z.kernel = s.kernel := by
  unfold execArrayFiring
  intro z hz
  dsimp only at hz
  repeat' split at hz
  all_goals cases hz; simp

@[simp] theorem State.makeRefire_kernel (s : State) (p : PendingRefire) :
    (State.makeRefire s p).kernel = s.kernel := by
  simp [State.makeRefire]

theorem execRefire_kernel (core : Nat) (string : Nat) (position : Nat) (s : State) :
    ∀ z, execRefire core string position s = .next z → z.kernel = s.kernel := by
  unfold execRefire
  intro z hz
  repeat' split at hz
  all_goals cases hz; simp

@[simp] theorem State.setTrims_kernel (s : State) (core : Nat) (string : Nat) (position : Nat) (column : Nat) (step : Nat) (new : Int × Int) :
    (State.setTrims s core string position column step new).kernel = s.kernel := by
  simp [State.setTrims]

@[simp] theorem State.visitColumn_kernel (s : State) (core : Nat) (string : Nat) (position : Nat) (column : Nat) (m : CalMeasure) (whole : Bool) :
    (State.visitColumn s core string position column m whole).kernel = s.kernel := by
  simp [State.visitColumn]

@[simp] theorem State.markVisited_kernel (s : State) (core : Nat) (string : Nat) (position : Nat) :
    (State.markVisited s core string position).kernel = s.kernel := by
  simp [State.markVisited]

@[simp] theorem State.visitColumns_kernel (s : State) (core : Nat) (string : Nat) (position : Nat) (first : List CalMeasure) (retry : List CalMeasure) :
    (State.visitColumns s core string position first retry).kernel = s.kernel := by
  unfold State.visitColumns
  repeat' first
    | (simp; done)
    | (refine foldl_kernel_to _ _ _ _ ?_ ?_)
    | (refine foldl_proj Prod.fst _ _ _ _ ?_ ?_)
    | (refine foldl_proj Prod.snd _ _ _ _ ?_ ?_)
    | (intro _ _)
    | (dsimp only)
    | split
    | rfl
    | (simp [*]; done)

theorem execBgCalVisit_kernel (core : Nat) (string : Nat) (position : Nat) (first : List CalMeasure) (retry : List CalMeasure) (s : State) :
    ∀ z, execBgCalVisit core string position first retry s = .next z → z.kernel = s.kernel := by
  unfold execBgCalVisit
  intro z hz
  dsimp only at hz
  repeat' split at hz
  all_goals cases hz; simp

theorem execBgCalOverdue_kernel (core : Nat) (s : State) :
    ∀ z, execBgCalOverdue core s = .next z → z.kernel = s.kernel := by
  unfold execBgCalOverdue
  intro z hz
  dsimp only at hz
  repeat' split at hz
  all_goals cases hz; simp

@[simp] theorem State.fullColumn_kernel (s : State) (core : Nat) (r : FullCalResult) :
    (State.fullColumn s core r).kernel = s.kernel := by
  simp [State.fullColumn]

@[simp] theorem State.fullColumns_kernel (s : State) (core : Nat) (n : Nat) (results : List FullCalResult) :
    (State.fullColumns s core n results).kernel = s.kernel := by
  unfold State.fullColumns
  repeat' first
    | (simp; done)
    | (refine foldl_kernel_to _ _ _ _ ?_ ?_)
    | (refine foldl_proj Prod.fst _ _ _ _ ?_ ?_)
    | (refine foldl_proj Prod.snd _ _ _ _ ?_ ?_)
    | (intro _ _)
    | (dsimp only)
    | split
    | rfl
    | (simp [*]; done)

@[simp] theorem State.writePatterns_kernel (s : State) (core : Nat) :
    (State.writePatterns s core).kernel = s.kernel := by
  simp [State.writePatterns]

theorem execFullCalPass_kernel (core : Nat) (results : List FullCalResult) (s : State) :
    ∀ z, execFullCalPass core results s = .next z → z.kernel = s.kernel := by
  unfold execFullCalPass
  intro z hz
  split at hz
  · cases hz; rfl
  · simp only [Host.Outcome.next.injEq] at hz
    subst hz
    rw [State.setCore_kernel, State.writePatterns_kernel, State.fullColumns_kernel, State.countFirings_kernel, State.draw_kernel]

theorem execCalStale_kernel (core : Nat) (s : State) :
    ∀ z, execCalStale core s = .next z → z.kernel = s.kernel := by
  unfold execCalStale
  intro z hz
  dsimp only at hz
  repeat' split at hz
  all_goals cases hz; simp

theorem execRestPeriodEnd_kernel (s : State) :
    ∀ z, execRestPeriodEnd s = .next z → z.kernel = s.kernel := by
  unfold execRestPeriodEnd
  intro z hz
  dsimp only at hz
  repeat' split at hz
  all_goals cases hz; simp

@[simp] theorem State.probeDisagrees_kernel (s : State) (core : Nat) (string : Nat) (position : Nat) :
    (State.probeDisagrees s core string position).kernel = s.kernel := by
  simp [State.probeDisagrees]

@[simp] theorem State.rewriteArray_kernel (s : State) (core : Nat) (string : Nat) (position : Nat) :
    (State.rewriteArray s core string position).kernel = s.kernel := by
  unfold State.rewriteArray
  split <;> simp

@[simp] theorem State.probeFailed_kernel (s : State) (core : Nat) (string : Nat) (position : Nat) :
    (State.probeFailed s core string position).kernel = s.kernel := by
  rfl

theorem execHandoverLoadEnd_kernel (firstProbe : List (Nat × Nat)) (secondProbe : List (Nat × Nat)) (s : State) :
    ∀ z, execHandoverLoadEnd firstProbe secondProbe s = .next z → z.kernel = s.kernel := by
  unfold execHandoverLoadEnd
  intro z hz
  dsimp only at hz
  repeat' split at hz
  all_goals cases hz; simp

@[simp] theorem setPeriodRun_kernel (period : Nat) (c : CmdRef) (s : State) :
    (setPeriodRun period c s).kernel = s.kernel := by
  simp [setPeriodRun]

theorem execSetPeriod_kernel (h : Hdr) (period : Nat) (s : State) :
    ∀ z, execSetPeriod h period s = .next z → z.kernel = s.kernel := by
  intro z hz; cases hz; simp

@[simp] theorem rotateNowRun_kernel (c : CmdRef) (s : State) :
    (rotateNowRun c s).kernel = s.kernel := by
  unfold rotateNowRun
  repeat' first | (simp; done) | split

theorem execRotateNow_kernel (h : Hdr) (s : State) :
    ∀ z, execRotateNow h s = .next z → z.kernel = s.kernel := by
  intro z hz; cases hz; simp

@[simp] theorem unfenceRun_kernel (core : Nat) (c : CmdRef) (s : State) :
    (unfenceRun core c s).kernel = s.kernel := by
  simp [unfenceRun]

theorem execUnfence_kernel (h : Hdr) (core : Nat) (s : State) :
    ∀ z, execUnfence h core s = .next z → z.kernel = s.kernel := by
  intro z hz; cases hz; simp

@[simp] theorem setExhaustionRun_kernel (policy : Nat) (c : CmdRef) (s : State) :
    (setExhaustionRun policy c s).kernel = s.kernel := by
  simp [setExhaustionRun]

theorem execSetExhaustion_kernel (h : Hdr) (policy : Nat) (s : State) :
    ∀ z, execSetExhaustion h policy s = .next z → z.kernel = s.kernel := by
  intro z hz; cases hz; simp

@[simp] theorem State.probeOnce_kernel (s : State) (core : Nat) (string : Nat) (position : Nat) :
    (State.probeOnce s core string position).2.kernel = s.kernel := by
  unfold State.probeOnce
  repeat' first
    | (simp; done)
    | (refine foldl_kernel_to _ _ _ _ ?_ ?_)
    | (refine foldl_proj Prod.fst _ _ _ _ ?_ ?_)
    | (refine foldl_proj Prod.snd _ _ _ _ ?_ ?_)
    | (intro _ _)
    | (dsimp only)
    | split
    | rfl
    | grind [State.kernel, State.launches, Option.map_eq_some_iff, Option.bind_eq_some_iff, State.countFirings_kernel, State.probeDisagrees_kernel]

@[simp] theorem State.probeSpare_kernel (s : State) (core : Nat) (string : Nat) (index : Nat) (position : Nat) :
    (State.probeSpare s core string index position).kernel = s.kernel := by
  simp [State.probeSpare]

@[simp] theorem State.takeSpare_kernel (s : State) (core : Nat) (string : Nat) (index : Nat) (position : Nat) :
    (State.takeSpare s core string index position).kernel = s.kernel := by
  simp [State.takeSpare]

@[simp] theorem State.retireNoSpare_kernel (s : State) (core : Nat) (string : Nat) (position : Nat) (index : Nat) :
    (State.retireNoSpare s core string position index).kernel = s.kernel := by
  simp [State.retireNoSpare]

@[simp] theorem retireArrayRun_kernel (core : Nat) (string : Nat) (position : Nat) (c : CmdRef) (s : State) :
    (retireArrayRun core string position c s).kernel = s.kernel := by
  unfold retireArrayRun
  repeat' first | (simp; done) | split

theorem execRetireArray_kernel (h : Hdr) (core : Nat) (string : Nat) (position : Nat) (s : State) :
    ∀ z, execRetireArray h core string position s = .next z → z.kernel = s.kernel := by
  intro z hz; cases hz; simp

@[simp] theorem State.scatterConvoy_kernel (s : State) (c : Convoy) (layer : Nat) :
    (State.scatterConvoy s c layer).kernel = s.kernel := by
  unfold State.scatterConvoy
  repeat' first
    | (simp; done)
    | (refine foldl_kernel_to _ _ _ _ ?_ ?_)
    | (refine foldl_proj Prod.fst _ _ _ _ ?_ ?_)
    | (refine foldl_proj Prod.snd _ _ _ _ ?_ ?_)
    | (intro _ _)
    | (dsimp only)
    | split
    | rfl
    | grind [State.kernel, State.launches, Option.map_eq_some_iff, Option.bind_eq_some_iff, State.setReq_kernel, → State.scatterLayer_kernel]

@[simp] theorem State.storeKv_kernel (s : State) (n : Nat) (first : Nat) (p : LayerParams) (x : StepItem) :
    (State.storeKv s n first p x).kernel = s.kernel := by
  simp [State.storeKv]

@[simp] theorem State.finishRow_kernel (s : State) (n : Nat) (x : TileRow) (p : RowPlace) :
    (State.finishRow s n x p).kernel = s.kernel := by
  unfold State.finishRow
  repeat' first
    | (simp; done)
    | (refine foldl_kernel_to _ _ _ _ ?_ ?_)
    | (refine foldl_proj Prod.fst _ _ _ _ ?_ ?_)
    | (refine foldl_proj Prod.snd _ _ _ _ ?_ ?_)
    | (intro _ _)
    | (dsimp only)
    | split
    | rfl
    | grind [State.kernel, State.launches, Option.map_eq_some_iff, Option.bind_eq_some_iff, State.count_kernel, State.passRow_kernel, State.modBay_kernel, State.attention_kernel]

@[simp] theorem State.spillRow_kernel (s : State) (n : Nat) (x : TileRow) :
    (State.spillRow s n x).kernel = s.kernel := by
  unfold State.spillRow
  repeat' first
    | (simp; done)
    | (refine foldl_kernel_to _ _ _ _ ?_ ?_)
    | (refine foldl_proj Prod.fst _ _ _ _ ?_ ?_)
    | (refine foldl_proj Prod.snd _ _ _ _ ?_ ?_)
    | (intro _ _)
    | (dsimp only)
    | split
    | rfl
    | grind [State.kernel, State.launches, Option.map_eq_some_iff, Option.bind_eq_some_iff, State.count_kernel, → State.allocFrames_kernel, State.passOne_kernel, State.freeFrames_kernel, State.finishRow_kernel]

@[simp] theorem State.runTile_kernel (s : State) (n : Nat) (half : Nat) (rows : List TileRow) :
    (State.runTile s n half rows).kernel = s.kernel := by
  unfold State.runTile
  repeat' first
    | (simp; done)
    | (refine foldl_kernel_to _ _ _ _ ?_ ?_)
    | (refine foldl_proj Prod.fst _ _ _ _ ?_ ?_)
    | (refine foldl_proj Prod.snd _ _ _ _ ?_ ?_)
    | (intro _ _)
    | (dsimp only)
    | split
    | rfl
    | grind [State.kernel, State.launches, Option.map_eq_some_iff, Option.bind_eq_some_iff, State.passOne_kernel, State.finishRow_kernel, State.spillRow_kernel]

@[simp] theorem State.readTileFrame_kernel (s : State) (page : Nat) (requests : List Nat) :
    (State.readTileFrame s page requests).kernel = s.kernel := by
  unfold State.readTileFrame
  repeat' first
    | (simp; done)
    | (refine foldl_kernel_to _ _ _ _ ?_ ?_)
    | (refine foldl_proj Prod.fst _ _ _ _ ?_ ?_)
    | (refine foldl_proj Prod.snd _ _ _ _ ?_ ?_)
    | (intro _ _)
    | (dsimp only)
    | split
    | rfl
    | grind [State.kernel, State.launches, Option.map_eq_some_iff, Option.bind_eq_some_iff, State.readRange_kernel, State.tagRequest_kernel, State.poisonReaders_kernel]

@[simp] theorem State.tokenTile_kernel (s : State) (n : Nat) (core : Nat) (group : Nat) (first : Nat) (half : Nat) (p : LayerParams) (rows : List (StepItem × Nat)) :
    (State.tokenTile s n core group first half p rows).kernel = s.kernel := by
  unfold State.tokenTile
  dsimp only
  repeat' first | (simp; done) | split

@[simp] theorem State.projectOutputs_kernel (s : State) (n : Nat) (request : Option Nat) (layer : Nat) (position : Nat) :
    (State.projectOutputs s n request layer position).kernel = s.kernel := by
  rfl

@[simp] theorem State.segmentAttention_kernel (s : State) (n : Nat) (b : Bay) (bale : Bale) (c : Convoy) (work : List AttnWork) (g : SegCost) :
    (State.segmentAttention s n b bale c work g).kernel = s.kernel := by
  unfold State.segmentAttention
  dsimp only
  repeat' first | (simp; done) | split

@[simp] theorem State.attention_kernel (s : State) (n : Nat) (work : List AttnWork) :
    (State.attention s n work).kernel = s.kernel := by
  unfold State.attention
  repeat' first
    | (simp; done)
    | (refine foldl_kernel_to _ _ _ _ ?_ ?_)
    | (refine foldl_proj Prod.fst _ _ _ _ ?_ ?_)
    | (refine foldl_proj Prod.snd _ _ _ _ ?_ ?_)
    | (intro _ _)
    | (dsimp only)
    | split
    | rfl
    | (simp [*]; done)

@[simp] theorem State.visionAttention_kernel (s : State) (n : Nat) (rows : List VisionRow) :
    (State.visionAttention s n rows).kernel = s.kernel := by
  unfold State.visionAttention
  dsimp only
  repeat' first | (simp; done) | split

@[simp] theorem State.predict_kernel (s : State) (b : Bay) (bale : Bale) (rs : List Req) :
    (State.predict s b bale rs).2.kernel = s.kernel := by
  unfold State.predict
  dsimp only
  repeat' first | (simp; done) | split

theorem State.takeMember_kernel (s : State) (r : Req) (m : Member) :
    ∀ z, State.takeMember s r m = some z → z.kernel = s.kernel := by
  intro z hz
  unfold State.takeMember at hz
  (try dsimp only at hz)
  repeat' first
    | contradiction
    | (cases hz; first | rfl | (simp; done) | (simp [*]; done))
    | split at hz
    | (simp only [Option.map_eq_some_iff, Option.bind_eq_some_iff] at hz; obtain ⟨_, _, hz⟩ := hz)
    | grind [State.kernel, State.launches, Option.map_eq_some_iff, Option.bind_eq_some_iff, State.setReq_kernel, → State.finishScatter_kernel, → State.beginScatter_kernel, → State.reserveStep_kernel]

@[simp] theorem State.passOver_kernel (s : State) (r : Req) :
    (State.passOver s r).kernel = s.kernel := by
  rfl

@[simp] theorem State.admitAll_kernel (s : State) (n : Nat) (p : PolicyParams) (rs : List Rank) (acc : List Member) (room : Nat) :
    (State.admitAll s n p rs acc room).2.kernel = s.kernel := by
  induction rs generalizing s acc room with
  | nil => rfl
  | cons x rest ih =>
    unfold State.admitAll
    repeat' split
    · simp [ih]
    · simp [ih]
    all_goals first
      | (simp [ih]; done)
      | (rename_i h _; simp [ih, State.takeMember_kernel _ _ _ _ h])

@[simp] theorem State.endFull_kernel (s : State) (r : Req) :
    (State.endFull s r).kernel = s.kernel := by
  unfold State.endFull
  dsimp only
  repeat' first | (simp; done) | split

@[simp] theorem State.planConvoy_kernel (s : State) (n : Nat) :
    (State.planConvoy s n).2.kernel = s.kernel := by
  unfold State.planConvoy
  split
  · rfl
  · split
    · rfl
    · simp only [State.admitAll_kernel, State.setBay_kernel, State.predict_kernel]
      rw [foldl_kernel _ _ _ (fun s x => by simp), foldl_kernel _ _ _ (fun s x => by simp)]

@[simp] theorem State.enterStage_kernel (s : State) (n : Nat) (c : Convoy) :
    (State.enterStage s n c).kernel = s.kernel := by
  rfl

@[simp] theorem State.formConvoy_kernel (s : State) (n : Nat) :
    (State.formConvoy s n).kernel = s.kernel := by
  unfold State.formConvoy
  have h := State.planConvoy_kernel s n
  generalize s.planConvoy n = p at h ⊢
  obtain ⟨_ | c, t⟩ := p
  · exact h
  · simpa using h

@[simp] theorem State.recordInterval_kernel (s : State) (n : Nat) (b : Bay) :
    (State.recordInterval s n b).kernel = s.kernel := by
  unfold State.recordInterval
  split <;> simp

@[simp] theorem State.endScatters_kernel (s : State) (c : Convoy) :
    (State.endScatters s c).kernel = s.kernel := by
  unfold State.endScatters
  repeat' first
    | (simp; done)
    | (refine foldl_kernel_to _ _ _ _ ?_ ?_)
    | (refine foldl_proj Prod.fst _ _ _ _ ?_ ?_)
    | (refine foldl_proj Prod.snd _ _ _ _ ?_ ?_)
    | (intro _ _)
    | (dsimp only)
    | split
    | rfl
    | grind [State.kernel, State.launches, Option.map_eq_some_iff, Option.bind_eq_some_iff, State.setReq_kernel, → State.finishScatter_kernel]

@[simp] theorem State.advance_kernel (s : State) (n : Nat) :
    (State.advance s n).kernel = s.kernel := by
  unfold State.advance
  dsimp only
  repeat' first | (simp; done) | split

@[simp] theorem State.replyJob_kernel (s : State) (j : SeatJob) (status : Nat) (r0 : Nat) (r1 : Nat) :
    (State.replyJob s j status r0 r1).kernel = s.kernel := by
  unfold State.replyJob
  split <;> simp

@[simp] theorem State.settleJobs_kernel (s : State) (n : Nat) (fuel : Nat) :
    (State.settleJobs s n fuel).kernel = s.kernel := by
  induction fuel generalizing s n with
  | _ => 
    unfold State.settleJobs
    repeat' first
      | (simp; done)
      | (refine foldl_kernel_to _ _ _ _ ?_ ?_)
      | (refine foldl_proj Prod.fst _ _ _ _ ?_ ?_)
      | (refine foldl_proj Prod.snd _ _ _ _ ?_ ?_)
      | (intro _ _)
      | (dsimp only)
      | split
      | rfl
      | (simp [*]; done)

@[simp] theorem State.judgeSwap_kernel (s : State) (n : Nat) :
    (State.judgeSwap s n).kernel = s.kernel := by
  unfold State.judgeSwap
  repeat' first
    | (simp; done)
    | (refine foldl_kernel_to _ _ _ _ ?_ ?_)
    | (refine foldl_proj Prod.fst _ _ _ _ ?_ ?_)
    | (refine foldl_proj Prod.snd _ _ _ _ ?_ ?_)
    | (intro _ _)
    | (dsimp only)
    | split
    | rfl
    | (simp [*]; done)

@[simp] theorem State.dropPlanned_kernel (s : State) (n : Nat) :
    (State.dropPlanned s n).kernel = s.kernel := by
  unfold State.dropPlanned
  repeat' first
    | (simp; done)
    | (refine foldl_kernel_to _ _ _ _ ?_ ?_)
    | (refine foldl_proj Prod.fst _ _ _ _ ?_ ?_)
    | (refine foldl_proj Prod.snd _ _ _ _ ?_ ?_)
    | (intro _ _)
    | (dsimp only)
    | split
    | rfl
    | (simp [*]; done)

@[simp] theorem State.stopAdmission_kernel (s : State) (n : Nat) :
    (State.stopAdmission s n).kernel = s.kernel := by
  unfold State.stopAdmission
  repeat' first | (simp; done) | split

@[simp] theorem State.boundaryChanges_kernel (s : State) (n : Nat) :
    (State.boundaryChanges s n).kernel = s.kernel := by
  unfold State.boundaryChanges
  dsimp only
  repeat' first | (simp; done) | split

@[simp] theorem State.rereadBay_kernel (s : State) (n : Nat) :
    (State.rereadBay s n).kernel = s.kernel := by
  simp [State.rereadBay]

@[simp] theorem State.planAhead_kernel (s : State) (n : Nat) (fuel : Nat) :
    (State.planAhead s n fuel).kernel = s.kernel := by
  induction fuel generalizing s with
  | zero => rfl
  | succ k ih =>
    unfold State.planAhead
    split
    · split
      · rfl
      · have h := State.planConvoy_kernel s n
        generalize s.planConvoy n = p at h ⊢
        obtain ⟨_ | c, t⟩ := p
        · exact h
        · cases ‹_ + 1 = _›
          simpa [ih] using h
    · rfl

@[simp] theorem State.planAll_kernel (s : State) :
    (State.planAll s).kernel = s.kernel := by
  simp [State.planAll]

theorem State.enterPlanned_kernel (s : State) (n : Nat) :
    ∀ z, State.enterPlanned s n = some z → z.kernel = s.kernel := by
  unfold State.enterPlanned
  intro z hz
  repeat' first
    | contradiction
    | (cases hz; simp; done)
    | (cases hz; simp [*]; done)
    | split at hz
    | (dsimp only at hz)
    | (simp only [Option.map_eq_some_iff, Option.bind_eq_some_iff, Option.bind_eq_bind, Option.some.injEq] at hz)
    | (obtain ⟨_, _, hz⟩ := hz)

theorem execConvoyBoundary_kernel (bay : Nat) (work : List AttnWork) (s : State) :
    ∀ z, execConvoyBoundary bay work s = .next z → z.kernel = s.kernel := by
  unfold execConvoyBoundary
  intro z hz
  split at hz
  · cases hz; rfl
  · dsimp only at hz
    split at hz
    · cases hz
      cases h : (((s.attention bay work).dropSums bay).advance bay).enterPlanned bay with
      | none => simp
      | some t => simp [State.enterPlanned_kernel _ _ t h]
    · split at hz
      · cases hz
        rename_i h
        simp [State.enterPlanned_kernel _ _ _ h]
      · split at hz <;> cases hz <;> simp
      · cases hz; simp

@[simp] theorem State.count32_kernel (s : State) (bay : Nat) (off : Nat) :
    (State.count32 s bay off).kernel = s.kernel := by
  rfl

@[simp] theorem State.copyKv_kernel (s : State) (r : Req) (kinds : List Nat) :
    (State.copyKv s r kinds).kernel = s.kernel := by
  simp [State.copyKv]

@[simp] theorem State.copyCreations_kernel (s : State) :
    (State.copyCreations s).kernel = s.kernel := by
  simp [State.copyCreations]

@[simp] theorem State.measure_kernel (s : State) (n : Nat) (r : Req) (first : Bool) :
    (State.measure s n r first).1.kernel = s.kernel := by
  simp [State.measure]

@[simp] theorem State.afterDecode_kernel (s : State) (n : Nat) (r : Req) (limit : Nat) (d : Nat) (m : Nat) (kept : Nat) :
    (State.afterDecode s n r limit d m kept).1.kernel = s.kernel := by
  simp [State.afterDecode]

@[simp] theorem State.finishTarget_kernel (s : State) (r : Req) :
    (State.finishTarget s r).kernel = s.kernel := by
  unfold State.finishTarget
  dsimp only
  repeat' first | (simp; done) | split

@[simp] theorem State.commitMember_kernel (s : State) (n : Nat) (b : Bay) (m : Member) (res : CommitResult) (r : Req) :
    (State.commitMember s n b m res r).kernel = s.kernel := by
  unfold State.commitMember
  repeat' first
    | (simp; done)
    | (refine foldl_kernel_to _ _ _ _ ?_ ?_)
    | (refine foldl_proj Prod.fst _ _ _ _ ?_ ?_)
    | (refine foldl_proj Prod.snd _ _ _ _ ?_ ?_)
    | (intro _ _)
    | (dsimp only)
    | split
    | rfl
    | (simp [*]; done)
    | grind [State.kernel, State.launches, Option.map_eq_some_iff, Option.bind_eq_some_iff, State.setReq_kernel, State.afterDecode_kernel, State.count_kernel, State.endReq_kernel, State.copyKv_kernel, State.finishTarget_kernel, State.deliver_kernel, State.countFp_kernel, State.measure_kernel, State.sendRec_kernel]

@[simp] theorem State.commitConvoy_kernel (s : State) (n : Nat) (b : Bay) (c : Convoy) (results : List CommitResult) :
    (State.commitConvoy s n b c results).kernel = s.kernel := by
  unfold State.commitConvoy
  simp only []
  rw [State.kernel_ite, State.kernel_mk, State.kernel_eta, ite_self, State.sendRec_kernel]
  refine foldl_kernel_to _ _ _ _ ?_ ?_
  · intro s x
    split
    · split <;> simp
    · rfl
  · rw [State.copyCreations_kernel, State.sendRec_kernel, State.kernel_ite, State.sendRec_kernel, ite_self, State.modBay_kernel]

theorem execConvoyCommit_kernel (bay : Nat) (results : List CommitResult) (s : State) :
    ∀ z, execConvoyCommit bay results s = .next z → z.kernel = s.kernel := by
  unfold execConvoyCommit
  intro z hz
  repeat' split at hz
  all_goals cases hz; simp

end Sys2Proof.Machine
end

