-- ==== Sys2Proof/Laws/KernelEscort.lean ====
section
/-! SUPPORT. Frame lemmas: the operations and meanings of bales, video, routes, customs and the escort leave the fuses, the command queue and the launches unchanged. -/

namespace Sys2Proof.Machine

@[simp] theorem State.setStaged_kernel (s : State) (handle : Nat) (g : Staged) :
    (State.setStaged s handle g).kernel = s.kernel := by
  rfl

@[simp] theorem loadBaleRun_kernel (h : Hdr) (source : Nat) (tier : Nat) (store : Bool) (index : Nat) (bale : Bale) (c : CmdRef) (s : State) :
    (loadBaleRun h source tier store index bale c s).kernel = s.kernel := by
  unfold loadBaleRun
  dsimp only
  repeat' first | (simp; done) | split

theorem execLoadBale_kernel (h : Hdr) (source : Nat) (tier : Nat) (store : Bool) (libraryIndex : Nat) (bale : Bale) (s : State) :
    ∀ z, execLoadBale h source tier store libraryIndex bale s = .next z → z.kernel = s.kernel := by
  intro z hz; cases hz; simp

@[simp] theorem State.logRejected_kernel (s : State) (tenant : Nat) (b : Bale) :
    (State.logRejected s tenant b).kernel = s.kernel := by
  simp [State.logRejected]

@[simp] theorem State.writeFrames_kernel (s : State) (tenant : Nat) (pages : List Nat) (bytes : List Byte) :
    (State.writeFrames s tenant pages bytes).kernel = s.kernel := by
  induction pages generalizing s tenant bytes with
  | _ => 
    unfold State.writeFrames
    repeat' first
      | (simp; done)
      | (refine foldl_kernel_to _ _ _ _ ?_ ?_)
      | (refine foldl_proj Prod.fst _ _ _ _ ?_ ?_)
      | (refine foldl_proj Prod.snd _ _ _ _ ?_ ?_)
      | (intro _ _)
      | (dsimp only)
      | split
      | rfl
      | (simp [*]; done)

theorem State.stageFrames_kernel (s : State) (tenant : Nat) (tier : Nat) (b : Bale) :
    ∀ z, State.stageFrames s tenant tier b = some z → z.2.kernel = s.kernel := by
  intro z hz
  unfold State.stageFrames at hz
  (try dsimp only at hz)
  repeat' first
    | contradiction
    | (cases hz; first | rfl | (simp; done) | (simp [*]; done))
    | split at hz
    | (simp only [Option.map_eq_some_iff, Option.bind_eq_some_iff] at hz; obtain ⟨_, _, hz⟩ := hz)
    | grind [State.kernel, State.launches, Option.map_eq_some_iff, Option.bind_eq_some_iff, State.writeFrames_kernel, → State.allocFrames_kernel]

theorem State.storeLibrary_kernel (s : State) (tenant : Nat) (b : Bale) :
    ∀ z, State.storeLibrary s tenant b = some z → z.2.kernel = s.kernel := by
  intro z hz
  unfold State.storeLibrary at hz
  (try dsimp only at hz)
  repeat' first
    | contradiction
    | (cases hz; first | rfl | (simp; done) | (simp [*]; done))
    | split at hz
    | (simp only [Option.map_eq_some_iff, Option.bind_eq_some_iff] at hz; obtain ⟨_, _, hz⟩ := hz)

theorem State.loadLibrary_kernel (s : State) (j : LoadJob) :
    ∀ z, State.loadLibrary s j = some z → z.2.kernel = s.kernel := by
  intro z hz
  unfold State.loadLibrary at hz
  repeat' first
    | contradiction
    | (cases hz; first | rfl | (simp; done) | (simp [*]; done))
    | split at hz
    | (simp only [Option.map_eq_some_iff, Option.bind_eq_some_iff] at hz; obtain ⟨_, _, hz⟩ := hz)
    | grind [State.kernel, State.launches, Option.map_eq_some_iff, Option.bind_eq_some_iff, → State.storeLibrary_kernel]

@[simp] theorem State.loadReply_kernel (s : State) (j : LoadJob) (handle : Nat) (library : Option Nat) :
    (State.loadReply s j handle library).kernel = s.kernel := by
  simp [State.loadReply]

@[simp] theorem State.stageLoaded_kernel (s : State) (j : LoadJob) :
    (State.stageLoaded s j).kernel = s.kernel := by
  unfold State.stageLoaded
  repeat' first
    | (simp; done)
    | (refine foldl_kernel_to _ _ _ _ ?_ ?_)
    | (refine foldl_proj Prod.fst _ _ _ _ ?_ ?_)
    | (refine foldl_proj Prod.snd _ _ _ _ ?_ ?_)
    | (intro _ _)
    | (dsimp only)
    | split
    | rfl
    | grind [State.kernel, State.launches, Option.map_eq_some_iff, Option.bind_eq_some_iff, State.reply_kernel, State.freeFrames_kernel, State.setStaged_kernel, → State.stageFrames_kernel, → State.loadLibrary_kernel, State.loadReply_kernel]

@[simp] theorem State.deleteLibrary_kernel (s : State) (handle : Nat) :
    (State.deleteLibrary s handle).kernel = s.kernel := by
  unfold State.deleteLibrary
  split <;> simp

@[simp] theorem State.discardStaging_kernel (s : State) (handle : Nat) :
    (State.discardStaging s handle).kernel = s.kernel := by
  unfold State.discardStaging
  split <;> simp

@[simp] theorem State.applyFlags_kernel (s : State) (handle : Nat) (discard : Bool) (delete : Bool) :
    (State.applyFlags s handle discard delete).kernel = s.kernel := by
  simp [State.applyFlags]

@[simp] theorem State.runDiscard_kernel (s : State) (handle : Nat) (discard : Bool) (delete : Bool) (c : CmdRef) :
    (State.runDiscard s handle discard delete c).kernel = s.kernel := by
  simp [State.runDiscard]

@[simp] theorem unseatBaleDiscardRun_kernel (h : Hdr) (handle : Nat) (discard : Bool) (delete : Bool) (c : CmdRef) (s : State) :
    (unseatBaleDiscardRun h handle discard delete c s).kernel = s.kernel := by
  unfold unseatBaleDiscardRun
  split <;> simp

theorem execUnseatBaleDiscard_kernel (h : Hdr) (handle : Nat) (discard : Bool) (deleteLibrary : Bool) (s : State) :
    ∀ z, execUnseatBaleDiscard h handle discard deleteLibrary s = .next z → z.kernel = s.kernel := by
  intro z hz; cases hz; simp

@[simp] theorem State.finishLoad_kernel (s : State) (j : LoadJob) :
    (State.finishLoad s j).kernel = s.kernel := by
  simp [State.finishLoad]

theorem execLoadBaleCopyDone_kernel (fn : Nat) (ring : Nat) (tag : Nat) (s : State) :
    ∀ z, execLoadBaleCopyDone fn ring tag s = .next z → z.kernel = s.kernel := by
  unfold execLoadBaleCopyDone
  intro z hz
  dsimp only at hz
  repeat' split at hz
  all_goals cases hz; simp

@[simp] theorem State.addJob_kernel (s : State) (n : Nat) (j : SeatJob) :
    (State.addJob s n j).kernel = s.kernel := by
  unfold State.addJob
  split <;> simp

@[simp] theorem seatBaleRun_kernel (h : Hdr) (handle : Nat) (n : Nat) (mode : Nat) (c : CmdRef) (s : State) :
    (seatBaleRun h handle n mode c s).kernel = s.kernel := by
  unfold seatBaleRun
  split <;> simp

theorem execSeatBale_kernel (h : Hdr) (handle : Nat) (bay : Nat) (mode : Nat) (s : State) :
    ∀ z, execSeatBale h handle bay mode s = .next z → z.kernel = s.kernel := by
  intro z hz; cases hz; simp

@[simp] theorem unseatBaleRun_kernel (h : Hdr) (n : Nat) (mode : Nat) (discard : Bool) (delete : Bool) (c : CmdRef) (s : State) :
    (unseatBaleRun h n mode discard delete c s).kernel = s.kernel := by
  unfold unseatBaleRun
  split <;> simp

theorem execUnseatBale_kernel (h : Hdr) (bay : Nat) (mode : Nat) (discard : Bool) (deleteLibrary : Bool) (s : State) :
    ∀ z, execUnseatBale h bay mode discard deleteLibrary s = .next z → z.kernel = s.kernel := by
  intro z hz; cases hz; simp

@[simp] theorem State.recordWriter_kernel (s : State) (b : Bay) (bale : Bale) :
    (State.recordWriter s b bale).kernel = s.kernel := by
  unfold State.recordWriter
  exact foldl_kernel _ _ _ (fun s x => by simp)

@[simp] theorem State.writeBay_kernel (s : State) (b : Bay) (bale : Bale) :
    (State.writeBay s b bale).kernel = s.kernel := by
  unfold State.writeBay
  repeat' first
    | (simp; done)
    | (refine foldl_kernel_to _ _ _ _ ?_ ?_)
    | (refine foldl_proj Prod.fst _ _ _ _ ?_ ?_)
    | (refine foldl_proj Prod.snd _ _ _ _ ?_ ?_)
    | (intro _ _)
    | (dsimp only)
    | split
    | rfl
    | (simp [*]; done)

@[simp] theorem State.probeBay_kernel (s : State) (n : Nat) (first : List (Nat × Nat × Nat)) (second : List (Nat × Nat × Nat)) :
    (State.probeBay s n first second).kernel = s.kernel := by
  simp [State.probeBay]

@[simp] theorem State.wakeRequests_kernel (s : State) (n : Nat) (handle : Nat) :
    (State.wakeRequests s n handle).kernel = s.kernel := by
  simp [State.wakeRequests]

@[simp] theorem State.switchBay_kernel (s : State) (n : Nat) (handle : Nat) (j : SeatJob) (rest : List SeatJob) (bale : Bale) :
    (State.switchBay s n handle j rest bale).kernel = s.kernel := by
  unfold State.switchBay
  dsimp only
  repeat' first | (simp; done) | split

@[simp] theorem State.seatRefused_kernel (s : State) (n : Nat) (status : Nat) (b : Bay) (j : SeatJob) (rest : List SeatJob) :
    (State.seatRefused s n status b j rest).kernel = s.kernel := by
  unfold State.seatRefused
  dsimp only
  repeat' first | (simp; done) | split

theorem execSeatWritesDone_kernel (bay : Nat) (probes : ProbeFails) (s : State) :
    ∀ z, execSeatWritesDone bay probes s = .next z → z.kernel = s.kernel := by
  unfold execSeatWritesDone
  intro z hz
  dsimp only at hz
  repeat' split at hz
  all_goals cases hz; simp

@[simp] theorem State.finishUnseat_kernel (s : State) (j : SeatJob) (seated : Option Nat) :
    (State.finishUnseat s j seated).kernel = s.kernel := by
  unfold State.finishUnseat
  repeat' first
    | (simp; done)
    | (refine foldl_kernel_to _ _ _ _ ?_ ?_)
    | (refine foldl_proj Prod.fst _ _ _ _ ?_ ?_)
    | (refine foldl_proj Prod.snd _ _ _ _ ?_ ?_)
    | (intro _ _)
    | (dsimp only)
    | split
    | rfl
    | (simp [*]; done)

theorem execBayEmptied_kernel (bay : Nat) (s : State) :
    ∀ z, execBayEmptied bay s = .next z → z.kernel = s.kernel := by
  unfold execBayEmptied
  intro z hz
  repeat' split at hz
  all_goals cases hz; simp

theorem execAutoSwap_kernel (bay : Nat) (s : State) :
    ∀ z, execAutoSwap bay s = .next z → z.kernel = s.kernel := by
  unfold execAutoSwap
  intro z hz
  repeat' first
    | contradiction
    | (cases hz; simp; done)
    | (cases hz; simp [*]; done)
    | split at hz
    | (dsimp only at hz)
    | (simp only [Option.map_eq_some_iff, Option.bind_eq_some_iff, Option.bind_eq_bind, Option.some.injEq] at hz)
    | (obtain ⟨_, _, hz⟩ := hz)

@[simp] theorem State.zeroIndices_kernel (s : State) (b : Bay) (slice : Nat) :
    (State.zeroIndices s b slice).kernel = s.kernel := by
  unfold State.zeroIndices
  dsimp only
  split
  · rfl
  · refine foldl_kernel_to _ _ _ _ ?_ rfl
    intro s x
    exact foldl_kernel _ _ _ (fun s y => State.writeTile_kernel ..)

@[simp] theorem State.zeroForeign_kernel (s : State) :
    (State.zeroForeign s).kernel = s.kernel := by
  simp [State.zeroForeign]

@[simp] theorem State.deleteBay_kernel (s : State) (p : BayParams) (c : CmdRef) :
    (State.deleteBay s p c).kernel = s.kernel := by
  unfold State.deleteBay
  split <;> simp

@[simp] theorem defineBayRun_kernel (p : BayParams) (c : CmdRef) (s : State) :
    (defineBayRun p c s).kernel = s.kernel := by
  unfold defineBayRun
  dsimp only
  repeat' first | (simp; done) | split

theorem execDefineBay_kernel (h : Hdr) (p : BayParams) (s : State) :
    ∀ z, execDefineBay h p s = .next z → z.kernel = s.kernel := by
  intro z hz; cases hz; simp

@[simp] theorem State.setVstream_kernel (s : State) (n : Nat) (x : VStream) :
    (State.setVstream s n x).kernel = s.kernel := by
  rfl

@[simp] theorem State.setSession_kernel (s : State) (n : Nat) (x : Session) :
    (State.setSession s n x).kernel = s.kernel := by
  rfl

@[simp] theorem State.countStream_kernel (s : State) (n : Nat) (off : Nat) (k : Nat) :
    (State.countStream s n off k).kernel = s.kernel := by
  simp [State.countStream]

@[simp] theorem openStreamRun_kernel (h : Hdr) (p : StreamParams) (c : CmdRef) (s : State) :
    (openStreamRun h p c s).kernel = s.kernel := by
  unfold openStreamRun
  repeat' first
    | (simp; done)
    | (refine foldl_kernel_to _ _ _ _ ?_ ?_)
    | (refine foldl_proj Prod.fst _ _ _ _ ?_ ?_)
    | (refine foldl_proj Prod.snd _ _ _ _ ?_ ?_)
    | (intro _ _)
    | (dsimp only)
    | split
    | rfl
    | (simp [*]; done)
    | grind [State.kernel, State.launches, Option.map_eq_some_iff, Option.bind_eq_some_iff, → State.allocFrames_kernel, State.setVstream_kernel, State.reply_kernel]

theorem execOpenStream_kernel (h : Hdr) (p : StreamParams) (s : State) :
    ∀ z, execOpenStream h p s = .next z → z.kernel = s.kernel := by
  intro z hz; cases hz; simp

@[simp] theorem State.spanWrite_kernel (s : State) (tenant : Nat) (frames : List Nat) (offset : Nat) (bytes : List Byte) :
    (State.spanWrite s tenant frames offset bytes).kernel = s.kernel := by
  induction frames generalizing s offset bytes with
  | nil => rfl
  | cons p r ih =>
    unfold State.spanWrite
    repeat' first | (simp [ih]; done) | split

@[simp] theorem State.spanRead_kernel (s : State) (frames : List Nat) (offset : Nat) (len : Nat) :
    (State.spanRead s frames offset len).2.kernel = s.kernel := by
  induction frames generalizing s offset len with
  | nil => rfl
  | cons p r ih =>
    unfold State.spanRead
    repeat' first | (simp [ih]; done) | split

@[simp] theorem State.surfaceWrites_kernel (s : State) (x : VStream) (slot : Nat) (l : List (Int × List Byte)) :
    (State.surfaceWrites s x slot l).1.kernel = s.kernel := by
  unfold State.surfaceWrites
  repeat' first
    | (simp; done)
    | (refine foldl_kernel_to _ _ _ _ ?_ ?_)
    | (refine foldl_proj Prod.fst _ _ _ _ ?_ ?_)
    | (refine foldl_proj Prod.snd _ _ _ _ ?_ ?_)
    | (intro _ _)
    | (dsimp only)
    | split
    | rfl
    | (simp [*]; done)

@[simp] theorem State.planeRead_kernel (s : State) (x : VStream) (base : Nat) (pitch : Nat) (n : Nat) (rows : Nat) (bitDepth : Nat) :
    (State.planeRead s x base pitch n rows bitDepth).2.kernel = s.kernel := by
  unfold State.planeRead
  repeat' first
    | (simp; done)
    | (refine foldl_kernel_to _ _ _ _ ?_ ?_)
    | (refine foldl_proj Prod.fst _ _ _ _ ?_ ?_)
    | (refine foldl_proj Prod.snd _ _ _ _ ?_ ?_)
    | (intro _ _)
    | (dsimp only)
    | split
    | rfl
    | (simp [*]; done)

@[simp] theorem State.storedPlanes_kernel (s : State) (x : VStream) (p : StoredPicture) :
    (State.storedPlanes s x p).2.kernel = s.kernel := by
  unfold State.storedPlanes
  dsimp only
  repeat' first | (simp; done) | split

@[simp] theorem State.freeStream_kernel (s : State) (n : Nat) :
    (State.freeStream s n).kernel = s.kernel := by
  unfold State.freeStream
  split <;> simp

@[simp] theorem State.settleStream_kernel (s : State) (n : Nat) :
    (State.settleStream s n).kernel = s.kernel := by
  unfold State.settleStream
  repeat' first | (simp; done) | split

@[simp] theorem closeStreamRun_kernel (h : Hdr) (n : Nat) (c : CmdRef) (s : State) :
    (closeStreamRun h n c s).kernel = s.kernel := by
  unfold closeStreamRun
  split <;> simp

theorem execCloseStream_kernel (h : Hdr) (stream : Nat) (s : State) :
    ∀ z, execCloseStream h stream s = .next z → z.kernel = s.kernel := by
  intro z hz; cases hz; simp

@[simp] theorem State.handOn_kernel (s : State) (n : Nat) (i : Nat) :
    (State.handOn s n i).kernel = s.kernel := by
  unfold State.handOn
  repeat' first | (simp; done) | split

@[simp] theorem State.handComplete_kernel (s : State) (n : Nat) (fuel : Nat) :
    (State.handComplete s n fuel).kernel = s.kernel := by
  induction fuel generalizing s n with
  | _ =>
    unfold State.handComplete
    repeat' first
      | (simp; done)
      | (refine foldl_kernel_to _ _ _ _ ?_ ?_)
      | (refine foldl_proj Prod.fst _ _ _ _ ?_ ?_)
      | (refine foldl_proj Prod.snd _ _ _ _ ?_ ?_)
      | (intro _ _)
      | (dsimp only)
      | split
      | rfl
      | grind [State.kernel, State.launches, Option.map_eq_some_iff, Option.bind_eq_some_iff, State.handOn_kernel]

@[simp] theorem State.reassemble_kernel (s : State) (n : Nat) (x : VStream) (p : RtpPacket) :
    (State.reassemble s n x p).kernel = s.kernel := by
  unfold State.reassemble
  dsimp only
  repeat' first | (simp; done) | split

theorem execRtpPacket_kernel (p : RtpPacket) (s : State) :
    ∀ z, execRtpPacket p s = .next z → z.kernel = s.kernel := by
  unfold execRtpPacket
  intro z hz
  dsimp only at hz
  repeat' split at hz
  all_goals cases hz; simp

theorem execSenderReport_kernel (r : SenderRep) (s : State) :
    ∀ z, execSenderReport r s = .next z → z.kernel = s.kernel := by
  unfold execSenderReport
  intro z hz
  repeat' split at hz
  all_goals cases hz; simp

theorem execAuLaterTimeout_kernel (stream : Nat) (s : State) :
    ∀ z, execAuLaterTimeout stream s = .next z → z.kernel = s.kernel := by
  unfold execAuLaterTimeout
  intro z hz
  repeat' split at hz
  all_goals cases hz; simp

theorem execAuFramePeriodTimeout_kernel (stream : Nat) (s : State) :
    ∀ z, execAuFramePeriodTimeout stream s = .next z → z.kernel = s.kernel := by
  unfold execAuFramePeriodTimeout
  intro z hz
  repeat' split at hz
  all_goals cases hz; simp

@[simp] theorem openEncodeRun_kernel (h : Hdr) (p : EncodeParams) (c : CmdRef) (s : State) :
    (openEncodeRun h p c s).kernel = s.kernel := by
  unfold openEncodeRun
  split <;> simp

theorem execOpenEncode_kernel (h : Hdr) (p : EncodeParams) (s : State) :
    ∀ z, execOpenEncode h p s = .next z → z.kernel = s.kernel := by
  intro z hz; cases hz; simp

@[simp] theorem State.freeSession_kernel (s : State) (n : Nat) :
    (State.freeSession s n).kernel = s.kernel := by
  rfl

@[simp] theorem closeEncodeRun_kernel (h : Hdr) (n : Nat) (c : CmdRef) (s : State) :
    (closeEncodeRun h n c s).kernel = s.kernel := by
  unfold closeEncodeRun
  split <;> simp

theorem execCloseEncode_kernel (h : Hdr) (session : Nat) (s : State) :
    ∀ z, execCloseEncode h session s = .next z → z.kernel = s.kernel := by
  intro z hz; cases hz; simp

@[simp] theorem State.sendUnit_kernel (s : State) (n : Nat) (x : Session) (u : EncodedUnit) :
    (State.sendUnit s n x u).kernel = s.kernel := by
  unfold State.sendUnit
  dsimp only
  repeat' first | (simp; done) | split

@[simp] theorem State.settleSession_kernel (s : State) (n : Nat) :
    (State.settleSession s n).kernel = s.kernel := by
  unfold State.settleSession
  repeat' first | (simp; done) | split

@[simp] theorem State.encodeSlot_kernel (s : State) (n : Nat) (capture : Nat) (flags : Nat) (picture : Option Planes) :
    (State.encodeSlot s n capture flags picture).kernel = s.kernel := by
  rfl

theorem execEncodePicture_kernel (session : Nat) (startQp : Nat) (headerBits : Nat) (blocks : List BlockBits) (s : State) :
    ∀ z, execEncodePicture session startQp headerBits blocks s = .next z → z.kernel = s.kernel := by
  unfold execEncodePicture
  intro z hz
  repeat' split at hz
  all_goals cases hz; simp

@[simp] theorem State.setPipe_kernel (s : State) (n : Nat) (p : Pipe) :
    (State.setPipe s n p).kernel = s.kernel := by
  rfl

theorem execPipeTake_kernel (pipe : Nat) (s : State) :
    ∀ z, execPipeTake pipe s = .next z → z.kernel = s.kernel := by
  unfold execPipeTake
  intro z hz
  dsimp only at hz
  repeat' split at hz
  all_goals cases hz; simp

@[simp] theorem State.routePicture_kernel (s : State) (n : Nat) (id : Nat) (o : Shown) :
    (State.routePicture s n id o).kernel = s.kernel := by
  unfold State.routePicture
  split <;> simp

@[simp] theorem State.outputPicture_kernel (s : State) (n : Nat) (o : Shown) (flagged : List Nat) :
    (State.outputPicture s n o flagged).kernel = s.kernel := by
  unfold State.outputPicture
  split <;> simp

@[simp] theorem State.concealWhole_kernel (s : State) (n : Nat) (u : AccessUnit) :
    (State.concealWhole s n u).kernel = s.kernel := by
  unfold State.concealWhole
  repeat' first | (simp; done) | split

@[simp] theorem State.referencePlanes_kernel (s : State) (x : VStream) :
    (State.referencePlanes s x).2.kernel = s.kernel := by
  unfold State.referencePlanes
  dsimp only
  repeat' first | (simp; done) | split

@[simp] theorem State.decodeUnit_kernel (s : State) (u : AccessUnit) (d : PictureData) (budgetDone : Bool) :
    (State.decodeUnit s u d budgetDone).kernel = s.kernel := by
  unfold State.decodeUnit
  dsimp only
  repeat' first | (simp; done) | split

@[simp] theorem State.freePipe_kernel (s : State) (pipe : Nat) (n : Nat) :
    (State.freePipe s pipe n).kernel = s.kernel := by
  simp [State.freePipe]

theorem execDecodeComplete_kernel (pipe : Nat) (d : PictureData) (s : State) :
    ∀ z, execDecodeComplete pipe d s = .next z → z.kernel = s.kernel := by
  unfold execDecodeComplete
  intro z hz
  repeat' split at hz
  all_goals cases hz; simp

theorem execFrameBudgetExpiry_kernel (e : PipeExpiry) (s : State) :
    ∀ z, execFrameBudgetExpiry e s = .next z → z.kernel = s.kernel := by
  unfold execFrameBudgetExpiry
  intro z hz
  dsimp only at hz
  repeat' split at hz
  all_goals cases hz; simp

@[simp] theorem State.concealUnit_kernel (s : State) (u : AccessUnit) (w : Nat) (h : Nat) (bitDepth : Nat) :
    (State.concealUnit s u w h bitDepth).kernel = s.kernel := by
  unfold State.concealUnit
  split <;> simp

theorem execPipeRestart_kernel (pipe : Nat) (width : Nat) (height : Nat) (bitDepth : Nat) (s : State) :
    ∀ z, execPipeRestart pipe width height bitDepth s = .next z → z.kernel = s.kernel := by
  unfold execPipeRestart
  intro z hz
  repeat' split at hz
  all_goals cases hz; simp

@[simp] theorem State.stallStream_kernel (s : State) (n : Nat) :
    (State.stallStream s n).kernel = s.kernel := by
  unfold State.stallStream
  split <;> simp

theorem execStreamStalled_kernel (stream : Nat) (s : State) :
    ∀ z, execStreamStalled stream s = .next z → z.kernel = s.kernel := by
  unfold execStreamStalled
  intro z hz
  repeat' split at hz
  all_goals cases hz; simp

@[simp] theorem State.tensorOf_kernel (s : State) (x : VStream) (pic : Picture) :
    (State.tensorOf s x pic).2.kernel = s.kernel := by
  unfold State.tensorOf
  dsimp only
  repeat' first | (simp; done) | split

@[simp] theorem State.pruneTensors_kernel (s : State) (n : Nat) :
    (State.pruneTensors s n).kernel = s.kernel := by
  unfold State.pruneTensors
  split <;> simp

@[simp] theorem State.offerBoxes_kernel (s : State) (pic : Picture) (bay : Nat) (boxes : List BoxRec) (route : Nat) :
    (State.offerBoxes s pic bay boxes route).kernel = s.kernel := by
  unfold State.offerBoxes
  split <;> simp

@[simp] theorem State.endDetector_kernel (s : State) (pic : Picture) (bay : Nat) :
    (State.endDetector s pic bay).kernel = s.kernel := by
  simp [State.endDetector]

theorem execDetectorRunDone_kernel (stream : Nat) (picture : Nat) (bay : Nat) (laterFlushed : Nat) (run : DetectorRun) (s : State) :
    ∀ z, execDetectorRunDone stream picture bay laterFlushed run s = .next z → z.kernel = s.kernel := by
  unfold execDetectorRunDone
  intro z hz
  dsimp only at hz
  repeat' split at hz
  all_goals cases hz; simp

@[simp] theorem State.fireNow_kernel (s : State) (f : Firing) :
    (State.fireNow s f).kernel = s.kernel := by
  unfold State.fireNow
  dsimp only
  repeat' first | (simp; done) | split

@[simp] theorem State.embedTile_kernel (s : State) (n : Nat) (b : Bay) (entries : List LayerEntry) (token : Nat) (groups : List InputGroup) :
    (State.embedTile s n b entries token groups).2.kernel = s.kernel := by
  simp [State.embedTile]

@[simp] theorem State.embedPatch_kernel (s : State) (n : Nat) (b : Bay) (bale : Bale) (embed : Nat) (crop : Nat) (patch : Nat) (token : Nat) (blocks : List MxBlock) :
    (State.embedPatch s n b bale embed crop patch token blocks).2.kernel = s.kernel := by
  unfold State.embedPatch
  simp only [State.countFp_kernel]
  exact foldl_proj (fun a : List F32 × State => a.2) _ _ _ s.kernel (fun a x => by simp) rfl

@[simp] theorem State.boxPatches_kernel (s : State) (j : CropJob) :
    (State.boxPatches s j).2.kernel = s.kernel := by
  unfold State.boxPatches
  split
  · rename_i x r _ _
    have h := State.tensorOf_kernel s x j.picture
    generalize s.tensorOf x j.picture = p at h ⊢
    obtain ⟨_ | t, u⟩ := p
    · exact h
    · dsimp only at h ⊢
      refine Eq.trans ?_ h
      split
      · split
        · simp only [State.dropSums_kernel]
          exact foldl_proj (fun a : List (List MxBlock) × State => a.2) _ _ _ u.kernel (fun a x => by simp) rfl
        · rfl
      · rfl
  · rfl

theorem execCropBatchDone_kernel (s : State) :
    ∀ z, execCropBatchDone s = .next z → z.kernel = s.kernel := by
  unfold execCropBatchDone
  intro z hz
  dsimp only at hz
  split at hz
  · cases hz; rfl
  · simp only [Host.Outcome.next.injEq] at hz
    subst hz
    rw [foldl_kernel _ _ _ (fun s x => by simp), foldl_kernel _ _ _ (fun s x => by simp), State.kernel_mk, State.kernel_eta]
    exact foldl_proj (fun a : List BoxPatches × State => a.2) _ _ _ s.kernel (fun a x => by simp) rfl

@[simp] theorem defineRouteRun_kernel (h : Hdr) (p : RouteParams) (c : CmdRef) (s : State) :
    (defineRouteRun h p c s).kernel = s.kernel := by
  unfold defineRouteRun
  split <;> simp

theorem execDefineRoute_kernel (h : Hdr) (p : RouteParams) (s : State) :
    ∀ z, execDefineRoute h p s = .next z → z.kernel = s.kernel := by
  intro z hz; cases hz; simp

@[simp] theorem State.settleRoute_kernel (s : State) (n : Nat) :
    (State.settleRoute s n).kernel = s.kernel := by
  unfold State.settleRoute
  split <;> simp

@[simp] theorem dropRouteRun_kernel (h : Hdr) (n : Nat) (c : CmdRef) (s : State) :
    (dropRouteRun h n c s).kernel = s.kernel := by
  unfold dropRouteRun
  split <;> simp

theorem execDropRoute_kernel (h : Hdr) (route : Nat) (s : State) :
    ∀ z, execDropRoute h route s = .next z → z.kernel = s.kernel := by
  intro z hz; cases hz; simp

theorem execDropRouteDone_kernel (route : Nat) (s : State) :
    ∀ z, execDropRouteDone route s = .next z → z.kernel = s.kernel := by
  intro z hz; cases hz; simp

@[simp] theorem State.setTenant_kernel (s : State) (t : Nat) (x : Tenant) :
    (State.setTenant s t x).kernel = s.kernel := by
  rfl

@[simp] theorem State.setKeySlot_kernel (s : State) (n : Nat) (x : KeySlot) :
    (State.setKeySlot s n x).kernel = s.kernel := by
  rfl

@[simp] theorem State.checkPort_kernel (s : State) :
    (State.checkPort s).kernel = s.kernel := by
  simp [State.checkPort]

@[simp] theorem addTenantRun_kernel (h : Hdr) (t : Nat) (hbmQuota : Nat) (wayQuota : Nat) (point : Nat) (c : CmdRef) (s : State) :
    (addTenantRun h t hbmQuota wayQuota point c s).kernel = s.kernel := by
  unfold addTenantRun
  repeat' first | (simp; done) | split

theorem execAddTenant_kernel (h : Hdr) (tenant : Nat) (hbmQuota : Nat) (wayQuota : Nat) (point : Nat) (s : State) :
    ∀ z, execAddTenant h tenant hbmQuota wayQuota point s = .next z → z.kernel = s.kernel := by
  intro z hz; cases hz; simp

@[simp] theorem State.closeContexts_kernel (s : State) (t : Nat) :
    (State.closeContexts s t).kernel = s.kernel := by
  simp [State.closeContexts]

@[simp] theorem State.dropObjects_kernel (s : State) (t : Nat) :
    (State.dropObjects s t).kernel = s.kernel := by
  simp [State.dropObjects]

@[simp] theorem State.dropLibrary_kernel (s : State) (t : Nat) (keep : Bool) :
    (State.dropLibrary s t keep).kernel = s.kernel := by
  rfl

@[simp] theorem State.dropFlip_kernel (s : State) (t : Nat) :
    (State.dropFlip s t).kernel = s.kernel := by
  simp [State.dropFlip]

@[simp] theorem State.removeTenant_kernel (s : State) (t : Nat) (ref : Option CmdRef) (keep : Bool) :
    (State.removeTenant s t ref keep).kernel = s.kernel := by
  unfold State.removeTenant
  split <;> simp

@[simp] theorem removeTenantRun_kernel (t : Nat) (keep : Bool) (c : CmdRef) (s : State) :
    (removeTenantRun t keep c s).kernel = s.kernel := by
  unfold removeTenantRun
  repeat' first | (simp; done) | split

theorem execRemoveTenant_kernel (h : Hdr) (tenant : Nat) (keepLibrary : Bool) (s : State) :
    ∀ z, execRemoveTenant h tenant keepLibrary s = .next z → z.kernel = s.kernel := by
  intro z hz; cases hz; simp

@[simp] theorem State.passBays_kernel (s : State) (t : Nat) :
    (State.passBays s t).kernel = s.kernel := by
  simp [State.passBays]

@[simp] theorem State.freeTenant_kernel (s : State) (t : Nat) :
    (State.freeTenant s t).kernel = s.kernel := by
  simp [State.freeTenant]

@[simp] theorem State.releaseSlot_kernel (s : State) (n : Nat) :
    (State.releaseSlot s n).kernel = s.kernel := by
  simp [State.releaseSlot]

theorem execSlotQuarantineEnd_kernel (slot : Nat) (lateWrites : Nat) (s : State) :
    ∀ z, execSlotQuarantineEnd slot lateWrites s = .next z → z.kernel = s.kernel := by
  unfold execSlotQuarantineEnd
  intro z hz
  repeat' split at hz
  all_goals cases hz; simp

@[simp] theorem State.badSignature_kernel (s : State) (t : Nat) :
    (State.badSignature s t).kernel = s.kernel := by
  simp [State.badSignature]

@[simp] theorem State.installJob_kernel (s : State) (t : Nat) (gen : Nat) (overlap : Nat) (secret : Nat) (x : Tenant) :
    (State.installJob s t gen overlap secret x).kernel = s.kernel := by
  simp [State.installJob]

@[simp] theorem setJobKeysRun_kernel (h : Hdr) (gen : Nat) (payload : List Byte) (c : CmdRef) (s : State) :
    (setJobKeysRun h gen payload c s).kernel = s.kernel := by
  unfold setJobKeysRun
  repeat' first | (simp; done) | split

theorem execSetJobKeys_kernel (h : Hdr) (jobGen : Nat) (payload : List Byte) (s : State) :
    ∀ z, execSetJobKeys h jobGen payload s = .next z → z.kernel = s.kernel := by
  intro z hz; cases hz; simp

theorem execJobKeyOverlapEnd_kernel (tenant : Nat) (s : State) :
    ∀ z, execJobKeyOverlapEnd tenant s = .next z → z.kernel = s.kernel := by
  unfold execJobKeyOverlapEnd
  intro z hz
  repeat' split at hz
  all_goals cases hz; simp

@[simp] theorem State.applyConsent_kernel (s : State) (t : Nat) (flags : Nat) (counter : Nat) (x : Tenant) :
    (State.applyConsent s t flags counter x).kernel = s.kernel := by
  simp [State.applyConsent]

@[simp] theorem setConsentRun_kernel (h : Hdr) (payload : List Byte) (c : CmdRef) (s : State) :
    (setConsentRun h payload c s).kernel = s.kernel := by
  unfold setConsentRun
  repeat' first | (simp; done) | split

theorem execSetConsent_kernel (h : Hdr) (payload : List Byte) (s : State) :
    ∀ z, execSetConsent h payload s = .next z → z.kernel = s.kernel := by
  intro z hz; cases hz; simp

@[simp] theorem getAttestationRun_kernel (h : Hdr) (payload : List Byte) (c : CmdRef) (s : State) :
    (getAttestationRun h payload c s).kernel = s.kernel := by
  simp [getAttestationRun]

theorem execGetAttestation_kernel (h : Hdr) (payload : List Byte) (s : State) :
    ∀ z, execGetAttestation h payload s = .next z → z.kernel = s.kernel := by
  intro z hz; cases hz; simp

theorem execSpdmRequest_kernel (message : List Byte) (s : State) :
    ∀ z, execSpdmRequest message s = .next z → z.kernel = s.kernel := by
  unfold execSpdmRequest
  intro z hz
  split at hz <;> cases hz <;> simp

@[simp] theorem State.slotFailed_kernel (s : State) (n : Nat) :
    (State.slotFailed s n).kernel = s.kernel := by
  simp [State.slotFailed]

theorem execKeyStoreScan_kernel (_oneCopy : List Nat) (bothCopies : List Nat) (loaderBad : Bool) (loaderNorOk : Bool) (s : State) :
    ∀ z, execKeyStoreScan _oneCopy bothCopies loaderBad loaderNorOk s = .next z → z.kernel = s.kernel := by
  intro z hz; cases hz; simp

@[simp] theorem State.setEpoch_kernel (s : State) (n : Nat) :
    (State.setEpoch s n).kernel = s.kernel := by
  simp [State.setEpoch]

@[simp] theorem State.settleHealth_kernel (s : State) :
    (State.settleHealth s).kernel = s.kernel := by
  simp [State.settleHealth]

@[simp] theorem State.dropReq_kernel (s : State) (r : Req) :
    (State.dropReq s r).kernel = s.kernel := by
  simp [State.dropReq]

@[simp] theorem State.dropCopied_kernel (s : State) :
    (State.dropCopied s).kernel = s.kernel := by
  simp [State.dropCopied]

@[simp] theorem State.detach_kernel (s : State) (reason : Nat) :
    (State.detach s reason).kernel = s.kernel := by
  simp [State.detach]

theorem State.writeLayer_kernel (s : State) (x : KvCopy) (tenant : Nat) (family : Nat) (ctx : Nat) (pages : List (List Nat)) :
    ∀ z, State.writeLayer s x tenant family ctx pages = some z → z.2.kernel = s.kernel := by
  intro z hz
  unfold State.writeLayer at hz
  dsimp only at hz
  split at hz
  · contradiction
  · simp only [Option.map_eq_some_iff] at hz
    obtain ⟨w, hw, rfl⟩ := hz
    have h := State.growTables_kernel _ _ _ _ hw
    have h2 := State.readyFrames_kernel _ _ _ _ _ _ _ _ _ ‹_›
    simp only [] at h h2 ⊢
    rw [h, foldl_kernel, h2]
    intro s x; simp

@[simp] theorem State.consumePrefill_kernel (s : State) (name : Nat) (n : Nat) :
    (State.consumePrefill s name n).kernel = s.kernel := by
  unfold State.consumePrefill
  dsimp only
  repeat' first | (simp; done) | split

theorem State.appendKv_kernel (s : State) (x : KvCopy) :
    ∀ z, State.appendKv s x = some z → z.kernel = s.kernel := by
  intro z hz
  unfold State.appendKv at hz
  (try dsimp only at hz)
  repeat' first
    | contradiction
    | (cases hz; first | rfl | (simp; done) | (simp [*]; done))
    | split at hz
    | (simp only [Option.map_eq_some_iff, Option.bind_eq_some_iff] at hz; obtain ⟨_, _, hz⟩ := hz)
    | grind [State.kernel, State.launches, Option.map_eq_some_iff, Option.bind_eq_some_iff, State.setCtx_kernel, → State.writeLayer_kernel, State.setReq_kernel]

theorem State.addSlot_kernel (s : State) (x : SlotCopy) :
    ∀ z, State.addSlot s x = some z → z.kernel = s.kernel := by
  intro z hz
  unfold State.addSlot at hz
  (try dsimp only at hz)
  repeat' first
    | contradiction
    | (cases hz; first | rfl | (simp; done) | (simp [*]; done))
    | split at hz
    | (simp only [Option.map_eq_some_iff, Option.bind_eq_some_iff] at hz; obtain ⟨_, _, hz⟩ := hz)

theorem State.addEntry_kernel (s : State) (e : LedgerEntry) (numbered : Bool) :
    ∀ z, State.addEntry s e numbered = some z → z.kernel = s.kernel := by
  intro z hz
  unfold State.addEntry at hz
  (try dsimp only at hz)
  repeat' first
    | contradiction
    | (cases hz; first | rfl | (simp; done) | (simp [*]; done))
    | split at hz
    | (simp only [Option.map_eq_some_iff, Option.bind_eq_some_iff] at hz; obtain ⟨_, _, hz⟩ := hz)

theorem State.addTokens_kernel (s : State) (id : Nat) (toks : List Nat) :
    ∀ z, State.addTokens s id toks = some z → z.kernel = s.kernel := by
  intro z hz
  unfold State.addTokens at hz
  repeat' first
    | contradiction
    | (cases hz; first | rfl | (simp; done) | (simp [*]; done))
    | split at hz
    | (simp only [Option.map_eq_some_iff, Option.bind_eq_some_iff] at hz; obtain ⟨_, _, hz⟩ := hz)

theorem State.addDelta_kernel (s : State) (d : ReqDelta) :
    ∀ z, State.addDelta s d = some z → z.kernel = s.kernel := by
  intro z hz
  unfold State.addDelta at hz
  repeat' first
    | contradiction
    | (cases hz; first | rfl | (simp; done) | (simp [*]; done))
    | split at hz
    | (simp only [Option.map_eq_some_iff, Option.bind_eq_some_iff] at hz; obtain ⟨_, _, hz⟩ := hz)

theorem State.applyHeld_kernel (s : State) (r : CopyRec) :
    ∀ z, State.applyHeld s r = some z → z.kernel = s.kernel := by
  intro z hz
  unfold State.applyHeld at hz
  repeat' first
    | contradiction
    | (cases hz; first | rfl | (simp; done) | (simp [*]; done))
    | split at hz
    | (simp only [Option.map_eq_some_iff, Option.bind_eq_some_iff] at hz; obtain ⟨_, _, hz⟩ := hz)
    | grind [State.kernel, State.launches, Option.map_eq_some_iff, Option.bind_eq_some_iff, → State.addEntry_kernel, State.consumePrefill_kernel, → State.appendKv_kernel, → State.addTokens_kernel, → State.addDelta_kernel]

theorem State.addSlots_kernel (s : State) (l : List CopyRec) :
    ∀ z, State.addSlots s l = some z → z.kernel = s.kernel := by
  intro z hz
  refine foldlM_kernel _ l s z ?_ hz
  intro s x z hz
  split at hz
  · split at hz
    · split at hz
      · cases hz; rfl
      · exact State.addSlot_kernel _ _ _ hz
    · cases hz; rfl
  · cases hz; rfl

theorem State.applyConvoy_kernel (s : State) (records : Nat) :
    ∀ z, State.applyConvoy s records = some z → z.kernel = s.kernel := by
  intro z hz
  unfold State.applyConvoy at hz
  dsimp only at hz
  split at hz
  · contradiction
  · simp only [Option.bind_eq_some_iff, Option.map_eq_some_iff] at hz
    obtain ⟨w, hw, y, hy, rfl⟩ := hz
    have h := foldlM_kernel _ _ _ _ (fun s x z h => State.applyHeld_kernel s x z h) hy
    have h2 := State.addSlots_kernel _ _ _ hw
    simp [State.kernel_mk, h, h2]

@[simp] theorem State.bulkStart_kernel (s : State) (tenants : List (Nat × Option Nat × Nat × Nat)) (bays : List Nat) (tb : TimebaseParams) (rule : Nat) (nLink : Nat) (nMgmt : Nat) :
    (State.bulkStart s tenants bays tb rule nLink nMgmt).kernel = s.kernel := by
  unfold State.bulkStart
  repeat' first
    | (simp; done)
    | (refine foldl_kernel_to _ _ _ _ ?_ ?_)
    | (refine foldl_proj Prod.fst _ _ _ _ ?_ ?_)
    | (refine foldl_proj Prod.snd _ _ _ _ ?_ ?_)
    | (intro _ _)
    | (dsimp only)
    | split
    | rfl
    | (simp [*]; done)

theorem State.bulkBale_kernel (s : State) (handle : Nat) (tenant : Nat) (tier : Nat) (b : Bale) :
    ∀ z, State.bulkBale s handle tenant tier b = some z → z.kernel = s.kernel := by
  intro z hz
  unfold State.bulkBale at hz
  (try dsimp only at hz)
  repeat' first
    | contradiction
    | (cases hz; first | rfl | (simp; done) | (simp [*]; done))
    | split at hz
    | (simp only [Option.map_eq_some_iff, Option.bind_eq_some_iff] at hz; obtain ⟨_, _, hz⟩ := hz)
    | grind [State.kernel, State.launches, Option.map_eq_some_iff, Option.bind_eq_some_iff, → State.stageFrames_kernel, State.discardStaging_kernel, State.setStaged_kernel]

theorem State.bulkBay_kernel (s : State) (p : BayParams) (policy : PolicyParams) (seated : Option Nat) :
    ∀ z, State.bulkBay s p policy seated = some z → z.kernel = s.kernel := by
  intro z hz
  unfold State.bulkBay at hz
  (try dsimp only at hz)
  repeat' first
    | contradiction
    | (cases hz; first | rfl | (simp; done) | (simp [*]; done))
    | split at hz
    | (simp only [Option.map_eq_some_iff, Option.bind_eq_some_iff] at hz; obtain ⟨_, _, hz⟩ := hz)

theorem State.bulkContext_kernel (s : State) (x : CtxCopy) :
    ∀ z, State.bulkContext s x = some z → z.kernel = s.kernel := by
  intro z hz
  unfold State.bulkContext at hz
  (try dsimp only at hz)
  repeat' first
    | contradiction
    | (cases hz; first | rfl | (simp; done) | (simp [*]; done))
    | split at hz
    | (simp only [Option.map_eq_some_iff, Option.bind_eq_some_iff] at hz; obtain ⟨_, _, hz⟩ := hz)

@[simp] theorem State.bulkLast_kernel (s : State) (shadow : Option ShadowParams) :
    (State.bulkLast s shadow).kernel = s.kernel := by
  unfold State.bulkLast
  split <;> simp

theorem State.applyBulk_kernel (s : State) (i : BulkItem) :
    ∀ z, State.applyBulk s i = some z → z.kernel = s.kernel := by
  intro z hz
  unfold State.applyBulk at hz
  (try dsimp only at hz)
  repeat' first
    | contradiction
    | (cases hz; first | rfl | (simp; done) | (simp [*]; done))
    | split at hz
    | (simp only [Option.map_eq_some_iff, Option.bind_eq_some_iff] at hz; obtain ⟨_, _, hz⟩ := hz)
    | grind [State.kernel, State.launches, Option.map_eq_some_iff, Option.bind_eq_some_iff, State.setVstream_kernel, State.setSession_kernel, → State.bulkBay_kernel, State.setPair_kernel, State.setTrack_kernel, → State.appendKv_kernel, → State.addEntry_kernel, State.bulkLast_kernel, → State.bulkBale_kernel, State.bulkStart_kernel, State.setStream_kernel, → State.allocFrames_kernel, → State.bulkContext_kernel, → State.addSlot_kernel]

@[simp] theorem State.settleBreakout_kernel (s : State) :
    (State.settleBreakout s).kernel = s.kernel := by
  simp [State.settleBreakout]

@[simp] theorem State.clearSelfFence_kernel (s : State) :
    (State.clearSelfFence s).kernel = s.kernel := by
  simp [State.clearSelfFence]

@[simp] theorem State.fenceByEpoch_kernel (s : State) (seen : Nat) (path : Nat) :
    (State.fenceByEpoch s seen path).kernel = s.kernel := by
  simp [State.fenceByEpoch]

@[simp] theorem State.startLeaving_kernel (s : State) (removal : Bool) (ref : Option CmdRef) :
    (State.startLeaving s removal ref).kernel = s.kernel := by
  rfl

@[simp] theorem State.swapDone_kernel (s : State) (c : CmdRef) (removal : Bool) :
    (State.swapDone s c removal).kernel = s.kernel := by
  simp [State.swapDone]

theorem execPlannedSwapHandover_kernel (s : State) :
    ∀ z, execPlannedSwapHandover s = .next z → z.kernel = s.kernel := by
  unfold execPlannedSwapHandover
  intro z hz
  repeat' split at hz
  all_goals cases hz; simp

@[simp] theorem promoteSwapRun_kernel (c : CmdRef) (s : State) :
    (promoteSwapRun c s).kernel = s.kernel := by
  simp [promoteSwapRun]

theorem execPromoteEscortSwap_kernel (h : Hdr) (s : State) :
    ∀ z, execPromoteEscortSwap h s = .next z → z.kernel = s.kernel := by
  intro z hz; cases hz; simp

@[simp] theorem State.seeEpoch_kernel (s : State) (seen : Nat) (path : Nat) :
    (State.seeEpoch s seen path).kernel = s.kernel := by
  unfold State.seeEpoch
  dsimp only
  repeat' first | (simp; done) | split

@[simp] theorem State.seePartner_kernel (s : State) (role : Nat) (leaving : Bool) :
    (State.seePartner s role leaving).kernel = s.kernel := by
  simp [State.seePartner]

@[simp] theorem State.heartbeat_kernel (s : State) (epoch : Nat) (role : Nat) (path : Nat) (leaving : Bool) :
    (State.heartbeat s epoch role path leaving).kernel = s.kernel := by
  simp [State.heartbeat]

theorem execMgmtHeartbeatReceive_kernel (m : MgmtMsg) (s : State) :
    ∀ z, execMgmtHeartbeatReceive m s = .next z → z.kernel = s.kernel := by
  unfold execMgmtHeartbeatReceive
  intro z hz
  repeat' split at hz
  all_goals cases hz; simp

theorem execMgmtPathLoss_kernel (s : State) :
    ∀ z, execMgmtPathLoss s = .next z → z.kernel = s.kernel := by
  unfold execMgmtPathLoss
  intro z hz
  split at hz <;> cases hz <;> simp

theorem execHeartbeatSend_kernel (s : State) :
    ∀ z, execHeartbeatSend s = .next z → z.kernel = s.kernel := by
  unfold execHeartbeatSend
  intro z hz
  dsimp only at hz
  repeat' split at hz
  all_goals cases hz; simp

theorem execMgmtHeartbeatSend_kernel (s : State) :
    ∀ z, execMgmtHeartbeatSend s = .next z → z.kernel = s.kernel := by
  unfold execMgmtHeartbeatSend
  intro z hz
  split at hz <;> cases hz <;> simp

@[simp] theorem State.pairReply_kernel (s : State) (c : CmdRef) :
    (State.pairReply s c).kernel = s.kernel := by
  simp [State.pairReply]

@[simp] theorem State.sendHello_kernel (s : State) (position : Nat) (random : Nat) :
    (State.sendHello s position random).kernel = s.kernel := by
  simp [State.sendHello]

@[simp] theorem State.helloMismatch_kernel (s : State) (genMax : Nat) (format : Nat) :
    (State.helloMismatch s genMax format).kernel = s.kernel := by
  simp [State.helloMismatch]

@[simp] theorem State.uncoverBays_kernel (s : State) :
    (State.uncoverBays s).kernel = s.kernel := by
  rfl

@[simp] theorem pairRun_kernel (joiner : Bool) (partnerSlot : Nat) (partnerSerial : Nat) (epochFloor : Nat) (partnerEpoch : Nat) (partnerHello : PairHello) (trained : Bool) (spdmOk : Bool) (partnerAsksActive : Bool) (c : CmdRef) (s : State) :
    (pairRun joiner partnerSlot partnerSerial epochFloor partnerEpoch partnerHello trained spdmOk partnerAsksActive c s).kernel = s.kernel := by
  unfold pairRun
  dsimp only
  repeat' first | (simp; done) | split

theorem execPairEscortPair_kernel (h : Hdr) (joiner : Bool) (partnerSlot : Nat) (partnerSerial : Nat) (epochFloor : Nat) (partnerEpoch : Nat) (partnerHello : PairHello) (trained : Bool) (spdmOk : Bool) (partnerAsksActive : Bool) (s : State) :
    ∀ z, execPairEscortPair h joiner partnerSlot partnerSerial epochFloor partnerEpoch partnerHello trained spdmOk partnerAsksActive s = .next z → z.kernel = s.kernel := by
  intro z hz; cases hz; simp

@[simp] theorem unpairRun_kernel (c : CmdRef) (s : State) :
    (unpairRun c s).kernel = s.kernel := by
  simp [unpairRun]

theorem execPairEscortUnpair_kernel (h : Hdr) (s : State) :
    ∀ z, execPairEscortUnpair h s = .next z → z.kernel = s.kernel := by
  intro z hz; cases hz; simp

@[simp] theorem setDeadRuleRun_kernel (rule : Nat) (nLink : Nat) (nMgmt : Nat) (c : CmdRef) (s : State) :
    (setDeadRuleRun rule nLink nMgmt c s).kernel = s.kernel := by
  simp [setDeadRuleRun]

theorem execSetDeadRule_kernel (h : Hdr) (rule : Nat) (nLink : Nat) (nMgmt : Nat) (s : State) :
    ∀ z, execSetDeadRule h rule nLink nMgmt s = .next z → z.kernel = s.kernel := by
  intro z hz; cases hz; simp

@[simp] theorem State.renumber_kernel (s : State) :
    (State.renumber s).kernel = s.kernel := by
  rfl

@[simp] theorem State.linkTrained_kernel (s : State) (random : Nat) :
    (State.linkTrained s random).kernel = s.kernel := by
  simp [State.linkTrained]

theorem execEscortLinkUp_kernel (partnerSerial : Nat) (partnerGenMax : Nat) (partnerGenMin : Nat) (partnerFormat : Nat) (partnerRandom : Nat) (s : State) :
    ∀ z, execEscortLinkUp partnerSerial partnerGenMax partnerGenMin partnerFormat partnerRandom s = .next z → z.kernel = s.kernel := by
  unfold execEscortLinkUp
  intro z hz
  dsimp only at hz
  repeat' split at hz
  all_goals cases hz; simp

@[simp] theorem State.linkLost_kernel (s : State) :
    (State.linkLost s).kernel = s.kernel := by
  simp [State.linkLost]

theorem execEscortLinkDown_kernel (s : State) :
    ∀ z, execEscortLinkDown s = .next z → z.kernel = s.kernel := by
  intro z hz; cases hz; simp

theorem execLinkHalf_kernel (port : Nat) (s : State) :
    ∀ z, execLinkHalf port s = .next z → z.kernel = s.kernel := by
  unfold execLinkHalf
  intro z hz
  repeat' split at hz
  all_goals cases hz; simp

theorem execCablePlugEvent_kernel (port : Nat) (lanes : Nat) (laneMbps : Nat) (present : Bool) (s : State) :
    ∀ z, execCablePlugEvent port lanes laneMbps present s = .next z → z.kernel = s.kernel := by
  unfold execCablePlugEvent
  intro z hz
  split at hz <;> cases hz <;> simp

@[simp] theorem State.coverUpTo_kernel (s : State) (ack : Nat) :
    (State.coverUpTo s ack).kernel = s.kernel := by
  simp [State.coverUpTo]

@[simp] theorem State.replyAcked_kernel (s : State) (c : CmdRef) (r0 : Nat) (counted : Bool) (reports : List Nat) :
    (State.replyAcked s c r0 counted reports).1.kernel = s.kernel := by
  unfold State.replyAcked
  dsimp only
  repeat' first | (simp; done) | split

@[simp] theorem State.takeAck_kernel (s : State) (ack : Nat) (reports : List Nat) :
    (State.takeAck s ack reports).kernel = s.kernel := by
  unfold State.takeAck
  repeat' first
    | (simp; done)
    | (refine foldl_kernel_to _ _ _ _ ?_ ?_)
    | (refine foldl_proj Prod.fst _ _ _ _ ?_ ?_)
    | (refine foldl_proj Prod.snd _ _ _ _ ?_ ?_)
    | (intro _ _)
    | (dsimp only)
    | split
    | rfl
    | (simp [*]; done)

@[simp] theorem State.resend_kernel (s : State) (first : Nat) (count : Nat) :
    (State.resend s first count).kernel = s.kernel := by
  simp [State.resend]

@[simp] theorem State.applyRevoke_kernel (s : State) (t : Nat) :
    (State.applyRevoke s t).kernel = s.kernel := by
  simp [State.applyRevoke]

@[simp] theorem State.applyCancel_kernel (s : State) (id : Nat) (withRecall : Bool) :
    (State.applyCancel s id withRecall).kernel = s.kernel := by
  unfold State.applyCancel
  split <;> simp

@[simp] theorem State.holdRecord_kernel (s : State) (r : CopyRec) :
    (State.holdRecord s r).kernel = s.kernel := by
  simp [State.holdRecord]

@[simp] theorem State.applyRecord_kernel (s : State) (r : CopyRec) :
    (State.applyRecord s r).kernel = s.kernel := by
  unfold State.applyRecord
  repeat' first
    | (simp; done)
    | (refine foldl_kernel_to _ _ _ _ ?_ ?_)
    | (refine foldl_proj Prod.fst _ _ _ _ ?_ ?_)
    | (refine foldl_proj Prod.snd _ _ _ _ ?_ ?_)
    | (intro _ _)
    | (dsimp only)
    | split
    | rfl
    | (simp [*]; done)
    | grind [State.kernel, State.launches, Option.map_eq_some_iff, Option.bind_eq_some_iff, State.detach_kernel, State.applyRevoke_kernel, State.endEntry_kernel, → State.applyConvoy_kernel, State.resend_kernel, → State.applyBulk_kernel, State.applyCancel_kernel, State.count_kernel, State.heartbeat_kernel, State.holdRecord_kernel]

@[simp] theorem State.sendAck_kernel (s : State) :
    (State.sendAck s).kernel = s.kernel := by
  simp [State.sendAck]

@[simp] theorem State.applyCell_kernel (s : State) (c : Cell) :
    (State.applyCell s c).kernel = s.kernel := by
  simp [State.applyCell]

@[simp] theorem State.refuseStaged_kernel (s : State) (seq : Nat) :
    (State.refuseStaged s seq).kernel = s.kernel := by
  simp [State.refuseStaged]

theorem execEscortCellReceive_kernel (c : Cell) (s : State) :
    ∀ z, execEscortCellReceive c s = .next z → z.kernel = s.kernel := by
  unfold execEscortCellReceive
  intro z hz
  dsimp only at hz
  repeat' split at hz
  all_goals cases hz; simp

@[simp] theorem State.takeOver_kernel (s : State) :
    (State.takeOver s).kernel = s.kernel := by
  simp [State.takeOver]

theorem execDeadDeclaration_kernel (s : State) :
    ∀ z, execDeadDeclaration s = .next z → z.kernel = s.kernel := by
  unfold execDeadDeclaration
  intro z hz
  repeat' split at hz
  all_goals cases hz; simp

theorem execSelfFence_kernel (s : State) :
    ∀ z, execSelfFence s = .next z → z.kernel = s.kernel := by
  unfold execSelfFence
  intro z hz
  dsimp only at hz
  repeat' split at hz
  all_goals cases hz; simp

@[simp] theorem beginShadowRun_kernel (p : ShadowParams) (c : CmdRef) (s : State) :
    (beginShadowRun p c s).kernel = s.kernel := by
  simp [beginShadowRun]

theorem execBeginShadow_kernel (h : Hdr) (p : ShadowParams) (s : State) :
    ∀ z, execBeginShadow h p s = .next z → z.kernel = s.kernel := by
  intro z hz; cases hz; simp

theorem execBulkTransferEnd_kernel (s : State) :
    ∀ z, execBulkTransferEnd s = .next z → z.kernel = s.kernel := by
  unfold execBulkTransferEnd
  intro z hz
  dsimp only at hz
  repeat' split at hz
  all_goals cases hz; simp

theorem execShadowWindowEnd_kernel (agree : Nat) (compared : Nat) (convoys : Nat) (distance : F32) (s : State) :
    ∀ z, execShadowWindowEnd agree compared convoys distance s = .next z → z.kernel = s.kernel := by
  unfold execShadowWindowEnd
  intro z hz
  repeat' split at hz
  all_goals cases hz; simp

@[simp] theorem promoteAdmitRun_kernel (c : CmdRef) (s : State) :
    (promoteAdmitRun c s).kernel = s.kernel := by
  unfold promoteAdmitRun
  repeat' first | (simp; done) | split

theorem execPromoteEscortAdmit_kernel (h : Hdr) (s : State) :
    ∀ z, execPromoteEscortAdmit h s = .next z → z.kernel = s.kernel := by
  intro z hz; cases hz; simp

end Sys2Proof.Machine
end

