-- ==== Sys2Proof/Laws/KernelHost.lean ====
section
/-! SUPPORT. Frame lemmas: the operations and meanings of power, firmware, fences, the host rings and the registers leave the fuses, the command queue and the launches unchanged. -/

namespace Sys2Proof.Machine

@[simp] theorem State.limitsChanged_kernel (s : State) (old : Nat) :
    (State.limitsChanged s old).kernel = s.kernel := by
  simp [State.limitsChanged]

@[simp] theorem setPowerLimitsRun_kernel (cap : Nat) (rampUp : Nat) (rampDown : Nat) (c : CmdRef) (s : State) :
    (setPowerLimitsRun cap rampUp rampDown c s).kernel = s.kernel := by
  simp [setPowerLimitsRun]

theorem execSetPowerLimits_kernel (h : Hdr) (cap : Nat) (rampUp : Nat) (rampDown : Nat) (s : State) :
    ∀ z, execSetPowerLimits h cap rampUp rampDown s = .next z → z.kernel = s.kernel := by
  intro z hz; cases hz; simp

theorem execPldmEffecterSet_kernel (effecter : Nat) (value : Nat) (s : State) :
    ∀ z, execPldmEffecterSet effecter value s = .next z → z.kernel = s.kernel := by
  unfold execPldmEffecterSet
  intro z hz
  dsimp only at hz
  repeat' split at hz
  all_goals cases hz; simp

@[simp] theorem State.readSlot_kernel (s : State) (r : IdRecord) :
    (State.readSlot s r).kernel = s.kernel := by
  simp [State.readSlot]

@[simp] theorem State.readBreakout_kernel (s : State) (r : IdRecord) :
    (State.readBreakout s r).kernel = s.kernel := by
  simp [State.readBreakout]

theorem execBreakout_kernel (r : IdRecord) (s : State) :
    ∀ z, execBreakout r s = .next z → z.kernel = s.kernel := by
  intro z hz; cases hz; simp

theorem execPresenceMate_kernel (slot : IdRecord) (breakout : IdRecord) (s : State) :
    ∀ z, execPresenceMate slot breakout s = .next z → z.kernel = s.kernel := by
  unfold execPresenceMate
  intro z hz
  split at hz <;> cases hz <;> simp

theorem execSlotRecordRetry_kernel (slot : IdRecord) (s : State) :
    ∀ z, execSlotRecordRetry slot s = .next z → z.kernel = s.kernel := by
  unfold execSlotRecordRetry
  intro z hz
  split at hz <;> cases hz <;> simp

@[simp] theorem State.loseVolatile_kernel (s : State) :
    (State.loseVolatile s).kernel = s.kernel := by
  rfl

@[simp] theorem State.powerReset_kernel (s : State) :
    (State.powerReset s).kernel = s.kernel := by
  simp [State.powerReset]

@[simp] theorem State.railsOff_kernel (s : State) :
    (State.railsOff s).kernel = s.kernel := by
  simp [State.railsOff]

theorem execStartRailsEnable_kernel (s : State) :
    ∀ z, execStartRailsEnable s = .next z → z.kernel = s.kernel := by
  intro z hz
  unfold execStartRailsEnable at hz
  (try dsimp only at hz)
  repeat' first
    | contradiction
    | (cases hz; first | rfl | (simp; done) | (simp [*]; done))
    | split at hz
    | (simp only [Option.map_eq_some_iff, Option.bind_eq_some_iff] at hz; obtain ⟨_, _, hz⟩ := hz)
    | grind [State.kernel, State.launches, Option.map_eq_some_iff, Option.bind_eq_some_iff]

theorem execPresenceBreak_kernel (s : State) :
    ∀ z, execPresenceBreak s = .next z → z.kernel = s.kernel := by
  unfold execPresenceBreak
  intro z hz
  split at hz <;> cases hz <;> simp

theorem execResetRelease_kernel (s : State) :
    ∀ z, execResetRelease s = .next z → z.kernel = s.kernel := by
  intro z hz; cases hz; simp

theorem execResetAssert_kernel (s : State) :
    ∀ z, execResetAssert s = .next z → z.kernel = s.kernel := by
  intro z hz; cases hz; simp

theorem execOverVoltageSet_kernel (s : State) :
    ∀ z, execOverVoltageSet s = .next z → z.kernel = s.kernel := by
  intro z hz; cases hz; simp

theorem execOverVoltageClear_kernel (s : State) :
    ∀ z, execOverVoltageClear s = .next z → z.kernel = s.kernel := by
  intro z hz; cases hz; simp

@[simp] theorem State.setPower_kernel (s : State) (p : Power) :
    (State.setPower s p).kernel = s.kernel := by
  rfl

theorem execSupplyDip_kernel (millivolts : Nat) (s : State) :
    ∀ z, execSupplyDip millivolts s = .next z → z.kernel = s.kernel := by
  unfold execSupplyDip
  intro z hz
  split at hz <;> cases hz <;> simp

theorem execDipClear_kernel (millivolts : Nat) (s : State) :
    ∀ z, execDipClear millivolts s = .next z → z.kernel = s.kernel := by
  unfold execDipClear
  intro z hz
  split at hz <;> cases hz <;> simp

theorem execPowerSample_kernel (watts : Nat) (tenMilliamps : Nat) (volts : SupplyVolts) (s : State) :
    ∀ z, execPowerSample watts tenMilliamps volts s = .next z → z.kernel = s.kernel := by
  unfold execPowerSample
  intro z hz
  dsimp only at hz
  repeat' split at hz
  all_goals cases hz; simp

@[simp] theorem State.leavingFence_kernel (s : State) (l : Leaving) :
    (State.leavingFence s l).kernel = s.kernel := by
  simp [State.leavingFence]

theorem execLeavingCopyCovered_kernel (s : State) :
    ∀ z, execLeavingCopyCovered s = .next z → z.kernel = s.kernel := by
  unfold execLeavingCopyCovered
  intro z hz
  split at hz <;> cases hz <;> simp

theorem execRemovalReady_kernel (s : State) :
    ∀ z, execRemovalReady s = .next z → z.kernel = s.kernel := by
  unfold execRemovalReady
  intro z hz
  repeat' split at hz
  all_goals cases hz; simp

@[simp] theorem State.endLeaving_kernel (s : State) (l : Leaving) :
    (State.endLeaving s l).kernel = s.kernel := by
  simp [State.endLeaving]

@[simp] theorem State.abortLeaving_kernel (s : State) (l : Leaving) :
    (State.abortLeaving s l).kernel = s.kernel := by
  unfold State.abortLeaving
  split <;> simp

@[simp] theorem prepareRemovalRun_kernel (force : Bool) (c : CmdRef) (s : State) :
    (prepareRemovalRun force c s).kernel = s.kernel := by
  unfold prepareRemovalRun
  split <;> simp

theorem execPrepareRemoval_kernel (h : Hdr) (force : Bool) (s : State) :
    ∀ z, execPrepareRemoval h force s = .next z → z.kernel = s.kernel := by
  intro z hz; cases hz; simp

@[simp] theorem prepareRemovalAbortRun_kernel (c : CmdRef) (s : State) :
    (prepareRemovalAbortRun c s).kernel = s.kernel := by
  unfold prepareRemovalAbortRun
  split <;> simp

theorem execPrepareRemovalAbort_kernel (h : Hdr) (s : State) :
    ∀ z, execPrepareRemovalAbort h s = .next z → z.kernel = s.kernel := by
  intro z hz; cases hz; simp

@[simp] theorem State.latchOpened_kernel (s : State) :
    (State.latchOpened s).kernel = s.kernel := by
  simp [State.latchOpened]

theorem execPullNotice_kernel (s : State) :
    ∀ z, execPullNotice s = .next z → z.kernel = s.kernel := by
  unfold execPullNotice
  intro z hz
  dsimp only at hz
  repeat' split at hz
  all_goals cases hz; simp

theorem execLatchClose_kernel (s : State) :
    ∀ z, execLatchClose s = .next z → z.kernel = s.kernel := by
  unfold execLatchClose
  intro z hz
  dsimp only at hz
  repeat' split at hz
  all_goals cases hz; simp

@[simp] theorem State.reportRung_kernel (s : State) (rung : Nat) (set : Bool) :
    (State.reportRung s rung set).kernel = s.kernel := by
  simp [State.reportRung]

@[simp] theorem State.trip_kernel (s : State) :
    (State.trip s).kernel = s.kernel := by
  simp [State.trip]

@[simp] theorem State.setRung_kernel (s : State) (rung : Nat) :
    (State.setRung s rung).kernel = s.kernel := by
  unfold State.setRung
  dsimp only
  repeat' first | (simp; done) | split

@[simp] theorem State.clearRung_kernel (s : State) (rung : Nat) :
    (State.clearRung s rung).kernel = s.kernel := by
  unfold State.clearRung
  dsimp only
  repeat' first | (simp; done) | split

theorem execLadder_kernel (rung : Nat) (s : State) :
    ∀ z, execLadder rung s = .next z → z.kernel = s.kernel := by
  unfold execLadder
  intro z hz
  dsimp only at hz
  repeat' split at hz
  all_goals cases hz; simp

theorem execThermalSample_kernel (inlet : Int) (outlet : Int) (junction : Int) (flow : Nat) (s : State) :
    ∀ z, execThermalSample inlet outlet junction flow s = .next z → z.kernel = s.kernel := by
  intro z hz; cases hz; simp

@[simp] theorem State.freeStaged_kernel (s : State) (part : Nat) :
    (State.freeStaged s part).kernel = s.kernel := by
  simp [State.freeStaged]

@[simp] theorem stagePartRun_kernel (h : Hdr) (part : Nat) (p : StagedPayload) (c : CmdRef) (s : State) :
    (stagePartRun h part p c s).kernel = s.kernel := by
  unfold stagePartRun
  repeat' first
    | (simp; done)
    | (refine foldl_kernel_to _ _ _ _ ?_ ?_)
    | (refine foldl_proj Prod.fst _ _ _ _ ?_ ?_)
    | (refine foldl_proj Prod.snd _ _ _ _ ?_ ?_)
    | (intro _ _)
    | (dsimp only)
    | split
    | rfl
    | (simp [*]; done)
    | grind [State.kernel, State.launches, Option.map_eq_some_iff, Option.bind_eq_some_iff, → State.allocFrames_kernel, State.freeStaged_kernel, State.reply_kernel]

theorem execStagePart_kernel (h : Hdr) (partId : Nat) (p : StagedPayload) (s : State) :
    ∀ z, execStagePart h partId p s = .next z → z.kernel = s.kernel := by
  intro z hz; cases hz; simp

@[simp] theorem stagePartDiscardRun_kernel (part : Nat) (c : CmdRef) (s : State) :
    (stagePartDiscardRun part c s).kernel = s.kernel := by
  simp [stagePartDiscardRun]

theorem execStagePartDiscard_kernel (h : Hdr) (partId : Nat) (s : State) :
    ∀ z, execStagePartDiscard h partId s = .next z → z.kernel = s.kernel := by
  intro z hz; cases hz; simp

@[simp] theorem State.recoverFromHost_kernel (s : State) :
    (State.recoverFromHost s).kernel = s.kernel := by
  rfl

theorem execRecoveryPartnerTimeout_kernel (s : State) :
    ∀ z, execRecoveryPartnerTimeout s = .next z → z.kernel = s.kernel := by
  intro z hz; cases hz; simp

@[simp] theorem State.restartProcessor_kernel (s : State) (part : Nat) (processor : Nat) (poisonedRam : Bool) :
    (State.restartProcessor s part processor poisonedRam).kernel = s.kernel := by
  simp [State.restartProcessor]

@[simp] theorem State.restartFromNor_kernel (s : State) (keys : List Nat) :
    (State.restartFromNor s keys).kernel = s.kernel := by
  simp [State.restartFromNor]

@[simp] theorem State.keepImage_kernel (s : State) (part : Nat) :
    (State.keepImage s part).kernel = s.kernel := by
  unfold State.keepImage
  repeat' first
    | (simp; done)
    | (refine foldl_kernel_to _ _ _ _ ?_ ?_)
    | (refine foldl_proj Prod.fst _ _ _ _ ?_ ?_)
    | (refine foldl_proj Prod.snd _ _ _ _ ?_ ?_)
    | (intro _ _)
    | (dsimp only)
    | split
    | rfl
    | grind [State.kernel, State.launches, Option.map_eq_some_iff, Option.bind_eq_some_iff, → State.allocFrames_kernel]

@[simp] theorem State.freeKept_kernel (s : State) :
    (State.freeKept s).kernel = s.kernel := by
  simp [State.freeKept]

@[simp] theorem State.commitParts_kernel (s : State) (c : CmdRef) (m : Manifest) (parts : Nat) (ns : Nat) :
    (State.commitParts s c m parts ns).kernel = s.kernel := by
  rfl

@[simp] theorem State.restoreParts_kernel (s : State) (c : CmdRef) (m : Manifest) (part : Nat) (reason : Nat) (ns : Nat) :
    (State.restoreParts s c m part reason ns).kernel = s.kernel := by
  simp [State.restoreParts]

@[simp] theorem State.activate_kernel (s : State) (c : CmdRef) (m : Manifest) (windows : List (Nat × PartWindow)) (unrestored : List Nat) :
    (State.activate s c m windows unrestored).kernel = s.kernel := by
  unfold State.activate
  dsimp only
  repeat' first | (simp; done) | split

theorem execNorWriteDone_kernel (s : State) :
    ∀ z, execNorWriteDone s = .next z → z.kernel = s.kernel := by
  unfold execNorWriteDone
  intro z hz
  split at hz <;> cases hz <;> simp

theorem execCoreMicrocodeHandover_kernel (core : Nat) (s : State) :
    ∀ z, execCoreMicrocodeHandover core s = .next z → z.kernel = s.kernel := by
  unfold execCoreMicrocodeHandover
  intro z hz
  dsimp only at hz
  repeat' split at hz
  all_goals cases hz; simp

theorem execWatchdogBite_kernel (part : Nat) (processor : Nat) (poisonedRam : Bool) (s : State) :
    ∀ z, execWatchdogBite part processor poisonedRam s = .next z → z.kernel = s.kernel := by
  unfold execWatchdogBite
  intro z hz
  split at hz <;> cases hz <;> simp

theorem execWatchdogRestartDone_kernel (part : Nat) (processor : Nat) (s : State) :
    ∀ z, execWatchdogRestartDone part processor s = .next z → z.kernel = s.kernel := by
  unfold execWatchdogRestartDone
  intro z hz
  split at hz <;> cases hz <;> simp

@[simp] theorem getFwStateRun_kernel (h : Hdr) (c : CmdRef) (s : State) :
    (getFwStateRun h c s).kernel = s.kernel := by
  simp [getFwStateRun]

theorem execGetFwState_kernel (h : Hdr) (s : State) :
    ∀ z, execGetFwState h s = .next z → z.kernel = s.kernel := by
  intro z hz; cases hz; simp

@[simp] theorem State.fenceVideo_kernel (s : State) :
    (State.fenceVideo s).kernel = s.kernel := by
  simp [State.fenceVideo]

@[simp] theorem State.fenceRequester_kernel (s : State) (r : Nat) :
    (State.fenceRequester s r).kernel = s.kernel := by
  unfold State.fenceRequester
  repeat' first | (simp; done) | split

theorem execTollWatchdogFence_kernel (toll : Nat) (cycles : Nat) (s : State) :
    ∀ z, execTollWatchdogFence toll cycles s = .next z → z.kernel = s.kernel := by
  unfold execTollWatchdogFence
  intro z hz
  dsimp only at hz
  repeat' split at hz
  all_goals cases hz; simp

@[simp] theorem State.failPacket_kernel (s : State) (h : Hdr) (op : Nat) (status : Nat) (crc : Bool) (dup : Bool) :
    (State.failPacket s h op status crc dup).kernel = s.kernel := by
  simp [State.failPacket]

@[simp] theorem State.takePacket_kernel (s : State) (fn : Nat) (ring : Nat) (b : List Byte) :
    (State.takePacket s fn ring b).kernel = s.kernel := by
  unfold State.takePacket
  dsimp only
  repeat' first | (simp; done) | split

@[simp] theorem State.fetchOne_kernel (s : State) (fn : Nat) (ring : Nat) :
    (State.fetchOne s fn ring).kernel = s.kernel := by
  unfold State.fetchOne
  dsimp only
  repeat' first | (simp; done) | split

@[simp] theorem State.fetchRing_kernel (s : State) (fn : Nat) (ring : Nat) (fuel : Nat) :
    (State.fetchRing s fn ring fuel).kernel = s.kernel := by
  induction fuel generalizing s fn ring with
  | _ => 
    unfold State.fetchRing
    repeat' first
      | (simp; done)
      | (refine foldl_kernel_to _ _ _ _ ?_ ?_)
      | (refine foldl_proj Prod.fst _ _ _ _ ?_ ?_)
      | (refine foldl_proj Prod.snd _ _ _ _ ?_ ?_)
      | (intro _ _)
      | (dsimp only)
      | split
      | rfl
      | (simp [*]; done)

@[simp] theorem State.fetchAll_kernel (s : State) :
    (State.fetchAll s).kernel = s.kernel := by
  simp [State.fetchAll]

@[simp] theorem State.tick_kernel (s : State) :
    (State.tick s).kernel = s.kernel := by
  simp [State.tick]

@[simp] theorem State.doorbell_kernel (s : State) (fn : Nat) (ring : Nat) (tail : Nat) (packets : List (List Byte)) (failAddr : Option Nat) :
    (State.doorbell s fn ring tail packets failAddr).kernel = s.kernel := by
  simp [State.doorbell]

theorem execDoorbell_kernel (fn : Nat) (ring : Nat) (tail : Nat) (packets : List (List Byte)) (failAddr : Option Nat) (s : State) :
    ∀ z, execDoorbell fn ring tail packets failAddr s = .next z → z.kernel = s.kernel := by
  intro z hz; cases hz; simp

@[simp] theorem State.setReplyHead_kernel (s : State) (fn : Nat) (ring : Nat) (head : Nat) :
    (State.setReplyHead s fn ring head).kernel = s.kernel := by
  simp [State.setReplyHead]

theorem execReplyRingHeadWrite_kernel (fn : Nat) (ring : Nat) (head : Nat) (s : State) :
    ∀ z, execReplyRingHeadWrite fn ring head s = .next z → z.kernel = s.kernel := by
  intro z hz; cases hz; simp

@[simp] theorem State.enableRing_kernel (s : State) (fn : Nat) (ring : Nat) :
    (State.enableRing s fn ring).kernel = s.kernel := by
  simp [State.enableRing]

theorem execRingEnableSet_kernel (fn : Nat) (ring : Nat) (s : State) :
    ∀ z, execRingEnableSet fn ring s = .next z → z.kernel = s.kernel := by
  intro z hz; cases hz; simp

@[simp] theorem State.disableRing_kernel (s : State) (fn : Nat) (ring : Nat) :
    (State.disableRing s fn ring).kernel = s.kernel := by
  simp [State.disableRing]

theorem execRingEnableClear_kernel (fn : Nat) (ring : Nat) (s : State) :
    ∀ z, execRingEnableClear fn ring s = .next z → z.kernel = s.kernel := by
  intro z hz; cases hz; simp

theorem execCoalesceTimeout_kernel (fn : Nat) (ring : Nat) (s : State) :
    ∀ z, execCoalesceTimeout fn ring s = .next z → z.kernel = s.kernel := by
  unfold execCoalesceTimeout
  intro z hz
  dsimp only at hz
  repeat' split at hz
  all_goals cases hz; simp

@[simp] theorem State.enableEvq_kernel (s : State) (fn : Nat) :
    (State.enableEvq s fn).kernel = s.kernel := by
  simp [State.enableEvq]

theorem execEvqEnableSet_kernel (fn : Nat) (s : State) :
    ∀ z, execEvqEnableSet fn s = .next z → z.kernel = s.kernel := by
  intro z hz; cases hz; simp

@[simp] theorem State.setEvqHead_kernel (s : State) (fn : Nat) (head : Nat) :
    (State.setEvqHead s fn head).kernel = s.kernel := by
  simp [State.setEvqHead]

theorem execEvqHeadWrite_kernel (fn : Nat) (head : Nat) (s : State) :
    ∀ z, execEvqHeadWrite fn head s = .next z → z.kernel = s.kernel := by
  intro z hz; cases hz; simp

@[simp] theorem State.cancelUntargeted_kernel (s : State) (tenant : Nat) :
    (State.cancelUntargeted s tenant).kernel = s.kernel := by
  simp [State.cancelUntargeted]

@[simp] theorem State.resetFunction_kernel (s : State) (fn : Nat) (stays : Bool) :
    (State.resetFunction s fn stays).kernel = s.kernel := by
  simp [State.resetFunction]

@[simp] theorem State.removeVfs_kernel (s : State) (above : Nat) :
    (State.removeVfs s above).kernel = s.kernel := by
  simp [State.removeVfs]

theorem execFlr_kernel (fn : Nat) (s : State) :
    ∀ z, execFlr fn s = .next z → z.kernel = s.kernel := by
  unfold execFlr
  intro z hz
  split at hz <;> cases hz <;> simp

theorem execVfEnableClear_kernel (numVfs : Nat) (s : State) :
    ∀ z, execVfEnableClear numVfs s = .next z → z.kernel = s.kernel := by
  intro z hz; cases hz; simp

theorem execLinkReset_kernel (s : State) :
    ∀ z, execLinkReset s = .next z → z.kernel = s.kernel := by
  intro z hz; cases hz; simp

theorem execFunctionPowerStateChange_kernel (fn : Nat) (d3hot : Bool) (busMaster : Bool) (s : State) :
    ∀ z, execFunctionPowerStateChange fn d3hot busMaster s = .next z → z.kernel = s.kernel := by
  unfold execFunctionPowerStateChange
  intro z hz
  split at hz <;> cases hz <;> simp

@[simp] theorem helloRun_kernel (h : Hdr) (genMax : Nat) (genMin : Nat) (c : CmdRef) (s : State) :
    (helloRun h genMax genMin c s).kernel = s.kernel := by
  simp [helloRun]

theorem execHello_kernel (h : Hdr) (genMax : Nat) (genMin : Nat) (s : State) :
    ∀ z, execHello h genMax genMin s = .next z → z.kernel = s.kernel := by
  intro z hz; cases hz; simp

@[simp] theorem getCapsRun_kernel (h : Hdr) (c : CmdRef) (s : State) :
    (getCapsRun h c s).kernel = s.kernel := by
  simp [getCapsRun]

theorem execGetCaps_kernel (h : Hdr) (s : State) :
    ∀ z, execGetCaps h s = .next z → z.kernel = s.kernel := by
  intro z hz; cases hz; simp

@[simp] theorem setEventMaskRun_kernel (h : Hdr) (enable : Nat) (c : CmdRef) (s : State) :
    (setEventMaskRun h enable c s).kernel = s.kernel := by
  simp [setEventMaskRun]

theorem execSetEventMask_kernel (h : Hdr) (enable : Nat) (s : State) :
    ∀ z, execSetEventMask h enable s = .next z → z.kernel = s.kernel := by
  intro z hz; cases hz; simp

theorem execLatchedHalfRead_kernel (fn : Nat) (offset : Nat) (s : State) :
    ∀ z, execLatchedHalfRead fn offset s = .next z → z.kernel = s.kernel := by
  unfold execLatchedHalfRead
  intro z hz
  dsimp only at hz
  repeat' split at hz
  all_goals cases hz; simp

@[simp] theorem State.writeEvqCtrl_kernel (s : State) (fn : Nat) (v : Nat) :
    (State.writeEvqCtrl s fn v).kernel = s.kernel := by
  simp [State.writeEvqCtrl]

@[simp] theorem State.writeRingCtrl_kernel (s : State) (fn : Nat) (ring : Nat) (high : Bool) (v : Nat) :
    (State.writeRingCtrl s fn ring high v).kernel = s.kernel := by
  simp [State.writeRingCtrl]

@[simp] theorem State.writeRingReg_kernel (s : State) (fn : Nat) (ring : Nat) (off : Nat) (v : Nat) :
    (State.writeRingReg s fn ring off v).kernel = s.kernel := by
  unfold State.writeRingReg
  dsimp only
  repeat' first | (simp; done) | split

@[simp] theorem State.writeTollReg_kernel (s : State) (off : Nat) (v : Nat) :
    (State.writeTollReg s off v).kernel = s.kernel := by
  simp [State.writeTollReg]

@[simp] theorem State.writeEccReg_kernel (s : State) (off : Nat) (v : Nat) :
    (State.writeEccReg s off v).kernel = s.kernel := by
  simp [State.writeEccReg]

@[simp] theorem State.writeMlsReg_kernel (s : State) (off : Nat) (v : Nat) :
    (State.writeMlsReg s off v).kernel = s.kernel := by
  simp [State.writeMlsReg]

@[simp] theorem State.write32_kernel (s : State) (fn : Nat) (off : Nat) (v : Nat) :
    (State.write32 s fn off v).kernel = s.kernel := by
  unfold State.write32
  split <;> simp

theorem execRegisterWrite_kernel (fn : Nat) (offset : Nat) (size : Nat) (value : W64) (s : State) :
    ∀ z, execRegisterWrite fn offset size value s = .next z → z.kernel = s.kernel := by
  unfold execRegisterWrite
  intro z hz
  repeat' split at hz
  all_goals cases hz; simp

@[simp] theorem getStatusRun_kernel (h : Hdr) (sel : Nat) (a : Nat) (b : Nat) (c : Nat) (d : Nat) (r : CmdRef) (s : State) :
    (getStatusRun h sel a b c d r s).kernel = s.kernel := by
  unfold getStatusRun
  repeat' first | (simp; done) | split

theorem execGetStatus_kernel (h : Hdr) (selector : Nat) (keyA : Nat) (keyB : Nat) (keyC : Nat) (keyD : Nat) (s : State) :
    ∀ z, execGetStatus h selector keyA keyB keyC keyD s = .next z → z.kernel = s.kernel := by
  intro z hz; cases hz; simp

end Sys2Proof.Machine
end

