-- ==== Sys2Proof/Laws/Keeps.lean ====
section
/-! SUPPORT. The commands that boot the module: what they keep of the fuses and the queue (R304, R409). -/

namespace Sys2Proof.Machine

/-- What every command but a launch keeps: the queue, the launches that have left, the fuses that nothing changes, and every
set anti-rollback bit (R304). -/
def State.keeps (s t : State) : Prop := t.pending = s.pending ∧ t.launches = s.launches ∧ s.fuses.keptBy t.fuses

theorem Fuses.keptBy_refl (f : Fuses) : f.keptBy f := ⟨rfl, rfl, rfl, rfl, rfl, fun _ => Nat.le_refl _⟩

theorem State.keeps_of_kernel {s t : State} (h : t.kernel = s.kernel) : s.keeps t := by
  simp only [State.kernel, Prod.mk.injEq] at h
  refine ⟨h.2.1, h.2.2, ?_⟩
  rw [h.1]
  exact Fuses.keptBy_refl _

theorem State.keeps_trans {s t u : State} (h : s.keeps t) (g : t.keeps u) : s.keeps u := by
  obtain ⟨p, o, a, b, c, d, l, f⟩ := h
  obtain ⟨p', o', a', b', c', d', l', f'⟩ := g
  exact ⟨p'.trans p, o'.trans o, a'.trans a, b'.trans b, c'.trans c, d'.trans d, l'.trans l, fun i => (f i).trans (f' i)⟩

theorem commitSvn_entry (cls n : Nat) (l : List PartEntry) :
    n ≤ l.foldl (fun n e => if e.cls = cls then max n (min 64 e.svn) else n) n := by
  induction l generalizing n with
  | nil => exact Nat.le_refl n
  | cons e l ih =>
    rw [List.foldl_cons]
    refine Nat.le_trans ?_ (ih _)
    split <;> omega

theorem commitSvn_grows (m : Manifest) (l : List Nat) :
    (commitSvn m l).length = l.length ∧ ∀ i, l.getD i 0 ≤ (commitSvn m l).getD i 0 := by
  unfold commitSvn
  refine ⟨by simp, fun i => ?_⟩
  by_cases h : i < l.length
  · rw [List.getD_eq_getElem?_getD (l := (List.range l.length).map _), List.getElem?_map, List.getElem?_range h]
    exact commitSvn_entry i _ _
  · rw [List.getD_eq_default _ _ (by omega)]
    exact Nat.zero_le _

theorem State.boot_keeps (s : State) (m : Manifest) (r : Bool) : s.keeps (s.boot m r) := by
  unfold State.boot
  extract_lets at_ micro notes _h _c _p _fw _ps _fu s₁ s₂ s₃
  have h : (if s₃.rotates then s₃.restScrub 8 else s₃).kernel = s₁.kernel := by
    rw [State.kernel_ite, State.restScrub_kernel, ite_self]
    show ((List.range 9).foldl State.initArrays s₂).kernel = s₁.kernel
    rw [foldl_kernel _ _ _ (fun s n => by simp)]
    exact foldl_kernel _ _ _ (fun s e => State.logAdd_kernel ..)
  refine State.keeps_trans (t := s₁) ?_ (State.keeps_of_kernel h)
  refine ⟨rfl, rfl, rfl, rfl, rfl, rfl, ?_, ?_⟩
  · dsimp only [s₁]
    split
    · exact (commitSvn_grows m _).1
    · rfl
  · dsimp only [s₁]
    split
    · exact (commitSvn_grows m _).2
    · intro i; exact Nat.le_refl _

theorem State.recoverStaged_keeps (s : State) (c : CmdRef) : s.keeps (s.recoverStaged c) := by
  unfold State.recoverStaged
  split
  · exact State.keeps_of_kernel (by simp)
  · dsimp only
    split
    · exact State.keeps_of_kernel (by simp)
    · split
      · exact State.keeps_of_kernel (by simp)
      · refine State.keeps_trans (t := _) (State.keeps_of_kernel ?_) (State.keeps_trans (State.boot_keeps _ _ _) (State.keeps_of_kernel (State.event_kernel ..)))
        simp

theorem activateManifestRun_keeps (w : List (Nat × PartWindow)) (u : List Nat) (c : CmdRef) (s : State) :
    s.keeps (activateManifestRun w u c s) := by
  unfold activateManifestRun
  split
  · exact State.recoverStaged_keeps s c
  · split <;> exact State.keeps_of_kernel (by simp)

theorem State.runStarted_keeps (s : State) (op : Nat) (h : Hdr) (c : CmdRef) (k : CmdRef → State → State)
    (hk : ∀ (c : CmdRef) (s : State), s.keeps (k c s)) : s.keeps (s.runStarted op h c k) := by
  unfold State.runStarted
  split
  · exact State.keeps_of_kernel (by simp)
  · split
    · exact State.keeps_of_kernel (by simp)
    · split
      · exact State.keeps_of_kernel (by simp)
      · split
        · exact State.keeps_of_kernel (by simp)
        · exact hk c s

theorem State.hostCmd_keeps (s : State) (op : Nat) (h : Hdr) (k : CmdRef → State → State)
    (hk : ∀ (c : CmdRef) (s : State), s.keeps (k c s)) : s.keeps (s.hostCmd op h k) := by
  unfold State.hostCmd
  dsimp only
  split
  · split
    · rename_i a _
      have g := hk (cmdRef op h s) { s with
        escort := { s.escort with toApply := s.escort.toApply.erase a }, reqs := { s.reqs with slotHint := some a.2.2 } }
      exact g
    · exact State.keeps_of_kernel rfl
  · split
    · exact State.keeps_of_kernel rfl
    · split
      · split
        · exact State.keeps_trans (State.keeps_of_kernel (by simp)) (State.runStarted_keeps _ _ _ _ _ hk)
        · exact State.keeps_of_kernel rfl
      · split
        · exact State.keeps_of_kernel rfl
        · split
          · exact State.keeps_of_kernel (by simp)
          · exact State.keeps_trans (State.keeps_of_kernel (by simp)) (State.runStarted_keeps _ _ _ _ _ hk)

theorem State.cmd_keeps (s : State) (op : Nat) (h : Hdr) (k : CmdRef → State → State)
    (hk : ∀ (c : CmdRef) (s : State), s.keeps (k c s)) : s.keeps (s.cmd op h k) := by
  unfold State.cmd
  refine State.hostCmd_keeps s op h _ (fun c s => ?_)
  split
  · exact State.keeps_trans (State.keeps_of_kernel (by simp)) (hk _ _)
  · exact hk _ _

theorem execActivateManifest_keeps (h : Hdr) (w : List (Nat × PartWindow)) (u : List Nat) (s z : State)
    (e : execActivateManifest h w u s = .next z) : s.keeps z := by
  unfold execActivateManifest at e
  cases e
  exact State.cmd_keeps _ _ _ _ (activateManifestRun_keeps w u)

theorem execPowerOnReset_keeps (b : BootImages) (s z : State) (e : execPowerOnReset b s = .next z) : s.keeps z := by
  unfold execPowerOnReset at e
  dsimp only at e
  split at e
  · cases e; exact State.keeps_of_kernel (by simp)
  · split at e
    · cases e; exact State.keeps_of_kernel (by simp)
    · split at e
      · cases e
        exact State.keeps_trans (State.keeps_of_kernel (by simp)) (State.boot_keeps _ _ _)
      · cases e; exact State.keeps_of_kernel (by simp)

theorem execRecoveryFromPartner_keeps (b : BootImages) (s z : State) (e : execRecoveryFromPartner b s = .next z) : s.keeps z := by
  unfold execRecoveryFromPartner at e
  dsimp only at e
  repeat' split at e
  all_goals injection e with e; subst e
  all_goals first
    | exact State.keeps_of_kernel rfl
    | exact State.keeps_trans (State.boot_keeps s b.manifest true) (State.keeps_of_kernel (State.event_kernel ..))
    | exact State.keeps_of_kernel (by simp)

theorem State.emit_fuses (s : State) (o : Output) : (s.emit o).fuses = s.fuses ∧ (s.emit o).pending = s.pending := ⟨rfl, rfl⟩

theorem foldl_emit_keeps {α : Type} (f : State → α → Output) (l : List α) (s : State) :
    (l.foldl (fun s x => s.emit (f s x)) s).fuses = s.fuses ∧ (l.foldl (fun s x => s.emit (f s x)) s).pending = s.pending := by
  induction l generalizing s with
  | nil => exact ⟨rfl, rfl⟩
  | cons a l ih => exact ih _

theorem State.kernel_parts {s t : State} (h : t.kernel = s.kernel) :
    t.fuses = s.fuses ∧ t.pending = s.pending ∧ t.launches = s.launches := by
  simpa only [State.kernel, Prod.mk.injEq] using h

theorem State.fireLines_fuses (s : State) (e : LedgerEntry) (st : ActionStream) (ls : List Nat) :
    (s.fireLines e st ls).fuses = s.fuses ∧ (s.fireLines e st ls).pending = s.pending := by
  unfold State.fireLines
  dsimp only
  split
  · have g := fun (t : State) (rises : List Nat) (t16 : Nat) => foldl_emit_keeps (fun _ l => Output.line l true t16) rises t
    split
    · exact g _ _ _
    · have h := fun (t : State) (n : Nat) => State.kernel_parts
        (show ((t.count 0x0009 0 0 0 e.stream 80 n).mlsRaise 0x80).kernel = t.kernel by simp)
      exact ⟨(h _ _).1.trans (g _ _ _).1, (h _ _).2.1.trans (g _ _ _).2⟩
  · have g := fun (t : State) (rises : List Nat) (t16 : Nat) => foldl_emit_keeps (fun _ l => Output.line l true t16) rises t
    have h := fun (t : State) => State.kernel_parts (State.endEntry_kernel t e 0)
    exact ⟨(h _).1.trans (g _ _ _).1, (h _).2.1.trans (g _ _ _).2⟩
  · exact ⟨(State.kernel_parts (by simp)).1, (State.kernel_parts (by simp)).2.1⟩

theorem execLineMatch_fuses (stream sequence : Nat) (s z : State) (h : execLineMatch stream sequence s = .next z) :
    z.fuses = s.fuses ∧ z.pending = s.pending := by
  unfold execLineMatch at h
  dsimp only at h
  repeat' split at h
  all_goals injection h with h; subst h
  all_goals first
    | exact ⟨rfl, rfl⟩
    | exact State.fireLines_fuses _ _ _ _
    | exact ⟨(State.kernel_parts (State.endEntry_kernel ..)).1, (State.kernel_parts (State.endEntry_kernel ..)).2.1⟩

theorem execFrameRelease_fuses (stream sequence : Nat) (s z : State) (h : execFrameRelease stream sequence s = .next z) :
    z.fuses = s.fuses ∧ z.pending = s.pending := by
  unfold execFrameRelease at h
  dsimp only at h
  repeat' split at h
  all_goals injection h with h; subst h
  all_goals first
    | exact ⟨rfl, rfl⟩
    | exact ⟨(State.kernel_parts (State.endEntry_kernel ..)).1, (State.kernel_parts (State.endEntry_kernel ..)).2.1⟩
    | exact ⟨(State.kernel_parts (State.endEntry_kernel ..)).1.trans (foldl_emit_keeps _ _ _).1,
        (State.kernel_parts (State.endEntry_kernel ..)).2.1.trans (foldl_emit_keeps _ _ _).2⟩

theorem execLineMatch_held (stream sequence : Nat) (s z : State) (q : s.mayNotLaunch)
    (h : execLineMatch stream sequence s = .next z) : z.kernel = s.kernel := by
  unfold execLineMatch at h
  dsimp only at h
  repeat' split at h
  all_goals injection h with h; subst h
  all_goals first
    | rfl
    | exact State.endEntry_kernel ..
    | (exfalso; simp_all [State.mayNotLaunch, State.launchesNothing, State.gateClosed])

theorem execFrameRelease_held (stream sequence : Nat) (s z : State) (q : s.mayNotLaunch)
    (h : execFrameRelease stream sequence s = .next z) : z.kernel = s.kernel := by
  unfold execFrameRelease at h
  dsimp only at h
  repeat' split at h
  all_goals injection h with h; subst h
  all_goals first
    | rfl
    | exact State.endEntry_kernel ..
    | (exfalso; simp_all [State.mayNotLaunch, State.launchesNothing, State.gateClosed])
end Sys2Proof.Machine
end

