-- ==== Sys2Proof/Laws/Memory.lean ====
section
/-! SUPPORT. The memories: what a read finds after a write, and that every operation keeps the canonical form. -/

namespace Sys2Proof.Machine

/-- The canonical form above a bound. -/
theorem Memory.wfFrom_iff (m : Memory) (l : Option Nat) :
    Memory.wfFrom l m = true ↔
      (∀ k, l = some k → ∀ p ∈ m, k < p.1) ∧ m.Pairwise (fun p q => p.1 < q.1) ∧ ∀ p ∈ m, p.2 ≠ Memory.unlisted := by
  induction m generalizing l with
  | nil => simp [Memory.wfFrom]
  | cons x r ih =>
    obtain ⟨i, b⟩ := x
    simp only [Memory.wfFrom, Bool.and_eq_true, bne_iff_ne, ne_eq, ih, List.pairwise_cons, List.mem_cons,
      forall_eq_or_imp, Option.some.injEq, forall_eq']
    constructor
    · rintro ⟨⟨a, n⟩, f, g, h⟩
      refine ⟨?_, ⟨f, g⟩, n, h⟩
      rintro k rfl
      have ki : k < i := by simpa using a
      exact ⟨ki, fun p q => lt_trans ki (f p q)⟩
    · rintro ⟨a, ⟨f, g⟩, n, h⟩
      refine ⟨⟨?_, n⟩, f, g, h⟩
      cases l with
      | none => rfl
      | some k => simpa using (a k rfl).1

theorem Memory.wf_iff (m : Memory) :
    Memory.wf m = true ↔ m.Pairwise (fun p q => p.1 < q.1) ∧ ∀ p ∈ m, p.2 ≠ Memory.unlisted := by
  simp [Memory.wf, Memory.wfFrom_iff]

theorem Memory.wf_nil : Memory.wf [] = true := rfl

theorem Memory.wf_tail {x : Nat × Byte} {r : Memory} (w : Memory.wf (x :: r) = true) : Memory.wf r = true := by
  rw [Memory.wf_iff] at w ⊢
  exact ⟨(List.pairwise_cons.1 w.1).2, fun p q => w.2 p (List.mem_cons_of_mem _ q)⟩

/-- What a listed address of a written memory can be. -/
theorem Memory.mem_write {m : Memory} {a : Nat} {b : Byte} {p : Nat × Byte} (h : p ∈ Memory.write m a b) :
    p ∈ m ∨ (p = (a, b) ∧ b ≠ Memory.unlisted) := by
  induction m with
  | nil =>
    unfold Memory.write at h
    split_ifs at h with u <;> simp_all
  | cons x r ih =>
    obtain ⟨i, c⟩ := x
    unfold Memory.write at h
    split_ifs at h with u v w <;> simp only [List.mem_cons] at h ⊢
    · exact .inl h
    · rcases h with h | h
      · exact .inr ⟨h, v⟩
      · exact .inl h
    · exact .inl (.inr h)
    · rcases h with h | h
      · exact .inr ⟨h, by assumption⟩
      · exact .inl (.inr h)
    · rcases h with h | h
      · exact .inl (.inl h)
      · rcases ih h with h | h
        · exact .inl (.inr h)
        · exact .inr h

/-- A write keeps the canonical form. -/
theorem Memory.write_wf (m : Memory) (a : Nat) (b : Byte) (w : Memory.wf m = true) : Memory.wf (Memory.write m a b) = true := by
  induction m with
  | nil => unfold Memory.write; split_ifs with u <;> simp [Memory.wf, Memory.wfFrom, u]
  | cons x r ih =>
    obtain ⟨i, c⟩ := x
    have t := Memory.wf_tail w
    have k := ih t
    rw [Memory.wf_iff] at w t k ⊢
    obtain ⟨f, g⟩ := List.pairwise_cons.1 w.1
    unfold Memory.write
    split_ifs with u v e v
    · exact w
    · refine ⟨List.pairwise_cons.2 ⟨?_, w.1⟩, ?_⟩
      · rintro p q
        rcases List.mem_cons.1 q with rfl | q
        · exact u
        · exact lt_trans u (f p q)
      · rintro p q
        rcases List.mem_cons.1 q with rfl | q
        · exact v
        · exact w.2 p q
    · exact t
    · refine ⟨List.pairwise_cons.2 ⟨fun p q => e ▸ f p q, g⟩, ?_⟩
      rintro p q
      rcases List.mem_cons.1 q with rfl | q
      · exact v
      · exact t.2 p q
    · refine ⟨List.pairwise_cons.2 ⟨?_, k.1⟩, ?_⟩
      · intro p q
        rcases Memory.mem_write q with q | ⟨rfl, -⟩
        · exact f p q
        · simp only; omega
      · rintro p q
        rcases List.mem_cons.1 q with rfl | q
        · exact w.2 _ List.mem_cons_self
        · exact k.2 p q

/-- An address below every listed one reads as an unlisted one. -/
theorem Memory.read_below (m : Memory) (a : Nat) (h : ∀ p ∈ m, a < p.1) : Memory.read m a = Memory.unlisted := by
  induction m with
  | nil => rfl
  | cons x r ih =>
    obtain ⟨i, c⟩ := x
    have n : i ≠ a := fun e => absurd (h _ List.mem_cons_self) (by simp [e])
    simp only [Memory.read, n, if_false]
    exact ih fun p q => h p (List.mem_cons_of_mem _ q)

/-- A read after a write to the same address gives the byte written. -/
theorem Memory.read_write_same (m : Memory) (a : Nat) (b : Byte) (w : Memory.wf m = true) :
    Memory.read (Memory.write m a b) a = b := by
  induction m with
  | nil => unfold Memory.write; split_ifs with u <;> simp [Memory.read, u]
  | cons x r ih =>
    obtain ⟨i, c⟩ := x
    have t := Memory.wf_tail w
    obtain ⟨f, -⟩ := List.pairwise_cons.1 ((Memory.wf_iff _).1 w).1
    unfold Memory.write
    split_ifs with u v e v
    · rw [v]
      exact Memory.read_below _ _ fun p q => by
        rcases List.mem_cons.1 q with rfl | q
        · exact u
        · exact lt_trans u (f p q)
    · simp [Memory.read]
    · rw [v]
      exact Memory.read_below _ _ fun p q => e ▸ f p q
    · simp [Memory.read]
    · simp [Memory.read, e, ih t]

/-- A write leaves every other address as it was. -/
theorem Memory.read_write_other (m : Memory) (a c : Nat) (b : Byte) (n : c ≠ a) :
    Memory.read (Memory.write m a b) c = Memory.read m c := by
  induction m with
  | nil => unfold Memory.write; split_ifs <;> simp [Memory.read, n.symm]
  | cons x r ih =>
    obtain ⟨i, d⟩ := x
    unfold Memory.write
    split_ifs with u v e v
    · rfl
    · simp [Memory.read, n.symm]
    · simp [Memory.read, show i ≠ c from fun h => n (h ▸ e)]
    · simp [Memory.read, n.symm, show i ≠ c from fun h => n (h ▸ e)]
    · simp [Memory.read, ih]

/-- Bytes written keep the canonical form. -/
theorem Memory.writeBytes_wf (bs : List Byte) (m : Memory) (a : Nat) (w : Memory.wf m = true) :
    Memory.wf (Memory.writeBytes m a bs) = true := by
  induction bs generalizing m a with
  | nil => exact w
  | cons b r ih => exact ih _ _ (Memory.write_wf _ _ _ w)

/-- Bytes written leave every address outside them as it was. -/
theorem Memory.read_writeBytes_other (bs : List Byte) (m : Memory) (a c : Nat) (n : c < a ∨ a + bs.length ≤ c) :
    Memory.read (Memory.writeBytes m a bs) c = Memory.read m c := by
  induction bs generalizing m a with
  | nil => rfl
  | cons b r ih =>
    simp only [List.length_cons] at n
    rw [Memory.writeBytes, ih _ _ (by omega), Memory.read_write_other _ _ _ _ (by omega)]

/-- Bytes written read back. -/
theorem Memory.read_writeBytes_in (bs : List Byte) (m : Memory) (a i : Nat) (w : Memory.wf m = true) (h : i < bs.length) :
    Memory.read (Memory.writeBytes m a bs) (a + i) = bs[i] := by
  induction bs generalizing m a i with
  | nil => exact absurd h (by simp)
  | cons b r ih =>
    rw [Memory.writeBytes]
    cases i with
    | zero =>
      rw [Memory.read_writeBytes_other _ _ _ _ (by omega)]
      exact Memory.read_write_same _ _ _ w
    | succ j =>
      have := ih (Memory.write m a b) (a + 1) j (Memory.write_wf _ _ _ w) (by simpa using h)
      rw [show a + (j + 1) = a + 1 + j by omega, this]
      rfl

/-- Part of a memory keeps the canonical form. -/
theorem Memory.filter_wf (m : Memory) (f : Nat × Byte → Bool) (w : Memory.wf m = true) :
    Memory.wf (m.filter f) = true := by
  rw [Memory.wf_iff] at w ⊢
  exact ⟨w.1.filter _, fun p q => w.2 p (List.mem_filter.1 q).1⟩

/-- Cells written one after another keep the canonical form. -/
theorem Memory.foldl_write_wf {α : Type} (l : List α) (f : α → Nat) (g : α → Byte) (m : Memory) (w : Memory.wf m = true) :
    Memory.wf (l.foldl (fun m c => Memory.write m (f c) (g c)) m) = true := by
  induction l generalizing m with
  | nil => exact w
  | cons x r ih => exact ih _ (Memory.write_wf _ _ _ w)

/-- The pattern of a full calibration pass is in the canonical form. -/
theorem patternMemory_wf : Memory.wf patternMemory = true := by
  unfold patternMemory
  generalize 144834560 = n
  rw [Memory.wf_iff]
  constructor
  · rw [List.pairwise_map]
    exact List.pairwise_lt_range.filter _
  · intro p q
    obtain ⟨a, h, rfl⟩ := List.mem_map.1 q
    exact of_decide_eq_true (List.mem_filter.1 h).2

/-- What a table with an object set holds. -/
theorem Map.mem_set {α : Type} {m : Map α} {k : Nat} {v : α} {p : Nat × α} (h : p ∈ Map.set m k v) : p ∈ m ∨ p = (k, v) := by
  induction m with
  | nil => simpa [Map.set] using h
  | cons x r ih =>
    obtain ⟨i, w⟩ := x
    unfold Map.set at h
    split_ifs at h <;> simp only [List.mem_cons] at h ⊢ <;> rcases h with h | h
    · exact .inr h
    · exact .inl h
    · exact .inr h
    · exact .inl (.inr h)
    · exact .inl (.inl h)
    · rcases ih h with h | h
      · exact .inl (.inr h)
      · exact .inr h

theorem Map.mem_of_get? {α : Type} {m : Map α} {k : Nat} {v : α} (h : Map.get? m k = some v) : (k, v) ∈ m := by
  induction m with
  | nil => exact nomatch h
  | cons x r ih =>
    obtain ⟨i, w⟩ := x
    unfold Map.get? at h
    split_ifs at h with e
    · cases h; rw [e]; exact List.mem_cons_self
    · exact List.mem_cons_of_mem _ (ih h)

/-- The memory of a class and unit is in its canonical form. -/
theorem State.memory_wf (s : State) (cls unit : Nat) (w : s.memOk) : Memory.wf (s.memory cls unit) = true := by
  unfold State.memory
  cases h : Map.get? s.mem.mem (memKey cls unit) with
  | none => rfl
  | some m => exact w _ (Map.mem_of_get? h)

theorem State.setMemory_memOk (s : State) (cls unit : Nat) (m : Memory) (w : s.memOk) (h : Memory.wf m = true) :
    (s.setMemory cls unit m).memOk := by
  intro p q
  rcases Map.mem_set q with q | rfl
  · exact w p q
  · exact h

theorem State.memOk_of_mem {s t : State} (e : t.mem.mem = s.mem.mem) (w : s.memOk) : t.memOk := fun p q => w p (e ▸ q)

theorem State.xorWord_memOk (s : State) (cls unit cw mask : Nat) (w : s.memOk) : (s.xorWord cls unit cw mask).memOk :=
  s.setMemory_memOk _ _ _ w (Memory.writeBytes_wf _ _ _ (s.memory_wf _ _ w))

theorem State.event_mem (s : State) (fn code object detail : Nat) : (s.event fn code object detail).mem = s.mem := by
  unfold State.event
  dsimp only
  split_ifs <;> rfl

theorem State.logAdd_mem (s : State) (kind cls unit tenant : Nat) (r : Bool) (d : List Byte) :
    (s.logAdd kind cls unit tenant r d).mem.mem = s.mem.mem := by
  unfold State.logAdd
  dsimp only
  split <;> split_ifs <;> simp only [State.event_mem]

theorem State.xorCipher_memOk (s : State) (cls cw mask key : Nat) (w : s.memOk) : (s.xorCipher cls cw mask key).memOk :=
  s.setMemory_memOk _ _ _ w (Memory.writeBytes_wf _ _ _ (s.memory_wf _ _ w))

theorem State.xorStored_memOk (s : State) (cls unit cw mask : Nat) (w : s.memOk) : (s.xorStored cls unit cw mask).memOk := by
  unfold State.xorStored
  split
  · exact s.xorCipher_memOk _ _ _ _ w
  · exact s.xorWord_memOk _ _ _ _ w

/-- A flip-mask applied keeps every memory's canonical form. -/
theorem State.applyFlip_memOk (s : State) (cls unit cw tenant : Nat) (w : s.memOk) : (s.applyFlip cls unit cw tenant).memOk := by
  unfold State.applyFlip
  dsimp only
  refine State.memOk_of_mem (State.logAdd_mem _ _ _ _ _ _ _) ?_
  split
  · exact w
  · exact s.xorWord_memOk _ _ _ _ w

theorem State.flipMeets_memOk (s : State) (cls unit addr len tenant : Nat) (w : s.memOk) :
    (s.flipMeets cls unit addr len tenant).memOk := by
  unfold State.flipMeets
  dsimp only
  split_ifs
  all_goals first | exact w | exact s.applyFlip_memOk _ _ _ _ w

/-- Codewords made new keep every memory's canonical form. -/
theorem State.newWords_memOk (s : State) (cls unit addr len tenant : Nat) (w : s.memOk) :
    (s.newWords cls unit addr len tenant).memOk :=
  State.flipMeets_memOk _ _ _ _ _ _ (State.memOk_of_mem (s := s) rfl w)

/-- A data write keeps every memory's canonical form. -/
theorem State.memWrite_memOk (s : State) (cls unit addr : Nat) (bytes : List Byte) (tenant : Nat) (w : s.memOk) :
    (s.memWrite cls unit addr bytes tenant).memOk :=
  State.newWords_memOk _ _ _ _ _ _ (s.setMemory_memOk cls unit _ w (Memory.writeBytes_wf _ _ _ (s.memory_wf _ _ w)))

theorem State.count_mem (s : State) (sel a b c d off n : Nat) : (s.count sel a b c d off n).mem = s.mem := by
  unfold State.count
  dsimp only
  split
  · exact State.event_mem _ _ _ _ _
  · rfl

theorem State.event2_mem (s : State) (t code object detail : Nat) : (s.event2 t code object detail).mem = s.mem := by
  unfold State.event2
  split <;> simp only [State.event_mem]

theorem State.logLimited_mem (s : State) (kind cls unit tenant : Nat) (d : List Byte) (f : LogEntry → Bool) :
    (s.logLimited kind cls unit tenant d f).mem.mem = s.mem.mem := by
  unfold State.logLimited
  split
  · split
    · rfl
    · exact State.logAdd_mem _ _ _ _ _ _ _
  · exact State.logAdd_mem _ _ _ _ _ _ _

theorem State.foundCorrectable_memOk (s : State) (cls unit addr syndrome place : Nat) (w : s.memOk) :
    (s.foundCorrectable cls unit addr syndrome place).memOk :=
  State.memOk_of_mem (State.logLimited_mem _ _ _ _ _ _ _) (State.memOk_of_mem (by rw [State.count_mem]) w)

theorem State.foundUncorrectable_memOk (s : State) (cls unit addr syndrome : Nat) (scrub : Bool) (w : s.memOk) :
    (s.foundUncorrectable cls unit addr syndrome scrub).memOk :=
  State.memOk_of_mem (by rw [State.foundUncorrectable, State.event2_mem])
    (State.memOk_of_mem (State.logAdd_mem _ _ _ _ _ _ _) (State.memOk_of_mem (by rw [State.count_mem]) w))

theorem State.poisonWord_memOk (s : State) (cls unit addr : Nat) (w : s.memOk) : (s.poisonWord cls unit addr).memOk := by
  unfold State.poisonWord
  dsimp only
  split <;> exact w

theorem State.passUnseen_memOk (s : State) (cls unit cw mask : Nat) (w : s.memOk) : (s.passUnseen cls unit cw mask).memOk := by
  unfold State.passUnseen
  split
  · exact w
  · exact State.memOk_of_mem (s := s.xorCipher cls cw mask _) rfl (s.xorCipher_memOk _ _ _ _ w)

/-- A read that meets a flipped codeword keeps every memory's canonical form. -/
theorem State.readFlipped_memOk (s : State) (cls unit cw mask : Nat) (scrub : Bool) (w : s.memOk) :
    (s.readFlipped cls unit cw mask scrub).memOk := by
  have cured : ∀ (t g : State) (m : Nat), t.memOk → g.mem.mem = t.mem.mem →
      (if t.encrypted cls cw = true then g else g.xorWord cls unit cw m).memOk := fun t g m k e => by
    split
    · exact State.memOk_of_mem e k
    · exact g.xorWord_memOk _ _ _ _ (State.memOk_of_mem e k)
  unfold State.readFlipped State.draw
  dsimp only
  split
  · exact w
  · exact State.foundCorrectable_memOk _ _ _ _ _ _ (cured _ _ _ w rfl)
  · refine State.poisonWord_memOk _ _ _ _ (State.foundUncorrectable_memOk _ _ _ _ _ _ ?_)
    split
    · exact cured _ _ _ w rfl
    · exact w
  · split
    · exact State.passUnseen_memOk _ _ _ _ _ w
    · exact State.foundCorrectable_memOk _ _ _ _ _ _ (State.xorStored_memOk _ _ _ _ _ w)

/-- Steps that each keep the canonical form keep it together. -/
theorem State.foldl_memOk {α : Type} (f : State → α → State) (l : List α) (s : State) (h : ∀ s x, s.memOk → (f s x).memOk)
    (w : s.memOk) : (l.foldl f s).memOk := by
  induction l generalizing s with
  | nil => exact w
  | cons a l ih => exact ih _ (h _ _ w)

/-- A read keeps every memory's canonical form. -/
theorem State.readRange_memOk (s : State) (cls unit addr len : Nat) (scrub : Bool) (w : s.memOk) :
    (s.readRange cls unit addr len scrub).memOk :=
  State.foldl_memOk _ _ _ (fun s f => s.readFlipped_memOk cls unit f.2.1 f.2.2 scrub) w

/-- Both copies of a ledger entry written keep every memory's canonical form. -/
theorem State.writeCopies_memOk (s : State) (e : LedgerEntry) (w : s.memOk) : (s.writeCopies e).memOk :=
  State.foldl_memOk _ _ _ (fun s a => s.newWords_memOk 5 0 a ledgerBytes e.tenant) w

/-- A frame copied keeps every memory's canonical form. -/
theorem State.copyFrame_memOk (s : State) (src dst : Nat) (w : s.memOk) : (s.copyFrame src dst).memOk := by
  have r := s.readRange_memOk (src / 2 ^ 30) 0 (65536 * (src % 2 ^ 30)) 65536 false w
  refine State.memOk_of_mem (s := State.flipMeets _ _ _ _ _ _) rfl (State.flipMeets_memOk _ _ _ _ _ _ ?_)
  refine State.memOk_of_mem (s := State.setMemory _ _ _ _) rfl (State.setMemory_memOk _ _ _ _ r ?_)
  exact Memory.foldl_write_wf _ (fun c : Nat × Byte => c.1 - 65536 * (src % 2 ^ 30) + 65536 * (dst % 2 ^ 30))
    (fun c => c.2) _ (Memory.filter_wf _ _ (State.memory_wf _ _ _ r))

/-- A range cleared keeps every memory's canonical form. -/
theorem State.zeroRange_memOk (s : State) (cls unit addr len : Nat) (w : s.memOk) : (s.zeroRange cls unit addr len).memOk :=
  s.setMemory_memOk cls unit _ w (Memory.filter_wf _ _ (s.memory_wf _ _ w))

/-- Every memory at reset is in its canonical form. -/
theorem State.reset_memOk : State.reset.memOk := by
  unfold State.memOk
  decide

end Sys2Proof.Machine
end

