-- ==== Sys2Proof/WellFormed.lean ====
section
/-! DEFINITION. Well-formed commands: every operand fits the field, register or pin count that carries it. -/

namespace Sys2Proof

/-- Every value fits its number of bits. -/
def fits (l : List (Nat × Nat)) : Bool := l.all fun p => decide (p.2 < 2 ^ p.1)

/-- A signed value fits its number of bits. -/
def fitsInt (w : Nat) (v : Int) : Bool := decide (-(2 ^ (w - 1) : Int) ≤ v) && decide (v < (2 ^ (w - 1) : Int))

/-- A packet's header (Table 10-15), from one of 64 functions and eight rings. -/
def Hdr.fits (h : Hdr) : Bool :=
  Sys2Proof.fits [(6, h.fn), (3, h.ring), (16, h.tag), (8, h.tenant), (8, h.priority), (32, h.inlineLength),
    (64, h.payloadAddr), (32, h.payloadLen)] &&
    (h.scatter.getD []).all fun e => Sys2Proof.fits [(64, e.1), (64, e.2)]

/-- DEFINE_BAY (Table 04-9). -/
def BayParams.fits (p : BayParams) : Bool :=
  Sys2Proof.fits [(8, p.bay), (8, p.kind), (8, p.sliceMask), (8, p.tol), (8, p.perString), (8, p.swapMode), (8, p.owner),
    (32, p.minDwell)]

/-- SUBMIT_REQUEST (Table 06-3). -/
def SubmitParams.fits (p : SubmitParams) : Bool :=
  Sys2Proof.fits [(32, p.context), (16, p.template), (8, p.target), (16, p.stream), (16, p.nAct), (16, p.inputCount),
    (8, p.track), (64, p.seed)] && fitsInt 64 p.when_

/-- The template record (Table 06-2). -/
def TemplateRec.fits (r : TemplateRec) : Bool :=
  Sys2Proof.fits [(8, r.bay), (8, r.outKind), (8, r.maxDepth), (16, r.nAct), (8, r.priority), (8, r.zeroLimit),
    (8, r.fullLimit), (32, r.stopToken), (16, r.topK), (6, r.handle), (32, r.ttftGoal), (32, r.tbtGoal),
    (64, r.reportBase), (32, r.reportEntries)]

/-- SET_CONVOY_POLICY (Table 06-5): seven bounds of one byte. -/
def PolicyParams.fits (p : PolicyParams) : Bool :=
  Sys2Proof.fits [(8, p.bay), (16, p.maxRequests), (16, p.maxTokens), (16, p.prefillChunk)] &&
    decide (p.bounds.length = 7) && p.bounds.all fun b => decide (b < 256)

/-- OPEN_STREAM and its conversion record (Tables 07-1 and 07-2). -/
def StreamParams.fits (p : StreamParams) : Bool :=
  Sys2Proof.fits [(16, p.stream), (8, p.codec), (2, p.timeSource), (8, p.ports), (8, p.extId), (16, p.vlan),
    (16, p.udpPort), (16, p.maxWidth), (16, p.maxHeight), (16, p.frameRate), (32, p.ssrc), (32, p.cameraOffset),
    (32, p.frameBudget), (32, p.maxAuBytes), (8, p.matrix), (8, p.range), (8, p.channels), (8, p.bgr)] &&
    decide (p.mean.length = 3) && decide (p.invStd.length = 3)

/-- OPEN_ENCODE and its destination (Tables 07-6 and 07-7). -/
def EncodeParams.fits (p : EncodeParams) : Bool :=
  Sys2Proof.fits [(8, p.session), (16, p.stream), (8, p.scale), (8, p.frameDiv), (16, p.idrPeriod), (32, p.bitRate),
    (32, p.cpbSize), (8, p.qpMin), (8, p.qpMax), (16, p.initialDelay), (8, p.destKind), (8, p.port), (16, p.vlan),
    (16, p.udpPort), (8, p.payloadType), (8, p.ipVersion), (32, p.ssrc), (48, p.destMac), (128, p.destIp),
    (32, p.ringEntries), (64, p.ringBase)]

/-- A crop record (Table 07-12). -/
def CropRec.fits (r : CropRec) : Bool :=
  Sys2Proof.fits [(8, r.outH), (8, r.outW), (8, r.mode), (8, r.ratio), (8, r.patch), (16, r.embed), (39, r.rsvd)]

/-- DEFINE_ROUTE and its crops (Tables 07-11 and 07-12). -/
def RouteParams.fits (p : RouteParams) : Bool :=
  Sys2Proof.fits [(16, p.route), (16, p.stream), (8, p.detectorBay), (16, p.objectLimit), (32, p.context),
    (16, p.template), (16, p.actionStream), (8, p.track), (16, p.y0), (32, p.lead), (8, p.crops.length)] &&
    fitsInt 32 p.sCell && (p.crops ++ p.others).all CropRec.fits

/-- SET_TIMEBASE (Table 08-4). -/
def TimebaseParams.fits (p : TimebaseParams) : Bool :=
  Sys2Proof.fits [(8, p.ptpDomain), (8, p.ptpPorts), (2, p.transport), (16, p.ptpVlan), (16, p.holdoverLimit)] &&
    fitsInt 64 p.stepNs

/-- DEFINE_TRACK (Table 08-6). -/
def TrackParams.fits (p : TrackParams) : Bool :=
  Sys2Proof.fits [(8, p.track), (16, p.sourceId), (8, p.window), (8, p.ports), (16, p.horizon), (16, p.span),
    (16, p.timeout), (32, p.vStop), (32, p.residMax)]

/-- DEFINE_ACTION_STREAM and its outcome ring (Table 08-7, R224). -/
def ActionParams.fits (p : ActionParams) : Bool :=
  Sys2Proof.fits [(16, p.stream), (8, p.kind), (2, p.lineMode), (8, p.ports), (8, p.holdInput), (16, p.vlan),
    (48, p.destMac), (16, p.lineMask), (32, p.lead), (32, p.pulseWidth), (16, p.maxWait), (64, p.ringBase),
    (32, p.ringEntries)] && fitsInt 16 p.lineOffset

/-- POST_LAUNCH (Table 08-9). -/
def PostParams.fits (p : PostParams) : Bool :=
  Sys2Proof.fits [(16, p.stream), (8, p.target), (8, p.tokenCount), (8, p.track), (32, p.lead)] && fitsInt 64 p.when_ &&
    p.tokens.all fun t => decide (t < 2 ^ 32)

/-- SCRUB_RANGE (Table 09-15). -/
def ScrubParams.fits (p : ScrubParams) : Bool :=
  Sys2Proof.fits [(8, p.cls), (8, p.unit), (8, p.rate), (64, p.start), (64, p.length)]

/-- BEGIN_SHADOW (Table 12-2). -/
def ShadowParams.fits (p : ShadowParams) : Bool :=
  Sys2Proof.fits [(8, p.topK), (32, p.window), (32, p.agreeMin)]

/-- An encoder frame body and its tag (Table 08-5). -/
def EncFrame.fits (f : EncFrame) : Bool :=
  Sys2Proof.fits [(8, f.ftype), (8, f.version), (16, f.sourceId), (32, f.sequence), (64, f.tSample), (128, f.tag)] &&
    fitsInt 64 f.position

/-- The header of a bale (Table 04-2), its directory (Table 04-3) and its map (Table 04-5). -/
def Bale.fits (b : Bale) : Bool :=
  Sys2Proof.fits [(32, b.magic), (16, b.format), (8, b.generation), (8, b.kind), (64, b.totalLength), (384, b.digest),
    (128, b.modelId), (64, b.kvCompat), (32, b.itineraryVersion), (16, b.sections.length), (8, b.slices), (8, b.perString),
    (32, b.arraysTotal), (16, b.layers), (8, b.outriders), (8, b.kvHeads), (16, b.headDim), (32, b.vocab),
    (384, b.tokeniserHash)] &&
    (b.sections.all fun x => Sys2Proof.fits [(16, x.kind), (8, x.slice), (64, x.offset), (64, x.length)]) &&
    b.layerMap.all fun e => Sys2Proof.fits [(16, e.layer), (8, e.matrix), (16, e.rowTile), (16, e.colTile), (8, e.slice),
      (8, e.string), (8, e.index), (8, e.rangeStep), (32, e.tile)]

/-- A manifest entry (Table 14-4). -/
def PartEntry.fits (e : PartEntry) : Bool :=
  Sys2Proof.fits [(8, e.partId), (8, e.cls), (8, e.recordFormat), (8, e.recordCompat), (32, e.version), (8, e.svn),
    (32, e.length), (384, e.hash)]

/-- A manifest (Table 14-3): every generation 1 manifest lists the seven parts in order (R403). -/
def Manifest.fits (m : Manifest) : Bool :=
  Sys2Proof.fits [(32, m.magic), (16, m.format), (8, m.generation), (32, m.version), (384, m.chainRoot),
    (768, m.signature)] && decide (m.entries.map (·.partId) = [1, 2, 3, 4, 5, 6, 7]) && m.entries.all PartEntry.fits

/-- What STAGE_PART stages (R404). -/
def StagedPayload.fits : StagedPayload → Bool
  | .manifest m => m.fits
  | .image hash => Sys2Proof.fits [(384, hash)]

/-- The bytes of an identity memory, when it can be read (R369, R370). -/
def idFits (r : IdRecord) : Bool :=
  match r with
  | some b => decide (b.length = 64 ∨ b.length = 16)
  | none => true

/-- A PTP message on one of four ports (R216). -/
def PtpMsg.fits : PtpMsg → Bool
  | .announce port domain transport vlan _ _ _ => Sys2Proof.fits [(2, port), (8, domain), (2, transport), (16, vlan)]
  | .event port domain transport vlan _ _ _ => Sys2Proof.fits [(2, port), (8, domain), (2, transport), (16, vlan)]
  | .management port => Sys2Proof.fits [(2, port)]

/-- An RTP packet (R173). -/
def RtpPacket.fits (p : RtpPacket) : Bool :=
  Sys2Proof.fits [(2, p.port), (12, p.vlan.getD 0), (16, p.udpPort), (32, p.ssrc), (16, p.seq), (32, p.timestamp)]

/-- An RTCP sender report (R175). -/
def SenderRep.fits (r : SenderRep) : Bool :=
  Sys2Proof.fits [(2, r.port), (12, r.vlan.getD 0), (16, r.udpPort), (32, r.ssrc), (32, r.seconds), (32, r.fraction),
    (32, r.rtpTime), (31, r.index)]

/-- A firing on one of 9 cores, 32 strings and 130 positions, with 256 input elements and 8 scales (R38, R41). -/
def Firing.fits (f : Firing) : Bool :=
  decide (f.core < 9) && decide (f.string < 32) && decide (f.position < 130) && decide (f.bay < 8) &&
    f.group.all fun g => decide (g.elems.length = 256) && decide (g.scales.length = 8)

/-- A cell of the escort link (Table 12-3). -/
def Cell.fits (c : Cell) : Bool :=
  Sys2Proof.fits [(8, c.ctype), (8, c.format), (8, c.key), (16, c.keyGen), (64, c.seq), (64, c.ack), (128, c.tag), (16, c.recordStart)] &&
    c.launched.all fun n => decide (n < 2 ^ 16)

/-- A management message (R348, R349). -/
def MgmtMsg.fits : MgmtMsg → Bool
  | .keepAlive => true
  | .heartbeat serial epoch role time _ => Sys2Proof.fits [(32, serial), (32, epoch), (8, role), (64, time)]

/-- A decoded picture: its planes' samples fit its depth. -/
def PictureData.fits (d : PictureData) : Bool :=
  Sys2Proof.fits [(16, d.width), (16, d.height), (8, d.bitDepth)] &&
    (d.luma ++ d.cb ++ d.cr).all fun v => decide (v < 2 ^ d.bitDepth)

/-- Every operand of a command fits the field that carries it. -/
def Instr.wellFormed (i : Instr) : Bool :=
  match i with
  | .hello h genMax genMin => h.fits && fits [(8, genMax), (8, genMin)]
  | .getCaps h => h.fits
  | .getStatus h selector keyA keyB keyC keyD => h.fits && fits [(16, selector), (8, keyA), (8, keyB), (32, keyC), (16, keyD)]
  | .setEventMask h enable => h.fits && fits [(16, enable)]
  | .loadBale h source tier _ libraryIndex bale => h.fits && fits [(8, source), (8, tier), (16, libraryIndex)] && bale.fits
  | .loadBaleCopyDone fn ring tag => fits [(6, fn), (3, ring), (16, tag)]
  | .seatBale h handle bay mode => h.fits && fits [(8, handle), (8, bay), (8, mode)]
  | .seatWritesDone bay _ => fits [(8, bay)]
  | .unseatBale h bay mode _ _ => h.fits && fits [(8, bay), (8, mode)]
  | .unseatBaleDiscard h handle _ _ => h.fits && fits [(8, handle)]
  | .bayEmptied bay => fits [(8, bay)]
  | .defineBay h p => h.fits && p.fits
  | .setPeriod h period => h.fits && fits [(32, period)]
  | .rotateNow h => h.fits
  | .unfence h core => h.fits && fits [(8, core)]
  | .setExhaustion h policy => h.fits && fits [(8, policy)]
  | .openContext h limit => h.fits && fits [(32, limit)]
  | .forkContext h parent position => h.fits && fits [(32, parent), (32, position)]
  | .pauseContext h context ttl => h.fits && fits [(32, context), (32, ttl)]
  | .pauseMoveDone context => fits [(32, context)]
  | .pausedFrameMove context page => fits [(32, context), (32, page)]
  | .resumeContext h context => h.fits && fits [(32, context)]
  | .resumeMoveDone context => fits [(32, context)]
  | .closeContext h context => h.fits && fits [(32, context)]
  | .submitRequest h p inputs => h.fits && p.fits && (inputs.all fun x => fits [(30, x.1), (2, x.2)])
  | .cancelRequest h request _ => h.fits && fits [(32, request)]
  | .setSamplingDefine h template r => h.fits && fits [(16, template), (8, r.op)] && r.record.fits
  | .setSamplingDelete h template => h.fits && fits [(16, template)]
  | .setConvoyPolicy h p => h.fits && p.fits
  | .openStream h p => h.fits && p.fits
  | .closeStream h stream => h.fits && fits [(16, stream)]
  | .closeEncode h session => h.fits && fits [(8, session)]
  | .openEncode h p => h.fits && p.fits
  | .defineRoute h p => h.fits && p.fits
  | .dropRoute h route => h.fits && fits [(16, route)]
  | .dropRouteDone route => fits [(16, route)]
  | .setTimebase h p => h.fits && p.fits
  | .defineTrack h p => h.fits && p.fits
  | .defineTrackDelete h track => h.fits && fits [(8, track)]
  | .defineActionStream h p => h.fits && p.fits
  | .postLaunch h p => h.fits && p.fits
  | .recallLaunch h stream _ key count => h.fits && fits [(16, stream), (32, key), (32, count)]
  | .scrubRange h p => h.fits && p.fits
  | .scrubStop h cls unit => h.fits && fits [(8, cls), (8, unit)]
  | .scrubRun cls unit _ => fits [(8, cls), (8, unit)]
  | .readErrorLog h from_ count => h.fits && fits [(32, from_), (64, count)]
  | .retirePage h page => h.fits && fits [(32, page)]
  | .retirePageBank h page => h.fits && fits [(32, page)]
  | .retireArray h core string position => h.fits && fits [(8, core), (8, string), (8, position)]
  | .addTenant h tenant hbmQuota wayQuota point => h.fits && fits [(8, tenant), (32, hbmQuota), (32, wayQuota), (776, point)]
  | .removeTenant h tenant _ => h.fits && fits [(8, tenant)]
  | .slotQuarantineEnd slot _ => fits [(8, slot)]
  | .setJobKeys h jobGen _ => h.fits && fits [(16, jobGen)]
  | .jobKeyOverlapEnd tenant => fits [(8, tenant)]
  | .setConsent h _ => h.fits
  | .getAttestation h _ => h.fits
  | .spdmRequest _ => true
  | .pairEscortPair h _ partnerSlot partnerSerial epochFloor partnerEpoch partnerHello _ _ _ =>
      h.fits && fits [(8, partnerSlot), (32, partnerSerial), (32, epochFloor), (32, partnerEpoch), (256, partnerHello.random),
        (8, partnerHello.genMax), (8, partnerHello.genMin), (8, partnerHello.format)]
  | .pairEscortUnpair h => h.fits
  | .setDeadRule h rule nLink nMgmt => h.fits && fits [(8, rule), (8, nLink), (8, nMgmt)]
  | .beginShadow h p => h.fits && p.fits
  | .bulkTransferEnd => true
  | .shadowWindowEnd _ _ _ _ => true
  | .promoteEscortSwap h => h.fits
  | .plannedSwapHandover => true
  | .promoteEscortAdmit h => h.fits
  | .stagePart h partId p => h.fits && fits [(8, partId)] && p.fits
  | .stagePartDiscard h partId => h.fits && fits [(8, partId)]
  | .activateManifest h _ _ => h.fits
  | .norWriteDone => true
  | .getFwState h => h.fits
  | .setPowerLimits h cap rampUp rampDown => h.fits && fits [(16, cap), (16, rampUp), (16, rampDown)]
  | .prepareRemoval h _ => h.fits
  | .prepareRemovalAbort h => h.fits
  | .doorbell fn ring tail packets _ => fits [(6, fn), (3, ring), (32, tail)] && (packets.all fun x => decide (x.length = 64))
  | .replyRingHeadWrite fn ring head => fits [(6, fn), (3, ring), (32, head)]
  | .ringEnableSet fn ring => fits [(6, fn), (3, ring)]
  | .ringEnableClear fn ring => fits [(6, fn), (3, ring)]
  | .evqEnableSet fn => fits [(6, fn)]
  | .evqHeadWrite fn head => fits [(6, fn), (32, head)]
  | .lineEnableWrite value => fits [(32, value)]
  | .tollPriorityWrite toll offset _ => fits [(8, toll), (32, offset)]
  | .tollFenceClear mask => fits [(32, mask)]
  | .flipArm => true
  | .registerWrite fn offset size _ => fits [(6, fn), (32, offset), (8, size)]
  | .latchedHalfRead fn offset => fits [(6, fn), (32, offset)]
  | .coalesceTimeout fn ring => fits [(6, fn), (3, ring)]
  | .flr fn => fits [(6, fn)]
  | .vfEnableClear numVfs => fits [(16, numVfs)]
  | .linkReset => true
  | .functionPowerStateChange fn _ _ => fits [(6, fn)]
  | .holdAssert => true
  | .holdRelease => true
  | .releaseDelayEnd input => fits [(3, input.getD 0)]
  | .streamHoldAssert input => fits [(3, input)]
  | .streamHoldRelease input => fits [(3, input)]
  | .inputEdge input _ fraction => fits [(3, input), (8, fraction)]
  | .milestonePulse _ => true
  | .timeCodeFrame _ => true
  | .busLoss _ => true
  | .ptpMessage m => m.fits
  | .ptpAnnounceTimeout => true
  | .ptpSettled => true
  | .holdoverLimit => true
  | .encoderFrame port f => fits [(2, port)] && f.fits
  | .trackStale track => fits [(8, track)]
  | .milestoneTick => true
  | .entryExpiry stream sequence => fits [(16, stream), (32, sequence)]
  | .lineMatch stream sequence => fits [(16, stream), (32, sequence)]
  | .frameRelease stream sequence => fits [(16, stream), (32, sequence)]
  | .pulseEnd stream sequence => fits [(16, stream), (32, sequence)]
  | .ethernetLinkChange port _ => fits [(2, port)]
  | .rtpPacket p => p.fits
  | .senderReport r => r.fits
  | .auLaterTimeout stream => fits [(16, stream)]
  | .auFramePeriodTimeout stream => fits [(16, stream)]
  | .pipeTake pipe => fits [(3, pipe)]
  | .decodeComplete pipe d => fits [(3, pipe)] && d.fits
  | .frameBudgetExpiry e => fits [(3, e.pipe)] && e.picture.fits
  | .pipeRestart pipe width height bitDepth => fits [(3, pipe), (16, width), (16, height), (8, bitDepth)]
  | .streamStalled stream => fits [(16, stream)]
  | .encodePicture session startQp _ _ => fits [(8, session), (6, startQp)]
  | .detectorRunDone stream _ bay _ _ => fits [(16, stream), (8, bay)]
  | .cropBatchDone => true
  | .convoyBoundary bay _ => fits [(8, bay)]
  | .convoyCommit bay _ => fits [(8, bay)]
  | .flushScatterDone context => fits [(32, context)]
  | .autoSwap bay => fits [(8, bay)]
  | .arrayFiring f => f.fits
  | .refire core string position => fits [(8, core), (8, string), (8, position)]
  | .bgCalVisit core string position _ _ => fits [(8, core), (8, string), (8, position)]
  | .bgCalOverdue core => fits [(8, core)]
  | .fullCalPass core _ => fits [(8, core)]
  | .calStale core => fits [(8, core)]
  | .restPeriodEnd => true
  | .handoverLoadEnd _ _ => true
  | .tollDecision toll _ _ _ => fits [(8, toll)]
  | .tollWatchdogFence toll _ => fits [(8, toll)]
  | .contextExpired context => fits [(32, context)]
  | .watchdogBite part processor _ => fits [(8, part), (8, processor)]
  | .keyStoreScan _ _ _ _ => true
  | .escortCellReceive c => c.fits
  | .heartbeatSend => true
  | .mgmtHeartbeatSend => true
  | .mgmtHeartbeatReceive m => m.fits
  | .mgmtPathLoss => true
  | .deadDeclaration => true
  | .selfFence => true
  | .linkHalf port => fits [(2, port)]
  | .escortLinkUp partnerSerial partnerGenMax partnerGenMin partnerFormat partnerRandom => fits [(32, partnerSerial),
      (8, partnerGenMax), (8, partnerGenMin), (8, partnerFormat), (256, partnerRandom)]
  | .presenceMate slot brk => idFits slot && idFits brk
  | .startRailsEnable => true
  | .powerOnReset b => b.manifest.fits
  | .recoveryPartnerTimeout => true
  | .presenceBreak => true
  | .slotRecordRetry slot => idFits slot
  | .breakout r => idFits r
  | .cablePlugEvent port lanes laneMbps _ => fits [(2, port), (8, lanes), (32, laneMbps)]
  | .supplyDip millivolts => fits [(16, millivolts)]
  | .dipClear millivolts => fits [(16, millivolts)]
  | .resetAssert => true
  | .resetRelease => true
  | .overVoltageSet => true
  | .overVoltageClear => true
  | .powerSample watts tenMilliamps volts =>
    fits [(16, watts), (16, tenMilliamps), (16, volts.input), (16, volts.bulk)]
  | .thermalSample inlet outlet junction flow => fits [(16,
      flow)] && fitsInt 16 inlet && fitsInt 16 outlet && fitsInt 16 junction
  | .ladder rung => fits [(8, rung)]
  | .pullNotice => true
  | .latchClose => true
  | .leavingCopyCovered => true
  | .removalReady => true
  | .pldmEffecterSet effecter value => fits [(8, effecter), (32, value)]
  | .escortLinkDown => true
  | .coreMicrocodeHandover core => fits [(8, core)]
  | .recoveryFromPartner b => b.manifest.fits
  | .watchdogRestartDone part processor => fits [(8, part), (8, processor)]

/-- The header that a command packet carries; an event has none. -/
def Instr.header (i : Instr) : Option Hdr :=
  match i with
  | .hello h _ _ => some h
  | .getCaps h => some h
  | .getStatus h _ _ _ _ _ => some h
  | .setEventMask h _ => some h
  | .loadBale h _ _ _ _ _ => some h
  | .loadBaleCopyDone _ _ _ => none
  | .seatBale h _ _ _ => some h
  | .seatWritesDone _ _ => none
  | .unseatBale h _ _ _ _ => some h
  | .unseatBaleDiscard h _ _ _ => some h
  | .bayEmptied _ => none
  | .defineBay h _ => some h
  | .setPeriod h _ => some h
  | .rotateNow h => some h
  | .unfence h _ => some h
  | .setExhaustion h _ => some h
  | .openContext h _ => some h
  | .forkContext h _ _ => some h
  | .pauseContext h _ _ => some h
  | .pauseMoveDone _ => none
  | .pausedFrameMove _ _ => none
  | .resumeContext h _ => some h
  | .resumeMoveDone _ => none
  | .closeContext h _ => some h
  | .submitRequest h _ _ => some h
  | .cancelRequest h _ _ => some h
  | .setSamplingDefine h _ _ => some h
  | .setSamplingDelete h _ => some h
  | .setConvoyPolicy h _ => some h
  | .openStream h _ => some h
  | .closeStream h _ => some h
  | .closeEncode h _ => some h
  | .openEncode h _ => some h
  | .defineRoute h _ => some h
  | .dropRoute h _ => some h
  | .dropRouteDone _ => none
  | .setTimebase h _ => some h
  | .defineTrack h _ => some h
  | .defineTrackDelete h _ => some h
  | .defineActionStream h _ => some h
  | .postLaunch h _ => some h
  | .recallLaunch h _ _ _ _ => some h
  | .scrubRange h _ => some h
  | .scrubStop h _ _ => some h
  | .scrubRun _ _ _ => none
  | .readErrorLog h _ _ => some h
  | .retirePage h _ => some h
  | .retirePageBank h _ => some h
  | .retireArray h _ _ _ => some h
  | .addTenant h _ _ _ _ => some h
  | .removeTenant h _ _ => some h
  | .slotQuarantineEnd _ _ => none
  | .setJobKeys h _ _ => some h
  | .jobKeyOverlapEnd _ => none
  | .setConsent h _ => some h
  | .getAttestation h _ => some h
  | .spdmRequest _ => none
  | .pairEscortPair h _ _ _ _ _ _ _ _ _ => some h
  | .pairEscortUnpair h => some h
  | .setDeadRule h _ _ _ => some h
  | .beginShadow h _ => some h
  | .bulkTransferEnd => none
  | .shadowWindowEnd _ _ _ _ => none
  | .promoteEscortSwap h => some h
  | .plannedSwapHandover => none
  | .promoteEscortAdmit h => some h
  | .stagePart h _ _ => some h
  | .stagePartDiscard h _ => some h
  | .activateManifest h _ _ => some h
  | .norWriteDone => none
  | .getFwState h => some h
  | .setPowerLimits h _ _ _ => some h
  | .prepareRemoval h _ => some h
  | .prepareRemovalAbort h => some h
  | .doorbell _ _ _ _ _ => none
  | .replyRingHeadWrite _ _ _ => none
  | .ringEnableSet _ _ => none
  | .ringEnableClear _ _ => none
  | .evqEnableSet _ => none
  | .evqHeadWrite _ _ => none
  | .lineEnableWrite _ => none
  | .tollPriorityWrite _ _ _ => none
  | .tollFenceClear _ => none
  | .flipArm => none
  | .registerWrite _ _ _ _ => none
  | .latchedHalfRead _ _ => none
  | .coalesceTimeout _ _ => none
  | .flr _ => none
  | .vfEnableClear _ => none
  | .linkReset => none
  | .functionPowerStateChange _ _ _ => none
  | .holdAssert => none
  | .holdRelease => none
  | .releaseDelayEnd _ => none
  | .streamHoldAssert _ => none
  | .streamHoldRelease _ => none
  | .inputEdge _ _ _ => none
  | .milestonePulse _ => none
  | .timeCodeFrame _ => none
  | .busLoss _ => none
  | .ptpMessage _ => none
  | .ptpAnnounceTimeout => none
  | .ptpSettled => none
  | .holdoverLimit => none
  | .encoderFrame _ _ => none
  | .trackStale _ => none
  | .milestoneTick => none
  | .entryExpiry _ _ => none
  | .lineMatch _ _ => none
  | .frameRelease _ _ => none
  | .pulseEnd _ _ => none
  | .ethernetLinkChange _ _ => none
  | .rtpPacket _ => none
  | .senderReport _ => none
  | .auLaterTimeout _ => none
  | .auFramePeriodTimeout _ => none
  | .pipeTake _ => none
  | .decodeComplete _ _ => none
  | .frameBudgetExpiry _ => none
  | .pipeRestart _ _ _ _ => none
  | .streamStalled _ => none
  | .encodePicture _ _ _ _ => none
  | .detectorRunDone _ _ _ _ _ => none
  | .cropBatchDone => none
  | .convoyBoundary _ _ => none
  | .convoyCommit _ _ => none
  | .flushScatterDone _ => none
  | .autoSwap _ => none
  | .arrayFiring _ => none
  | .refire _ _ _ => none
  | .bgCalVisit _ _ _ _ _ => none
  | .bgCalOverdue _ => none
  | .fullCalPass _ _ => none
  | .calStale _ => none
  | .restPeriodEnd => none
  | .handoverLoadEnd _ _ => none
  | .tollDecision _ _ _ _ => none
  | .tollWatchdogFence _ _ => none
  | .contextExpired _ => none
  | .watchdogBite _ _ _ => none
  | .keyStoreScan _ _ _ _ => none
  | .escortCellReceive _ => none
  | .heartbeatSend => none
  | .mgmtHeartbeatSend => none
  | .mgmtHeartbeatReceive _ => none
  | .mgmtPathLoss => none
  | .deadDeclaration => none
  | .selfFence => none
  | .linkHalf _ => none
  | .escortLinkUp _ _ _ _ _ => none
  | .presenceMate _ _ => none
  | .startRailsEnable => none
  | .powerOnReset _ => none
  | .recoveryPartnerTimeout => none
  | .presenceBreak => none
  | .slotRecordRetry _ => none
  | .breakout _ => none
  | .cablePlugEvent _ _ _ _ => none
  | .supplyDip _ => none
  | .dipClear _ => none
  | .resetAssert => none
  | .resetRelease => none
  | .overVoltageSet => none
  | .overVoltageClear => none
  | .powerSample _ _ _ => none
  | .thermalSample _ _ _ _ => none
  | .ladder _ => none
  | .pullNotice => none
  | .latchClose => none
  | .leavingCopyCovered => none
  | .removalReady => none
  | .pldmEffecterSet _ _ => none
  | .escortLinkDown => none
  | .coreMicrocodeHandover _ => none
  | .recoveryFromPartner _ => none
  | .watchdogRestartDone _ _ => none

/-- The opcode of a command packet (Table 10-20); an event has none. -/
def Instr.opcode (i : Instr) : Option Nat :=
  match i with
  | .hello _ _ _ => some 0x0001
  | .getCaps _ => some 0x0002
  | .getStatus _ _ _ _ _ _ => some 0x0003
  | .setEventMask _ _ => some 0x0010
  | .loadBale _ _ _ _ _ _ => some 0x0101
  | .loadBaleCopyDone _ _ _ => none
  | .seatBale _ _ _ _ => some 0x0102
  | .seatWritesDone _ _ => none
  | .unseatBale _ _ _ _ _ => some 0x0103
  | .unseatBaleDiscard _ _ _ _ => some 0x0103
  | .bayEmptied _ => none
  | .defineBay _ _ => some 0x0104
  | .setPeriod _ _ => some 0x0110
  | .rotateNow _ => some 0x0110
  | .unfence _ _ => some 0x0110
  | .setExhaustion _ _ => some 0x0110
  | .openContext _ _ => some 0x0201
  | .forkContext _ _ _ => some 0x0207
  | .pauseContext _ _ _ => some 0x0204
  | .pauseMoveDone _ => none
  | .pausedFrameMove _ _ => none
  | .resumeContext _ _ => some 0x0205
  | .resumeMoveDone _ => none
  | .closeContext _ _ => some 0x0206
  | .submitRequest _ _ _ => some 0x0202
  | .cancelRequest _ _ _ => some 0x0203
  | .setSamplingDefine _ _ _ => some 0x0210
  | .setSamplingDelete _ _ => some 0x0210
  | .setConvoyPolicy _ _ => some 0x0211
  | .openStream _ _ => some 0x0301
  | .closeStream _ _ => some 0x0302
  | .closeEncode _ _ => some 0x0302
  | .openEncode _ _ => some 0x0303
  | .defineRoute _ _ => some 0x0310
  | .dropRoute _ _ => some 0x0311
  | .dropRouteDone _ => none
  | .setTimebase _ _ => some 0x0401
  | .defineTrack _ _ => some 0x0402
  | .defineTrackDelete _ _ => some 0x0402
  | .defineActionStream _ _ => some 0x0403
  | .postLaunch _ _ => some 0x0404
  | .recallLaunch _ _ _ _ _ => some 0x0405
  | .scrubRange _ _ => some 0x0501
  | .scrubStop _ _ _ => some 0x0501
  | .scrubRun _ _ _ => none
  | .readErrorLog _ _ _ => some 0x0502
  | .retirePage _ _ => some 0x0503
  | .retirePageBank _ _ => some 0x0503
  | .retireArray _ _ _ _ => some 0x0504
  | .addTenant _ _ _ _ _ => some 0x0601
  | .removeTenant _ _ _ => some 0x0602
  | .slotQuarantineEnd _ _ => none
  | .setJobKeys _ _ _ => some 0x0603
  | .jobKeyOverlapEnd _ => none
  | .setConsent _ _ => some 0x0605
  | .getAttestation _ _ => some 0x0604
  | .spdmRequest _ => none
  | .pairEscortPair _ _ _ _ _ _ _ _ _ _ => some 0x0701
  | .pairEscortUnpair _ => some 0x0701
  | .setDeadRule _ _ _ _ => some 0x0702
  | .beginShadow _ _ => some 0x0703
  | .bulkTransferEnd => none
  | .shadowWindowEnd _ _ _ _ => none
  | .promoteEscortSwap _ => some 0x0704
  | .plannedSwapHandover => none
  | .promoteEscortAdmit _ => some 0x0704
  | .stagePart _ _ _ => some 0x0801
  | .stagePartDiscard _ _ => some 0x0801
  | .activateManifest _ _ _ => some 0x0802
  | .norWriteDone => none
  | .getFwState _ => some 0x0803
  | .setPowerLimits _ _ _ _ => some 0x0901
  | .prepareRemoval _ _ => some 0x0902
  | .prepareRemovalAbort _ => some 0x0902
  | .doorbell _ _ _ _ _ => none
  | .replyRingHeadWrite _ _ _ => none
  | .ringEnableSet _ _ => none
  | .ringEnableClear _ _ => none
  | .evqEnableSet _ => none
  | .evqHeadWrite _ _ => none
  | .lineEnableWrite _ => none
  | .tollPriorityWrite _ _ _ => none
  | .tollFenceClear _ => none
  | .flipArm => none
  | .registerWrite _ _ _ _ => none
  | .latchedHalfRead _ _ => none
  | .coalesceTimeout _ _ => none
  | .flr _ => none
  | .vfEnableClear _ => none
  | .linkReset => none
  | .functionPowerStateChange _ _ _ => none
  | .holdAssert => none
  | .holdRelease => none
  | .releaseDelayEnd _ => none
  | .streamHoldAssert _ => none
  | .streamHoldRelease _ => none
  | .inputEdge _ _ _ => none
  | .milestonePulse _ => none
  | .timeCodeFrame _ => none
  | .busLoss _ => none
  | .ptpMessage _ => none
  | .ptpAnnounceTimeout => none
  | .ptpSettled => none
  | .holdoverLimit => none
  | .encoderFrame _ _ => none
  | .trackStale _ => none
  | .milestoneTick => none
  | .entryExpiry _ _ => none
  | .lineMatch _ _ => none
  | .frameRelease _ _ => none
  | .pulseEnd _ _ => none
  | .ethernetLinkChange _ _ => none
  | .rtpPacket _ => none
  | .senderReport _ => none
  | .auLaterTimeout _ => none
  | .auFramePeriodTimeout _ => none
  | .pipeTake _ => none
  | .decodeComplete _ _ => none
  | .frameBudgetExpiry _ => none
  | .pipeRestart _ _ _ _ => none
  | .streamStalled _ => none
  | .encodePicture _ _ _ _ => none
  | .detectorRunDone _ _ _ _ _ => none
  | .cropBatchDone => none
  | .convoyBoundary _ _ => none
  | .convoyCommit _ _ => none
  | .flushScatterDone _ => none
  | .autoSwap _ => none
  | .arrayFiring _ => none
  | .refire _ _ _ => none
  | .bgCalVisit _ _ _ _ _ => none
  | .bgCalOverdue _ => none
  | .fullCalPass _ _ => none
  | .calStale _ => none
  | .restPeriodEnd => none
  | .handoverLoadEnd _ _ => none
  | .tollDecision _ _ _ _ => none
  | .tollWatchdogFence _ _ => none
  | .contextExpired _ => none
  | .watchdogBite _ _ _ => none
  | .keyStoreScan _ _ _ _ => none
  | .escortCellReceive _ => none
  | .heartbeatSend => none
  | .mgmtHeartbeatSend => none
  | .mgmtHeartbeatReceive _ => none
  | .mgmtPathLoss => none
  | .deadDeclaration => none
  | .selfFence => none
  | .linkHalf _ => none
  | .escortLinkUp _ _ _ _ _ => none
  | .presenceMate _ _ => none
  | .startRailsEnable => none
  | .powerOnReset _ => none
  | .recoveryPartnerTimeout => none
  | .presenceBreak => none
  | .slotRecordRetry _ => none
  | .breakout _ => none
  | .cablePlugEvent _ _ _ _ => none
  | .supplyDip _ => none
  | .dipClear _ => none
  | .resetAssert => none
  | .resetRelease => none
  | .overVoltageSet => none
  | .overVoltageClear => none
  | .powerSample _ _ _ => none
  | .thermalSample _ _ _ _ => none
  | .ladder _ => none
  | .pullNotice => none
  | .latchClose => none
  | .leavingCopyCovered => none
  | .removalReady => none
  | .pldmEffecterSet _ _ => none
  | .escortLinkDown => none
  | .coreMicrocodeHandover _ => none
  | .recoveryFromPartner _ => none
  | .watchdogRestartDone _ _ => none

end Sys2Proof
end

