-- ==== Sys2Proof/Laws/PerInstr.lean ====
section
/-! SUPPORT. Facts about every command and event as syntax, one lemma per constructor. -/

namespace Sys2Proof.Laws.Packet

/-- A command packet has a header and an opcode of Table 10-20; an event has neither (R281, R288). -/
def Statement (i : Instr) : Prop :=
  i.opcode.isSome = i.header.isSome ∧ ∀ op, i.opcode = some op → Machine.opcodes.contains op = true

theorem event (i : Instr) (o : i.opcode = none) (h : i.header = none) : Statement i :=
  ⟨by rw [o, h]; rfl, fun _ e => by rw [o] at e; exact nomatch e⟩

theorem packet (i : Instr) (op : Nat) (h : Hdr) (o : i.opcode = some op) (e : i.header = some h)
    (c : Machine.opcodes.contains op = true) : Statement i :=
  ⟨by rw [o, e]; rfl, fun p q => by rw [o] at q; cases q; exact c⟩

theorem hello (h : Hdr) (genMax genMin : Nat) : Statement (.hello h genMax genMin) := packet _ _ _ rfl rfl (by decide)
theorem getCaps (h : Hdr) : Statement (.getCaps h) := packet _ _ _ rfl rfl (by decide)
theorem getStatus (h : Hdr) (selector keyA keyB keyC keyD : Nat) :
    Statement (.getStatus h selector keyA keyB keyC keyD) := packet _ _ _ rfl rfl (by decide)
theorem setEventMask (h : Hdr) (enable : Nat) : Statement (.setEventMask h enable) := packet _ _ _ rfl rfl (by decide)
theorem loadBale (h : Hdr) (source tier : Nat) (store : Bool) (libraryIndex : Nat) (bale : Bale) :
    Statement (.loadBale h source tier store libraryIndex bale) := packet _ _ _ rfl rfl (by decide)
theorem loadBaleCopyDone (fn ring tag : Nat) : Statement (.loadBaleCopyDone fn ring tag) := event _ rfl rfl
theorem seatBale (h : Hdr) (handle bay mode : Nat) :
    Statement (.seatBale h handle bay mode) := packet _ _ _ rfl rfl (by decide)
theorem seatWritesDone (bay : Nat) (probes : ProbeFails) : Statement (.seatWritesDone bay probes) := event _ rfl rfl
theorem unseatBale (h : Hdr) (bay mode : Nat) (discard deleteLibrary : Bool) :
    Statement (.unseatBale h bay mode discard deleteLibrary) := packet _ _ _ rfl rfl (by decide)
theorem unseatBaleDiscard (h : Hdr) (handle : Nat) (discard deleteLibrary : Bool) :
    Statement (.unseatBaleDiscard h handle discard deleteLibrary) := packet _ _ _ rfl rfl (by decide)
theorem bayEmptied (bay : Nat) : Statement (.bayEmptied bay) := event _ rfl rfl
theorem defineBay (h : Hdr) (p : BayParams) : Statement (.defineBay h p) := packet _ _ _ rfl rfl (by decide)
theorem setPeriod (h : Hdr) (period : Nat) : Statement (.setPeriod h period) := packet _ _ _ rfl rfl (by decide)
theorem rotateNow (h : Hdr) : Statement (.rotateNow h) := packet _ _ _ rfl rfl (by decide)
theorem unfence (h : Hdr) (core : Nat) : Statement (.unfence h core) := packet _ _ _ rfl rfl (by decide)
theorem setExhaustion (h : Hdr) (policy : Nat) : Statement (.setExhaustion h policy) := packet _ _ _ rfl rfl (by decide)
theorem openContext (h : Hdr) (limit : Nat) : Statement (.openContext h limit) := packet _ _ _ rfl rfl (by decide)
theorem forkContext (h : Hdr) (parent position : Nat) :
    Statement (.forkContext h parent position) := packet _ _ _ rfl rfl (by decide)
theorem pauseContext (h : Hdr) (context ttl : Nat) :
    Statement (.pauseContext h context ttl) := packet _ _ _ rfl rfl (by decide)
theorem pauseMoveDone (context : Nat) : Statement (.pauseMoveDone context) := event _ rfl rfl
theorem pausedFrameMove (context page : Nat) : Statement (.pausedFrameMove context page) := event _ rfl rfl
theorem resumeContext (h : Hdr) (context : Nat) :
    Statement (.resumeContext h context) := packet _ _ _ rfl rfl (by decide)
theorem resumeMoveDone (context : Nat) : Statement (.resumeMoveDone context) := event _ rfl rfl
theorem closeContext (h : Hdr) (context : Nat) : Statement (.closeContext h context) := packet _ _ _ rfl rfl (by decide)
theorem submitRequest (h : Hdr) (p : SubmitParams) (inputs : List (Nat × Nat)) :
    Statement (.submitRequest h p inputs) := packet _ _ _ rfl rfl (by decide)
theorem cancelRequest (h : Hdr) (request : Nat) (withRecall : Bool) :
    Statement (.cancelRequest h request withRecall) := packet _ _ _ rfl rfl (by decide)
theorem setSamplingDefine (h : Hdr) (template : Nat) (r : SamplingDef) :
    Statement (.setSamplingDefine h template r) := packet _ _ _ rfl rfl (by decide)
theorem setSamplingDelete (h : Hdr) (template : Nat) :
    Statement (.setSamplingDelete h template) := packet _ _ _ rfl rfl (by decide)
theorem setConvoyPolicy (h : Hdr) (p : PolicyParams) :
    Statement (.setConvoyPolicy h p) := packet _ _ _ rfl rfl (by decide)
theorem openStream (h : Hdr) (p : StreamParams) : Statement (.openStream h p) := packet _ _ _ rfl rfl (by decide)
theorem closeStream (h : Hdr) (stream : Nat) : Statement (.closeStream h stream) := packet _ _ _ rfl rfl (by decide)
theorem closeEncode (h : Hdr) (session : Nat) : Statement (.closeEncode h session) := packet _ _ _ rfl rfl (by decide)
theorem openEncode (h : Hdr) (p : EncodeParams) : Statement (.openEncode h p) := packet _ _ _ rfl rfl (by decide)
theorem defineRoute (h : Hdr) (p : RouteParams) : Statement (.defineRoute h p) := packet _ _ _ rfl rfl (by decide)
theorem dropRoute (h : Hdr) (route : Nat) : Statement (.dropRoute h route) := packet _ _ _ rfl rfl (by decide)
theorem dropRouteDone (route : Nat) : Statement (.dropRouteDone route) := event _ rfl rfl
theorem setTimebase (h : Hdr) (p : TimebaseParams) : Statement (.setTimebase h p) := packet _ _ _ rfl rfl (by decide)
theorem defineTrack (h : Hdr) (p : TrackParams) : Statement (.defineTrack h p) := packet _ _ _ rfl rfl (by decide)
theorem defineTrackDelete (h : Hdr) (track : Nat) :
    Statement (.defineTrackDelete h track) := packet _ _ _ rfl rfl (by decide)
theorem defineActionStream (h : Hdr) (p : ActionParams) :
    Statement (.defineActionStream h p) := packet _ _ _ rfl rfl (by decide)
theorem postLaunch (h : Hdr) (p : PostParams) : Statement (.postLaunch h p) := packet _ _ _ rfl rfl (by decide)
theorem recallLaunch (h : Hdr) (stream : Nat) (byRequest : Bool) (key count : Nat) :
    Statement (.recallLaunch h stream byRequest key count) := packet _ _ _ rfl rfl (by decide)
theorem scrubRange (h : Hdr) (p : ScrubParams) : Statement (.scrubRange h p) := packet _ _ _ rfl rfl (by decide)
theorem scrubStop (h : Hdr) (cls unit : Nat) : Statement (.scrubStop h cls unit) := packet _ _ _ rfl rfl (by decide)
theorem scrubRun (cls unit : Nat) (found : List FoundError) : Statement (.scrubRun cls unit found) := event _ rfl rfl
theorem readErrorLog (h : Hdr) (from_ count : Nat) :
    Statement (.readErrorLog h from_ count) := packet _ _ _ rfl rfl (by decide)
theorem retirePage (h : Hdr) (page : Nat) : Statement (.retirePage h page) := packet _ _ _ rfl rfl (by decide)
theorem retirePageBank (h : Hdr) (page : Nat) : Statement (.retirePageBank h page) := packet _ _ _ rfl rfl (by decide)
theorem retireArray (h : Hdr) (core string position : Nat) :
    Statement (.retireArray h core string position) := packet _ _ _ rfl rfl (by decide)
theorem addTenant (h : Hdr) (tenant hbmQuota wayQuota point : Nat) :
    Statement (.addTenant h tenant hbmQuota wayQuota point) := packet _ _ _ rfl rfl (by decide)
theorem removeTenant (h : Hdr) (tenant : Nat) (keepLibrary : Bool) :
    Statement (.removeTenant h tenant keepLibrary) := packet _ _ _ rfl rfl (by decide)
theorem slotQuarantineEnd (slot lateWrites : Nat) : Statement (.slotQuarantineEnd slot lateWrites) := event _ rfl rfl
theorem setJobKeys (h : Hdr) (jobGen : Nat) (payload : List Byte) :
    Statement (.setJobKeys h jobGen payload) := packet _ _ _ rfl rfl (by decide)
theorem jobKeyOverlapEnd (tenant : Nat) : Statement (.jobKeyOverlapEnd tenant) := event _ rfl rfl
theorem setConsent (h : Hdr) (payload : List Byte) :
    Statement (.setConsent h payload) := packet _ _ _ rfl rfl (by decide)
theorem getAttestation (h : Hdr) (payload : List Byte) :
    Statement (.getAttestation h payload) := packet _ _ _ rfl rfl (by decide)
theorem spdmRequest (message : List Byte) : Statement (.spdmRequest message) := event _ rfl rfl
theorem pairEscortPair (h : Hdr) (joiner : Bool) (partnerSlot partnerSerial epochFloor : Nat) (partnerEpoch : Nat) (partnerHello : PairHello) (trained spdmOk partnerAsksActive : Bool) :
    Statement (.pairEscortPair h joiner partnerSlot partnerSerial epochFloor partnerEpoch partnerHello trained spdmOk partnerAsksActive) := packet _ _ _ rfl rfl (by decide)
theorem pairEscortUnpair (h : Hdr) : Statement (.pairEscortUnpair h) := packet _ _ _ rfl rfl (by decide)
theorem setDeadRule (h : Hdr) (rule nLink nMgmt : Nat) :
    Statement (.setDeadRule h rule nLink nMgmt) := packet _ _ _ rfl rfl (by decide)
theorem beginShadow (h : Hdr) (p : ShadowParams) : Statement (.beginShadow h p) := packet _ _ _ rfl rfl (by decide)
theorem bulkTransferEnd : Statement .bulkTransferEnd := event _ rfl rfl
theorem shadowWindowEnd (agree compared convoys : Nat) (distance : F32) :
    Statement (.shadowWindowEnd agree compared convoys distance) := event _ rfl rfl
theorem promoteEscortSwap (h : Hdr) : Statement (.promoteEscortSwap h) := packet _ _ _ rfl rfl (by decide)
theorem plannedSwapHandover : Statement .plannedSwapHandover := event _ rfl rfl
theorem promoteEscortAdmit (h : Hdr) : Statement (.promoteEscortAdmit h) := packet _ _ _ rfl rfl (by decide)
theorem stagePart (h : Hdr) (partId : Nat) (p : StagedPayload) :
    Statement (.stagePart h partId p) := packet _ _ _ rfl rfl (by decide)
theorem stagePartDiscard (h : Hdr) (partId : Nat) :
    Statement (.stagePartDiscard h partId) := packet _ _ _ rfl rfl (by decide)
theorem activateManifest (h : Hdr) (windows : List (Nat × PartWindow)) (unrestored : List Nat) :
    Statement (.activateManifest h windows unrestored) := packet _ _ _ rfl rfl (by decide)
theorem norWriteDone : Statement .norWriteDone := event _ rfl rfl
theorem getFwState (h : Hdr) : Statement (.getFwState h) := packet _ _ _ rfl rfl (by decide)
theorem setPowerLimits (h : Hdr) (cap rampUp rampDown : Nat) :
    Statement (.setPowerLimits h cap rampUp rampDown) := packet _ _ _ rfl rfl (by decide)
theorem prepareRemoval (h : Hdr) (force : Bool) :
    Statement (.prepareRemoval h force) := packet _ _ _ rfl rfl (by decide)
theorem prepareRemovalAbort (h : Hdr) : Statement (.prepareRemovalAbort h) := packet _ _ _ rfl rfl (by decide)
theorem doorbell (fn ring tail : Nat) (packets : List (List Byte)) (failAddr : Option Nat) :
    Statement (.doorbell fn ring tail packets failAddr) := event _ rfl rfl
theorem replyRingHeadWrite (fn ring head : Nat) : Statement (.replyRingHeadWrite fn ring head) := event _ rfl rfl
theorem ringEnableSet (fn ring : Nat) : Statement (.ringEnableSet fn ring) := event _ rfl rfl
theorem ringEnableClear (fn ring : Nat) : Statement (.ringEnableClear fn ring) := event _ rfl rfl
theorem evqEnableSet (fn : Nat) : Statement (.evqEnableSet fn) := event _ rfl rfl
theorem evqHeadWrite (fn head : Nat) : Statement (.evqHeadWrite fn head) := event _ rfl rfl
theorem lineEnableWrite (value : Nat) : Statement (.lineEnableWrite value) := event _ rfl rfl
theorem tollPriorityWrite (toll offset : Nat) (value : W32) :
    Statement (.tollPriorityWrite toll offset value) := event _ rfl rfl
theorem tollFenceClear (mask : Nat) : Statement (.tollFenceClear mask) := event _ rfl rfl
theorem flipArm : Statement .flipArm := event _ rfl rfl
theorem registerWrite (fn offset size : Nat) (value : W64) :
    Statement (.registerWrite fn offset size value) := event _ rfl rfl
theorem latchedHalfRead (fn offset : Nat) : Statement (.latchedHalfRead fn offset) := event _ rfl rfl
theorem coalesceTimeout (fn ring : Nat) : Statement (.coalesceTimeout fn ring) := event _ rfl rfl
theorem flr (fn : Nat) : Statement (.flr fn) := event _ rfl rfl
theorem vfEnableClear (numVfs : Nat) : Statement (.vfEnableClear numVfs) := event _ rfl rfl
theorem linkReset : Statement .linkReset := event _ rfl rfl
theorem functionPowerStateChange (fn : Nat) (d3hot busMaster : Bool) :
    Statement (.functionPowerStateChange fn d3hot busMaster) := event _ rfl rfl
theorem holdAssert : Statement .holdAssert := event _ rfl rfl
theorem holdRelease : Statement .holdRelease := event _ rfl rfl
theorem releaseDelayEnd (input : Option Nat) : Statement (.releaseDelayEnd input) := event _ rfl rfl
theorem streamHoldAssert (input : Nat) : Statement (.streamHoldAssert input) := event _ rfl rfl
theorem streamHoldRelease (input : Nat) : Statement (.streamHoldRelease input) := event _ rfl rfl
theorem inputEdge (input : Nat) (rising : Bool) (fraction : Nat) :
    Statement (.inputEdge input rising fraction) := event _ rfl rfl
theorem milestonePulse (pllLocked : Bool) : Statement (.milestonePulse pllLocked) := event _ rfl rfl
theorem timeCodeFrame (bytes : List Byte) : Statement (.timeCodeFrame bytes) := event _ rfl rfl
theorem busLoss (pllUnlocked : Bool) : Statement (.busLoss pllUnlocked) := event _ rfl rfl
theorem ptpMessage (m : PtpMsg) : Statement (.ptpMessage m) := event _ rfl rfl
theorem ptpAnnounceTimeout : Statement .ptpAnnounceTimeout := event _ rfl rfl
theorem ptpSettled : Statement .ptpSettled := event _ rfl rfl
theorem holdoverLimit : Statement .holdoverLimit := event _ rfl rfl
theorem encoderFrame (port : Nat) (f : EncFrame) : Statement (.encoderFrame port f) := event _ rfl rfl
theorem trackStale (track : Nat) : Statement (.trackStale track) := event _ rfl rfl
theorem milestoneTick : Statement .milestoneTick := event _ rfl rfl
theorem entryExpiry (stream sequence : Nat) : Statement (.entryExpiry stream sequence) := event _ rfl rfl
theorem lineMatch (stream sequence : Nat) : Statement (.lineMatch stream sequence) := event _ rfl rfl
theorem frameRelease (stream sequence : Nat) : Statement (.frameRelease stream sequence) := event _ rfl rfl
theorem pulseEnd (stream sequence : Nat) : Statement (.pulseEnd stream sequence) := event _ rfl rfl
theorem ethernetLinkChange (port : Nat) (up : Bool) : Statement (.ethernetLinkChange port up) := event _ rfl rfl
theorem rtpPacket (p : RtpPacket) : Statement (.rtpPacket p) := event _ rfl rfl
theorem senderReport (r : SenderRep) : Statement (.senderReport r) := event _ rfl rfl
theorem auLaterTimeout (stream : Nat) : Statement (.auLaterTimeout stream) := event _ rfl rfl
theorem auFramePeriodTimeout (stream : Nat) : Statement (.auFramePeriodTimeout stream) := event _ rfl rfl
theorem pipeTake (pipe : Nat) : Statement (.pipeTake pipe) := event _ rfl rfl
theorem decodeComplete (pipe : Nat) (d : PictureData) : Statement (.decodeComplete pipe d) := event _ rfl rfl
theorem frameBudgetExpiry (e : PipeExpiry) : Statement (.frameBudgetExpiry e) := event _ rfl rfl
theorem pipeRestart (pipe width height bitDepth : Nat) :
    Statement (.pipeRestart pipe width height bitDepth) := event _ rfl rfl
theorem streamStalled (stream : Nat) : Statement (.streamStalled stream) := event _ rfl rfl
theorem encodePicture (session startQp headerBits : Nat) (blocks : List BlockBits) :
    Statement (.encodePicture session startQp headerBits blocks) := event _ rfl rfl
theorem detectorRunDone (stream picture bay laterFlushed : Nat) (run : DetectorRun) :
    Statement (.detectorRunDone stream picture bay laterFlushed run) := event _ rfl rfl
theorem cropBatchDone : Statement .cropBatchDone := event _ rfl rfl
theorem convoyBoundary (bay : Nat) (work : List AttnWork) : Statement (.convoyBoundary bay work) := event _ rfl rfl
theorem convoyCommit (bay : Nat) (results : List CommitResult) :
    Statement (.convoyCommit bay results) := event _ rfl rfl
theorem flushScatterDone (context : Nat) : Statement (.flushScatterDone context) := event _ rfl rfl
theorem autoSwap (bay : Nat) : Statement (.autoSwap bay) := event _ rfl rfl
theorem arrayFiring (f : Firing) : Statement (.arrayFiring f) := event _ rfl rfl
theorem refire (core string position : Nat) : Statement (.refire core string position) := event _ rfl rfl
theorem bgCalVisit (core string position : Nat) (first retry : List CalMeasure) :
    Statement (.bgCalVisit core string position first retry) := event _ rfl rfl
theorem bgCalOverdue (core : Nat) : Statement (.bgCalOverdue core) := event _ rfl rfl
theorem fullCalPass (core : Nat) (results : List FullCalResult) :
    Statement (.fullCalPass core results) := event _ rfl rfl
theorem calStale (core : Nat) : Statement (.calStale core) := event _ rfl rfl
theorem restPeriodEnd : Statement .restPeriodEnd := event _ rfl rfl
theorem handoverLoadEnd (firstProbe secondProbe : List (Nat × Nat)) :
    Statement (.handoverLoadEnd firstProbe secondProbe) := event _ rfl rfl
theorem tollDecision (toll requests beats cycles : Nat) :
    Statement (.tollDecision toll requests beats cycles) := event _ rfl rfl
theorem tollWatchdogFence (toll cycles : Nat) : Statement (.tollWatchdogFence toll cycles) := event _ rfl rfl
theorem contextExpired (context : Nat) : Statement (.contextExpired context) := event _ rfl rfl
theorem watchdogBite (part processor : Nat) (poisonedRam : Bool) :
    Statement (.watchdogBite part processor poisonedRam) := event _ rfl rfl
theorem keyStoreScan (oneCopy bothCopies : List Nat) (loaderBad loaderNorOk : Bool) :
    Statement (.keyStoreScan oneCopy bothCopies loaderBad loaderNorOk) := event _ rfl rfl
theorem escortCellReceive (c : Cell) : Statement (.escortCellReceive c) := event _ rfl rfl
theorem heartbeatSend : Statement .heartbeatSend := event _ rfl rfl
theorem mgmtHeartbeatSend : Statement .mgmtHeartbeatSend := event _ rfl rfl
theorem mgmtHeartbeatReceive (m : MgmtMsg) : Statement (.mgmtHeartbeatReceive m) := event _ rfl rfl
theorem mgmtPathLoss : Statement .mgmtPathLoss := event _ rfl rfl
theorem deadDeclaration : Statement .deadDeclaration := event _ rfl rfl
theorem selfFence : Statement .selfFence := event _ rfl rfl
theorem linkHalf (port : Nat) : Statement (.linkHalf port) := event _ rfl rfl
theorem escortLinkUp (partnerSerial partnerGenMax partnerGenMin partnerFormat partnerRandom : Nat) :
    Statement (.escortLinkUp partnerSerial partnerGenMax partnerGenMin partnerFormat partnerRandom) := event _ rfl rfl
theorem presenceMate (slot breakout : IdRecord) : Statement (.presenceMate slot breakout) := event _ rfl rfl
theorem startRailsEnable : Statement .startRailsEnable := event _ rfl rfl
theorem powerOnReset (b : BootImages) : Statement (.powerOnReset b) := event _ rfl rfl
theorem recoveryPartnerTimeout : Statement .recoveryPartnerTimeout := event _ rfl rfl
theorem presenceBreak : Statement .presenceBreak := event _ rfl rfl
theorem slotRecordRetry (slot : IdRecord) : Statement (.slotRecordRetry slot) := event _ rfl rfl
theorem breakout (r : IdRecord) : Statement (.breakout r) := event _ rfl rfl
theorem cablePlugEvent (port lanes laneMbps : Nat) (present : Bool) :
    Statement (.cablePlugEvent port lanes laneMbps present) := event _ rfl rfl
theorem supplyDip (millivolts : Nat) : Statement (.supplyDip millivolts) := event _ rfl rfl
theorem dipClear (millivolts : Nat) : Statement (.dipClear millivolts) := event _ rfl rfl
theorem resetAssert : Statement .resetAssert := event _ rfl rfl
theorem resetRelease : Statement .resetRelease := event _ rfl rfl
theorem overVoltageSet : Statement .overVoltageSet := event _ rfl rfl
theorem overVoltageClear : Statement .overVoltageClear := event _ rfl rfl
theorem powerSample (watts tenMilliamps : Nat) (volts : SupplyVolts) :
    Statement (.powerSample watts tenMilliamps volts) := event _ rfl rfl
theorem thermalSample (inlet outlet junction : Int) (flow : Nat) :
    Statement (.thermalSample inlet outlet junction flow) := event _ rfl rfl
theorem ladder (rung : Nat) : Statement (.ladder rung) := event _ rfl rfl
theorem pullNotice : Statement .pullNotice := event _ rfl rfl
theorem latchClose : Statement .latchClose := event _ rfl rfl
theorem leavingCopyCovered : Statement .leavingCopyCovered := event _ rfl rfl
theorem removalReady : Statement .removalReady := event _ rfl rfl
theorem pldmEffecterSet (effecter value : Nat) : Statement (.pldmEffecterSet effecter value) := event _ rfl rfl
theorem escortLinkDown : Statement .escortLinkDown := event _ rfl rfl
theorem coreMicrocodeHandover (core : Nat) : Statement (.coreMicrocodeHandover core) := event _ rfl rfl
theorem recoveryFromPartner (b : BootImages) : Statement (.recoveryFromPartner b) := event _ rfl rfl
theorem watchdogRestartDone (part processor : Nat) : Statement (.watchdogRestartDone part processor) := event _ rfl rfl

end Sys2Proof.Laws.Packet
end

