-- ==== Sys2Proof/Laws/Start.lean ====
section
/-! SUPPORT. How a host command starts: the shared spec lemmas of State.hostCmd and State.cmd. -/

namespace Sys2Proof.Machine

theorem State.runStarted_runs (s : State) (op : Nat) (h : Hdr) (c : CmdRef) (k : CmdRef → State → State)
    (z : h.rsvdZero = true) (m : modeRefuses op h s = false) (p : h.payloadOk = true) (q : scatterOk h = true) :
    s.runStarted op h c k = k c s := by
  simp [State.runStarted, z, m, p, q]

theorem modeRefuses_markStarted (op : Nat) (h : Hdr) (s : State) : modeRefuses op h (s.markStarted h) = modeRefuses op h s := rfl

/-- A command that passes the header checks has its RSVD bits zero (Table 10-17 step 7). -/
theorem headerCheck_rsvdZero (op : Nat) (h : Hdr) (s : State) (e : headerCheck op h s = none) : h.rsvdZero = true := by
  by_contra n
  simp only [Bool.not_eq_true] at n
  unfold headerCheck at e
  simp only [n] at e
  split_ifs at e <;> simp_all

/-- A startable command runs its opcode's own rules on the state it has started in. -/
theorem State.cmd_started (s : State) (op : Nat) (h : Hdr) (k : CmdRef → State → State) (e : startable op h s = true) :
    s.cmd op h k = k (cmdRef op h s) (s.started op h) := by
  simp only [startable, Bool.and_eq_true, Bool.not_eq_true', Option.isNone_iff_eq_none, List.isEmpty_iff] at e
  obtain ⟨⟨⟨⟨⟨⟨⟨⟨⟨c, v⟩, f⟩, q⟩, u⟩, n⟩, b⟩, m⟩, p⟩, w⟩ := e
  have z := headerCheck_rsvdZero op h s n
  unfold State.cmd State.hostCmd
  simp only [c, v, q, f, u, b, n, List.isEmpty_nil, Bool.not_true, Bool.not_false, Bool.false_eq_true, if_false, Bool.or_self]
  rw [State.runStarted_runs _ _ _ _ _ z ((modeRefuses_markStarted op h s).trans m) p w]
  unfold State.started
  split <;> rfl

end Sys2Proof.Machine
end

