-- ==== Sys2Proof/Laws/State.lean ====
section
/-! SUPPORT. What each plain update of the state does to each of its fields. -/

namespace Sys2Proof.Machine

@[simp] theorem State.emit_keeps_host (s : State) (o : Output) : (s.emit o).host = s.host := rfl
@[simp] theorem State.emit_keeps_mls (s : State) (o : Output) : (s.emit o).mls = s.mls := rfl
@[simp] theorem State.emit_keeps_cores (s : State) (o : Output) : (s.emit o).cores = s.cores := rfl
@[simp] theorem State.emit_keeps_bays (s : State) (o : Output) : (s.emit o).bays = s.bays := rfl
@[simp] theorem State.emit_keeps_ctxs (s : State) (o : Output) : (s.emit o).ctxs = s.ctxs := rfl
@[simp] theorem State.emit_keeps_reqs (s : State) (o : Output) : (s.emit o).reqs = s.reqs := rfl
@[simp] theorem State.emit_keeps_video (s : State) (o : Output) : (s.emit o).video = s.video := rfl
@[simp] theorem State.emit_keeps_mem (s : State) (o : Output) : (s.emit o).mem = s.mem := rfl
@[simp] theorem State.emit_keeps_customs (s : State) (o : Output) : (s.emit o).customs = s.customs := rfl
@[simp] theorem State.emit_keeps_escort (s : State) (o : Output) : (s.emit o).escort = s.escort := rfl
@[simp] theorem State.emit_keeps_power (s : State) (o : Output) : (s.emit o).power = s.power := rfl
@[simp] theorem State.emit_keeps_fw (s : State) (o : Output) : (s.emit o).fw = s.fw := rfl
@[simp] theorem State.emit_keeps_persist (s : State) (o : Output) : (s.emit o).persist = s.persist := rfl
@[simp] theorem State.emit_keeps_fuses (s : State) (o : Output) : (s.emit o).fuses = s.fuses := rfl
@[simp] theorem State.emit_keeps_stats (s : State) (o : Output) : (s.emit o).stats = s.stats := rfl
@[simp] theorem State.emit_keeps_free (s : State) (o : Output) : (s.emit o).free = s.free := rfl
@[simp] theorem State.emit_sets_out (s : State) (o : Output) :
    (s.emit o).out = s.out ++ [o] := rfl
@[simp] theorem State.emit_keeps_pending (s : State) (o : Output) : (s.emit o).pending = s.pending := rfl

@[simp] theorem State.setFn_sets_host (s : State) (fn : Nat) (f : FnState) :
    (s.setFn fn f).host = { s.host with fns := Map.set s.host.fns fn f } := rfl
@[simp] theorem State.setFn_keeps_mls (s : State) (fn : Nat) (f : FnState) : (s.setFn fn f).mls = s.mls := rfl
@[simp] theorem State.setFn_keeps_cores (s : State) (fn : Nat) (f : FnState) : (s.setFn fn f).cores = s.cores := rfl
@[simp] theorem State.setFn_keeps_bays (s : State) (fn : Nat) (f : FnState) : (s.setFn fn f).bays = s.bays := rfl
@[simp] theorem State.setFn_keeps_ctxs (s : State) (fn : Nat) (f : FnState) : (s.setFn fn f).ctxs = s.ctxs := rfl
@[simp] theorem State.setFn_keeps_reqs (s : State) (fn : Nat) (f : FnState) : (s.setFn fn f).reqs = s.reqs := rfl
@[simp] theorem State.setFn_keeps_video (s : State) (fn : Nat) (f : FnState) : (s.setFn fn f).video = s.video := rfl
@[simp] theorem State.setFn_keeps_mem (s : State) (fn : Nat) (f : FnState) : (s.setFn fn f).mem = s.mem := rfl
@[simp] theorem State.setFn_keeps_customs (s : State) (fn : Nat) (f : FnState) : (s.setFn fn f).customs = s.customs := rfl
@[simp] theorem State.setFn_keeps_escort (s : State) (fn : Nat) (f : FnState) : (s.setFn fn f).escort = s.escort := rfl
@[simp] theorem State.setFn_keeps_power (s : State) (fn : Nat) (f : FnState) : (s.setFn fn f).power = s.power := rfl
@[simp] theorem State.setFn_keeps_fw (s : State) (fn : Nat) (f : FnState) : (s.setFn fn f).fw = s.fw := rfl
@[simp] theorem State.setFn_keeps_persist (s : State) (fn : Nat) (f : FnState) : (s.setFn fn f).persist = s.persist := rfl
@[simp] theorem State.setFn_keeps_fuses (s : State) (fn : Nat) (f : FnState) : (s.setFn fn f).fuses = s.fuses := rfl
@[simp] theorem State.setFn_keeps_stats (s : State) (fn : Nat) (f : FnState) : (s.setFn fn f).stats = s.stats := rfl
@[simp] theorem State.setFn_keeps_free (s : State) (fn : Nat) (f : FnState) : (s.setFn fn f).free = s.free := rfl
@[simp] theorem State.setFn_keeps_out (s : State) (fn : Nat) (f : FnState) : (s.setFn fn f).out = s.out := rfl
@[simp] theorem State.setFn_keeps_pending (s : State) (fn : Nat) (f : FnState) : (s.setFn fn f).pending = s.pending := rfl

@[simp] theorem State.setRing_sets_host (s : State) (fn ring : Nat) (r : RingPair) :
    (s.setRing fn ring r).host = { s.host with rings := Map.set s.host.rings (ringNo fn ring) r } := rfl
@[simp] theorem State.setRing_keeps_mls (s : State) (fn ring : Nat) (r : RingPair) :
    (s.setRing fn ring r).mls = s.mls := rfl
@[simp] theorem State.setRing_keeps_cores (s : State) (fn ring : Nat) (r : RingPair) :
    (s.setRing fn ring r).cores = s.cores := rfl
@[simp] theorem State.setRing_keeps_bays (s : State) (fn ring : Nat) (r : RingPair) :
    (s.setRing fn ring r).bays = s.bays := rfl
@[simp] theorem State.setRing_keeps_ctxs (s : State) (fn ring : Nat) (r : RingPair) :
    (s.setRing fn ring r).ctxs = s.ctxs := rfl
@[simp] theorem State.setRing_keeps_reqs (s : State) (fn ring : Nat) (r : RingPair) :
    (s.setRing fn ring r).reqs = s.reqs := rfl
@[simp] theorem State.setRing_keeps_video (s : State) (fn ring : Nat) (r : RingPair) :
    (s.setRing fn ring r).video = s.video := rfl
@[simp] theorem State.setRing_keeps_mem (s : State) (fn ring : Nat) (r : RingPair) :
    (s.setRing fn ring r).mem = s.mem := rfl
@[simp] theorem State.setRing_keeps_customs (s : State) (fn ring : Nat) (r : RingPair) :
    (s.setRing fn ring r).customs = s.customs := rfl
@[simp] theorem State.setRing_keeps_escort (s : State) (fn ring : Nat) (r : RingPair) :
    (s.setRing fn ring r).escort = s.escort := rfl
@[simp] theorem State.setRing_keeps_power (s : State) (fn ring : Nat) (r : RingPair) :
    (s.setRing fn ring r).power = s.power := rfl
@[simp] theorem State.setRing_keeps_fw (s : State) (fn ring : Nat) (r : RingPair) : (s.setRing fn ring r).fw = s.fw := rfl
@[simp] theorem State.setRing_keeps_persist (s : State) (fn ring : Nat) (r : RingPair) :
    (s.setRing fn ring r).persist = s.persist := rfl
@[simp] theorem State.setRing_keeps_fuses (s : State) (fn ring : Nat) (r : RingPair) :
    (s.setRing fn ring r).fuses = s.fuses := rfl
@[simp] theorem State.setRing_keeps_stats (s : State) (fn ring : Nat) (r : RingPair) :
    (s.setRing fn ring r).stats = s.stats := rfl
@[simp] theorem State.setRing_keeps_free (s : State) (fn ring : Nat) (r : RingPair) :
    (s.setRing fn ring r).free = s.free := rfl
@[simp] theorem State.setRing_keeps_out (s : State) (fn ring : Nat) (r : RingPair) :
    (s.setRing fn ring r).out = s.out := rfl
@[simp] theorem State.setRing_keeps_pending (s : State) (fn ring : Nat) (r : RingPair) :
    (s.setRing fn ring r).pending = s.pending := rfl

@[simp] theorem State.clearRecord_keeps_host (s : State) (sel a b c d : Nat) :
    (s.clearRecord sel a b c d).host = s.host := rfl
@[simp] theorem State.clearRecord_keeps_mls (s : State) (sel a b c d : Nat) : (s.clearRecord sel a b c d).mls = s.mls := rfl
@[simp] theorem State.clearRecord_keeps_cores (s : State) (sel a b c d : Nat) :
    (s.clearRecord sel a b c d).cores = s.cores := rfl
@[simp] theorem State.clearRecord_keeps_bays (s : State) (sel a b c d : Nat) :
    (s.clearRecord sel a b c d).bays = s.bays := rfl
@[simp] theorem State.clearRecord_keeps_ctxs (s : State) (sel a b c d : Nat) :
    (s.clearRecord sel a b c d).ctxs = s.ctxs := rfl
@[simp] theorem State.clearRecord_keeps_reqs (s : State) (sel a b c d : Nat) :
    (s.clearRecord sel a b c d).reqs = s.reqs := rfl
@[simp] theorem State.clearRecord_keeps_video (s : State) (sel a b c d : Nat) :
    (s.clearRecord sel a b c d).video = s.video := rfl
@[simp] theorem State.clearRecord_keeps_mem (s : State) (sel a b c d : Nat) : (s.clearRecord sel a b c d).mem = s.mem := rfl
@[simp] theorem State.clearRecord_keeps_customs (s : State) (sel a b c d : Nat) :
    (s.clearRecord sel a b c d).customs = s.customs := rfl
@[simp] theorem State.clearRecord_keeps_escort (s : State) (sel a b c d : Nat) :
    (s.clearRecord sel a b c d).escort = s.escort := rfl
@[simp] theorem State.clearRecord_keeps_power (s : State) (sel a b c d : Nat) :
    (s.clearRecord sel a b c d).power = s.power := rfl
@[simp] theorem State.clearRecord_keeps_fw (s : State) (sel a b c d : Nat) : (s.clearRecord sel a b c d).fw = s.fw := rfl
@[simp] theorem State.clearRecord_keeps_persist (s : State) (sel a b c d : Nat) :
    (s.clearRecord sel a b c d).persist = s.persist := rfl
@[simp] theorem State.clearRecord_keeps_fuses (s : State) (sel a b c d : Nat) :
    (s.clearRecord sel a b c d).fuses = s.fuses := rfl
@[simp] theorem State.clearRecord_sets_stats (s : State) (sel a b c d : Nat) :
    (s.clearRecord sel a b c d).stats = s.stats.filter fun p => p.1 / 65536 != statKey sel a b c d 0 / 65536 := rfl
@[simp] theorem State.clearRecord_keeps_free (s : State) (sel a b c d : Nat) :
    (s.clearRecord sel a b c d).free = s.free := rfl
@[simp] theorem State.clearRecord_keeps_out (s : State) (sel a b c d : Nat) : (s.clearRecord sel a b c d).out = s.out := rfl
@[simp] theorem State.clearRecord_keeps_pending (s : State) (sel a b c d : Nat) :
    (s.clearRecord sel a b c d).pending = s.pending := rfl

@[simp] theorem State.escRaise_keeps_host (s : State) (bits : Nat) : (s.escRaise bits).host = s.host := rfl
@[simp] theorem State.escRaise_keeps_mls (s : State) (bits : Nat) : (s.escRaise bits).mls = s.mls := rfl
@[simp] theorem State.escRaise_keeps_cores (s : State) (bits : Nat) : (s.escRaise bits).cores = s.cores := rfl
@[simp] theorem State.escRaise_keeps_bays (s : State) (bits : Nat) : (s.escRaise bits).bays = s.bays := rfl
@[simp] theorem State.escRaise_keeps_ctxs (s : State) (bits : Nat) : (s.escRaise bits).ctxs = s.ctxs := rfl
@[simp] theorem State.escRaise_keeps_reqs (s : State) (bits : Nat) : (s.escRaise bits).reqs = s.reqs := rfl
@[simp] theorem State.escRaise_keeps_video (s : State) (bits : Nat) : (s.escRaise bits).video = s.video := rfl
@[simp] theorem State.escRaise_keeps_mem (s : State) (bits : Nat) : (s.escRaise bits).mem = s.mem := rfl
@[simp] theorem State.escRaise_keeps_customs (s : State) (bits : Nat) : (s.escRaise bits).customs = s.customs := rfl
@[simp] theorem State.escRaise_sets_escort (s : State) (bits : Nat) :
    (s.escRaise bits).escort = { s.escort with events := s.escort.events + newBits 6 s.escort.events bits } := rfl
@[simp] theorem State.escRaise_keeps_power (s : State) (bits : Nat) : (s.escRaise bits).power = s.power := rfl
@[simp] theorem State.escRaise_keeps_fw (s : State) (bits : Nat) : (s.escRaise bits).fw = s.fw := rfl
@[simp] theorem State.escRaise_keeps_persist (s : State) (bits : Nat) : (s.escRaise bits).persist = s.persist := rfl
@[simp] theorem State.escRaise_keeps_fuses (s : State) (bits : Nat) : (s.escRaise bits).fuses = s.fuses := rfl
@[simp] theorem State.escRaise_keeps_stats (s : State) (bits : Nat) : (s.escRaise bits).stats = s.stats := rfl
@[simp] theorem State.escRaise_keeps_free (s : State) (bits : Nat) : (s.escRaise bits).free = s.free := rfl
@[simp] theorem State.escRaise_keeps_out (s : State) (bits : Nat) : (s.escRaise bits).out = s.out := rfl
@[simp] theorem State.escRaise_keeps_pending (s : State) (bits : Nat) : (s.escRaise bits).pending = s.pending := rfl

@[simp] theorem State.pwrRaise_keeps_host (s : State) (bits : Nat) : (s.pwrRaise bits).host = s.host := rfl
@[simp] theorem State.pwrRaise_keeps_mls (s : State) (bits : Nat) : (s.pwrRaise bits).mls = s.mls := rfl
@[simp] theorem State.pwrRaise_keeps_cores (s : State) (bits : Nat) : (s.pwrRaise bits).cores = s.cores := rfl
@[simp] theorem State.pwrRaise_keeps_bays (s : State) (bits : Nat) : (s.pwrRaise bits).bays = s.bays := rfl
@[simp] theorem State.pwrRaise_keeps_ctxs (s : State) (bits : Nat) : (s.pwrRaise bits).ctxs = s.ctxs := rfl
@[simp] theorem State.pwrRaise_keeps_reqs (s : State) (bits : Nat) : (s.pwrRaise bits).reqs = s.reqs := rfl
@[simp] theorem State.pwrRaise_keeps_video (s : State) (bits : Nat) : (s.pwrRaise bits).video = s.video := rfl
@[simp] theorem State.pwrRaise_keeps_mem (s : State) (bits : Nat) : (s.pwrRaise bits).mem = s.mem := rfl
@[simp] theorem State.pwrRaise_keeps_customs (s : State) (bits : Nat) : (s.pwrRaise bits).customs = s.customs := rfl
@[simp] theorem State.pwrRaise_keeps_escort (s : State) (bits : Nat) : (s.pwrRaise bits).escort = s.escort := rfl
@[simp] theorem State.pwrRaise_sets_power (s : State) (bits : Nat) :
    (s.pwrRaise bits).power = { s.power with events := s.power.events + newBits 7 s.power.events bits } := rfl
@[simp] theorem State.pwrRaise_keeps_fw (s : State) (bits : Nat) : (s.pwrRaise bits).fw = s.fw := rfl
@[simp] theorem State.pwrRaise_keeps_persist (s : State) (bits : Nat) : (s.pwrRaise bits).persist = s.persist := rfl
@[simp] theorem State.pwrRaise_keeps_fuses (s : State) (bits : Nat) : (s.pwrRaise bits).fuses = s.fuses := rfl
@[simp] theorem State.pwrRaise_keeps_stats (s : State) (bits : Nat) : (s.pwrRaise bits).stats = s.stats := rfl
@[simp] theorem State.pwrRaise_keeps_free (s : State) (bits : Nat) : (s.pwrRaise bits).free = s.free := rfl
@[simp] theorem State.pwrRaise_keeps_out (s : State) (bits : Nat) : (s.pwrRaise bits).out = s.out := rfl
@[simp] theorem State.pwrRaise_keeps_pending (s : State) (bits : Nat) : (s.pwrRaise bits).pending = s.pending := rfl

@[simp] theorem State.setStream_keeps_host (s : State) (n : Nat) (x : ActionStream) : (s.setStream n x).host = s.host := rfl
@[simp] theorem State.setStream_sets_mls (s : State) (n : Nat) (x : ActionStream) :
    (s.setStream n x).mls = { s.mls with streams := Map.set s.mls.streams n x } := rfl
@[simp] theorem State.setStream_keeps_cores (s : State) (n : Nat) (x : ActionStream) :
    (s.setStream n x).cores = s.cores := rfl
@[simp] theorem State.setStream_keeps_bays (s : State) (n : Nat) (x : ActionStream) : (s.setStream n x).bays = s.bays := rfl
@[simp] theorem State.setStream_keeps_ctxs (s : State) (n : Nat) (x : ActionStream) : (s.setStream n x).ctxs = s.ctxs := rfl
@[simp] theorem State.setStream_keeps_reqs (s : State) (n : Nat) (x : ActionStream) : (s.setStream n x).reqs = s.reqs := rfl
@[simp] theorem State.setStream_keeps_video (s : State) (n : Nat) (x : ActionStream) :
    (s.setStream n x).video = s.video := rfl
@[simp] theorem State.setStream_keeps_mem (s : State) (n : Nat) (x : ActionStream) : (s.setStream n x).mem = s.mem := rfl
@[simp] theorem State.setStream_keeps_customs (s : State) (n : Nat) (x : ActionStream) :
    (s.setStream n x).customs = s.customs := rfl
@[simp] theorem State.setStream_keeps_escort (s : State) (n : Nat) (x : ActionStream) :
    (s.setStream n x).escort = s.escort := rfl
@[simp] theorem State.setStream_keeps_power (s : State) (n : Nat) (x : ActionStream) :
    (s.setStream n x).power = s.power := rfl
@[simp] theorem State.setStream_keeps_fw (s : State) (n : Nat) (x : ActionStream) : (s.setStream n x).fw = s.fw := rfl
@[simp] theorem State.setStream_keeps_persist (s : State) (n : Nat) (x : ActionStream) :
    (s.setStream n x).persist = s.persist := rfl
@[simp] theorem State.setStream_keeps_fuses (s : State) (n : Nat) (x : ActionStream) :
    (s.setStream n x).fuses = s.fuses := rfl
@[simp] theorem State.setStream_keeps_stats (s : State) (n : Nat) (x : ActionStream) :
    (s.setStream n x).stats = s.stats := rfl
@[simp] theorem State.setStream_keeps_free (s : State) (n : Nat) (x : ActionStream) : (s.setStream n x).free = s.free := rfl
@[simp] theorem State.setStream_keeps_out (s : State) (n : Nat) (x : ActionStream) : (s.setStream n x).out = s.out := rfl
@[simp] theorem State.setStream_keeps_pending (s : State) (n : Nat) (x : ActionStream) :
    (s.setStream n x).pending = s.pending := rfl

@[simp] theorem State.setTrack_keeps_host (s : State) (n : Nat) (x : Track) : (s.setTrack n x).host = s.host := rfl
@[simp] theorem State.setTrack_sets_mls (s : State) (n : Nat) (x : Track) :
    (s.setTrack n x).mls = { s.mls with tracks := Map.set s.mls.tracks n x } := rfl
@[simp] theorem State.setTrack_keeps_cores (s : State) (n : Nat) (x : Track) : (s.setTrack n x).cores = s.cores := rfl
@[simp] theorem State.setTrack_keeps_bays (s : State) (n : Nat) (x : Track) : (s.setTrack n x).bays = s.bays := rfl
@[simp] theorem State.setTrack_keeps_ctxs (s : State) (n : Nat) (x : Track) : (s.setTrack n x).ctxs = s.ctxs := rfl
@[simp] theorem State.setTrack_keeps_reqs (s : State) (n : Nat) (x : Track) : (s.setTrack n x).reqs = s.reqs := rfl
@[simp] theorem State.setTrack_keeps_video (s : State) (n : Nat) (x : Track) : (s.setTrack n x).video = s.video := rfl
@[simp] theorem State.setTrack_keeps_mem (s : State) (n : Nat) (x : Track) : (s.setTrack n x).mem = s.mem := rfl
@[simp] theorem State.setTrack_keeps_customs (s : State) (n : Nat) (x : Track) : (s.setTrack n x).customs = s.customs := rfl
@[simp] theorem State.setTrack_keeps_escort (s : State) (n : Nat) (x : Track) : (s.setTrack n x).escort = s.escort := rfl
@[simp] theorem State.setTrack_keeps_power (s : State) (n : Nat) (x : Track) : (s.setTrack n x).power = s.power := rfl
@[simp] theorem State.setTrack_keeps_fw (s : State) (n : Nat) (x : Track) : (s.setTrack n x).fw = s.fw := rfl
@[simp] theorem State.setTrack_keeps_persist (s : State) (n : Nat) (x : Track) : (s.setTrack n x).persist = s.persist := rfl
@[simp] theorem State.setTrack_keeps_fuses (s : State) (n : Nat) (x : Track) : (s.setTrack n x).fuses = s.fuses := rfl
@[simp] theorem State.setTrack_keeps_stats (s : State) (n : Nat) (x : Track) : (s.setTrack n x).stats = s.stats := rfl
@[simp] theorem State.setTrack_keeps_free (s : State) (n : Nat) (x : Track) : (s.setTrack n x).free = s.free := rfl
@[simp] theorem State.setTrack_keeps_out (s : State) (n : Nat) (x : Track) : (s.setTrack n x).out = s.out := rfl
@[simp] theorem State.setTrack_keeps_pending (s : State) (n : Nat) (x : Track) : (s.setTrack n x).pending = s.pending := rfl

@[simp] theorem State.setMemory_keeps_host (s : State) (cls unit : Nat) (m : Memory) :
    (s.setMemory cls unit m).host = s.host := rfl
@[simp] theorem State.setMemory_keeps_mls (s : State) (cls unit : Nat) (m : Memory) :
    (s.setMemory cls unit m).mls = s.mls := rfl
@[simp] theorem State.setMemory_keeps_cores (s : State) (cls unit : Nat) (m : Memory) :
    (s.setMemory cls unit m).cores = s.cores := rfl
@[simp] theorem State.setMemory_keeps_bays (s : State) (cls unit : Nat) (m : Memory) :
    (s.setMemory cls unit m).bays = s.bays := rfl
@[simp] theorem State.setMemory_keeps_ctxs (s : State) (cls unit : Nat) (m : Memory) :
    (s.setMemory cls unit m).ctxs = s.ctxs := rfl
@[simp] theorem State.setMemory_keeps_reqs (s : State) (cls unit : Nat) (m : Memory) :
    (s.setMemory cls unit m).reqs = s.reqs := rfl
@[simp] theorem State.setMemory_keeps_video (s : State) (cls unit : Nat) (m : Memory) :
    (s.setMemory cls unit m).video = s.video := rfl
@[simp] theorem State.setMemory_sets_mem (s : State) (cls unit : Nat) (m : Memory) :
    (s.setMemory cls unit m).mem = { s.mem with mem := Map.set s.mem.mem (memKey cls unit) m } := rfl
@[simp] theorem State.setMemory_keeps_customs (s : State) (cls unit : Nat) (m : Memory) :
    (s.setMemory cls unit m).customs = s.customs := rfl
@[simp] theorem State.setMemory_keeps_escort (s : State) (cls unit : Nat) (m : Memory) :
    (s.setMemory cls unit m).escort = s.escort := rfl
@[simp] theorem State.setMemory_keeps_power (s : State) (cls unit : Nat) (m : Memory) :
    (s.setMemory cls unit m).power = s.power := rfl
@[simp] theorem State.setMemory_keeps_fw (s : State) (cls unit : Nat) (m : Memory) :
    (s.setMemory cls unit m).fw = s.fw := rfl
@[simp] theorem State.setMemory_keeps_persist (s : State) (cls unit : Nat) (m : Memory) :
    (s.setMemory cls unit m).persist = s.persist := rfl
@[simp] theorem State.setMemory_keeps_fuses (s : State) (cls unit : Nat) (m : Memory) :
    (s.setMemory cls unit m).fuses = s.fuses := rfl
@[simp] theorem State.setMemory_keeps_stats (s : State) (cls unit : Nat) (m : Memory) :
    (s.setMemory cls unit m).stats = s.stats := rfl
@[simp] theorem State.setMemory_keeps_free (s : State) (cls unit : Nat) (m : Memory) :
    (s.setMemory cls unit m).free = s.free := rfl
@[simp] theorem State.setMemory_keeps_out (s : State) (cls unit : Nat) (m : Memory) :
    (s.setMemory cls unit m).out = s.out := rfl
@[simp] theorem State.setMemory_keeps_pending (s : State) (cls unit : Nat) (m : Memory) :
    (s.setMemory cls unit m).pending = s.pending := rfl

@[simp] theorem State.setToll_keeps_host (s : State) (t : Nat) (x : Toll) : (s.setToll t x).host = s.host := rfl
@[simp] theorem State.setToll_keeps_mls (s : State) (t : Nat) (x : Toll) : (s.setToll t x).mls = s.mls := rfl
@[simp] theorem State.setToll_keeps_cores (s : State) (t : Nat) (x : Toll) : (s.setToll t x).cores = s.cores := rfl
@[simp] theorem State.setToll_keeps_bays (s : State) (t : Nat) (x : Toll) : (s.setToll t x).bays = s.bays := rfl
@[simp] theorem State.setToll_keeps_ctxs (s : State) (t : Nat) (x : Toll) : (s.setToll t x).ctxs = s.ctxs := rfl
@[simp] theorem State.setToll_keeps_reqs (s : State) (t : Nat) (x : Toll) : (s.setToll t x).reqs = s.reqs := rfl
@[simp] theorem State.setToll_keeps_video (s : State) (t : Nat) (x : Toll) : (s.setToll t x).video = s.video := rfl
@[simp] theorem State.setToll_sets_mem (s : State) (t : Nat) (x : Toll) :
    (s.setToll t x).mem = { s.mem with tolls := Map.set s.mem.tolls t x } := rfl
@[simp] theorem State.setToll_keeps_customs (s : State) (t : Nat) (x : Toll) : (s.setToll t x).customs = s.customs := rfl
@[simp] theorem State.setToll_keeps_escort (s : State) (t : Nat) (x : Toll) : (s.setToll t x).escort = s.escort := rfl
@[simp] theorem State.setToll_keeps_power (s : State) (t : Nat) (x : Toll) : (s.setToll t x).power = s.power := rfl
@[simp] theorem State.setToll_keeps_fw (s : State) (t : Nat) (x : Toll) : (s.setToll t x).fw = s.fw := rfl
@[simp] theorem State.setToll_keeps_persist (s : State) (t : Nat) (x : Toll) : (s.setToll t x).persist = s.persist := rfl
@[simp] theorem State.setToll_keeps_fuses (s : State) (t : Nat) (x : Toll) : (s.setToll t x).fuses = s.fuses := rfl
@[simp] theorem State.setToll_keeps_stats (s : State) (t : Nat) (x : Toll) : (s.setToll t x).stats = s.stats := rfl
@[simp] theorem State.setToll_keeps_free (s : State) (t : Nat) (x : Toll) : (s.setToll t x).free = s.free := rfl
@[simp] theorem State.setToll_keeps_out (s : State) (t : Nat) (x : Toll) : (s.setToll t x).out = s.out := rfl
@[simp] theorem State.setToll_keeps_pending (s : State) (t : Nat) (x : Toll) : (s.setToll t x).pending = s.pending := rfl

@[simp] theorem State.setCtx_keeps_host (s : State) (n : Nat) (x : Ctx) : (s.setCtx n x).host = s.host := rfl
@[simp] theorem State.setCtx_keeps_mls (s : State) (n : Nat) (x : Ctx) : (s.setCtx n x).mls = s.mls := rfl
@[simp] theorem State.setCtx_keeps_cores (s : State) (n : Nat) (x : Ctx) : (s.setCtx n x).cores = s.cores := rfl
@[simp] theorem State.setCtx_keeps_bays (s : State) (n : Nat) (x : Ctx) : (s.setCtx n x).bays = s.bays := rfl
@[simp] theorem State.setCtx_sets_ctxs (s : State) (n : Nat) (x : Ctx) :
    (s.setCtx n x).ctxs = { s.ctxs with ctx := Map.set s.ctxs.ctx n x } := rfl
@[simp] theorem State.setCtx_keeps_reqs (s : State) (n : Nat) (x : Ctx) : (s.setCtx n x).reqs = s.reqs := rfl
@[simp] theorem State.setCtx_keeps_video (s : State) (n : Nat) (x : Ctx) : (s.setCtx n x).video = s.video := rfl
@[simp] theorem State.setCtx_keeps_mem (s : State) (n : Nat) (x : Ctx) : (s.setCtx n x).mem = s.mem := rfl
@[simp] theorem State.setCtx_keeps_customs (s : State) (n : Nat) (x : Ctx) : (s.setCtx n x).customs = s.customs := rfl
@[simp] theorem State.setCtx_keeps_escort (s : State) (n : Nat) (x : Ctx) : (s.setCtx n x).escort = s.escort := rfl
@[simp] theorem State.setCtx_keeps_power (s : State) (n : Nat) (x : Ctx) : (s.setCtx n x).power = s.power := rfl
@[simp] theorem State.setCtx_keeps_fw (s : State) (n : Nat) (x : Ctx) : (s.setCtx n x).fw = s.fw := rfl
@[simp] theorem State.setCtx_keeps_persist (s : State) (n : Nat) (x : Ctx) : (s.setCtx n x).persist = s.persist := rfl
@[simp] theorem State.setCtx_keeps_fuses (s : State) (n : Nat) (x : Ctx) : (s.setCtx n x).fuses = s.fuses := rfl
@[simp] theorem State.setCtx_keeps_stats (s : State) (n : Nat) (x : Ctx) : (s.setCtx n x).stats = s.stats := rfl
@[simp] theorem State.setCtx_keeps_free (s : State) (n : Nat) (x : Ctx) : (s.setCtx n x).free = s.free := rfl
@[simp] theorem State.setCtx_keeps_out (s : State) (n : Nat) (x : Ctx) : (s.setCtx n x).out = s.out := rfl
@[simp] theorem State.setCtx_keeps_pending (s : State) (n : Nat) (x : Ctx) : (s.setCtx n x).pending = s.pending := rfl

@[simp] theorem State.setFrames_keeps_host (s : State) (m : Map Frame) : (s.setFrames m).host = s.host := rfl
@[simp] theorem State.setFrames_keeps_mls (s : State) (m : Map Frame) : (s.setFrames m).mls = s.mls := rfl
@[simp] theorem State.setFrames_keeps_cores (s : State) (m : Map Frame) : (s.setFrames m).cores = s.cores := rfl
@[simp] theorem State.setFrames_keeps_bays (s : State) (m : Map Frame) : (s.setFrames m).bays = s.bays := rfl
@[simp] theorem State.setFrames_sets_ctxs (s : State) (m : Map Frame) :
    (s.setFrames m).ctxs = { s.ctxs with frames := m } := rfl
@[simp] theorem State.setFrames_keeps_reqs (s : State) (m : Map Frame) : (s.setFrames m).reqs = s.reqs := rfl
@[simp] theorem State.setFrames_keeps_video (s : State) (m : Map Frame) : (s.setFrames m).video = s.video := rfl
@[simp] theorem State.setFrames_keeps_mem (s : State) (m : Map Frame) : (s.setFrames m).mem = s.mem := rfl
@[simp] theorem State.setFrames_keeps_customs (s : State) (m : Map Frame) : (s.setFrames m).customs = s.customs := rfl
@[simp] theorem State.setFrames_keeps_escort (s : State) (m : Map Frame) : (s.setFrames m).escort = s.escort := rfl
@[simp] theorem State.setFrames_keeps_power (s : State) (m : Map Frame) : (s.setFrames m).power = s.power := rfl
@[simp] theorem State.setFrames_keeps_fw (s : State) (m : Map Frame) : (s.setFrames m).fw = s.fw := rfl
@[simp] theorem State.setFrames_keeps_persist (s : State) (m : Map Frame) : (s.setFrames m).persist = s.persist := rfl
@[simp] theorem State.setFrames_keeps_fuses (s : State) (m : Map Frame) : (s.setFrames m).fuses = s.fuses := rfl
@[simp] theorem State.setFrames_keeps_stats (s : State) (m : Map Frame) : (s.setFrames m).stats = s.stats := rfl
@[simp] theorem State.setFrames_keeps_free (s : State) (m : Map Frame) : (s.setFrames m).free = s.free := rfl
@[simp] theorem State.setFrames_keeps_out (s : State) (m : Map Frame) : (s.setFrames m).out = s.out := rfl
@[simp] theorem State.setFrames_keeps_pending (s : State) (m : Map Frame) : (s.setFrames m).pending = s.pending := rfl

@[simp] theorem State.setBay_keeps_host (s : State) (n : Nat) (x : Bay) : (s.setBay n x).host = s.host := rfl
@[simp] theorem State.setBay_keeps_mls (s : State) (n : Nat) (x : Bay) : (s.setBay n x).mls = s.mls := rfl
@[simp] theorem State.setBay_keeps_cores (s : State) (n : Nat) (x : Bay) : (s.setBay n x).cores = s.cores := rfl
@[simp] theorem State.setBay_sets_bays (s : State) (n : Nat) (x : Bay) :
    (s.setBay n x).bays = { s.bays with bay := Map.set s.bays.bay n x } := rfl
@[simp] theorem State.setBay_keeps_ctxs (s : State) (n : Nat) (x : Bay) : (s.setBay n x).ctxs = s.ctxs := rfl
@[simp] theorem State.setBay_keeps_reqs (s : State) (n : Nat) (x : Bay) : (s.setBay n x).reqs = s.reqs := rfl
@[simp] theorem State.setBay_keeps_video (s : State) (n : Nat) (x : Bay) : (s.setBay n x).video = s.video := rfl
@[simp] theorem State.setBay_keeps_mem (s : State) (n : Nat) (x : Bay) : (s.setBay n x).mem = s.mem := rfl
@[simp] theorem State.setBay_keeps_customs (s : State) (n : Nat) (x : Bay) : (s.setBay n x).customs = s.customs := rfl
@[simp] theorem State.setBay_keeps_escort (s : State) (n : Nat) (x : Bay) : (s.setBay n x).escort = s.escort := rfl
@[simp] theorem State.setBay_keeps_power (s : State) (n : Nat) (x : Bay) : (s.setBay n x).power = s.power := rfl
@[simp] theorem State.setBay_keeps_fw (s : State) (n : Nat) (x : Bay) : (s.setBay n x).fw = s.fw := rfl
@[simp] theorem State.setBay_keeps_persist (s : State) (n : Nat) (x : Bay) : (s.setBay n x).persist = s.persist := rfl
@[simp] theorem State.setBay_keeps_fuses (s : State) (n : Nat) (x : Bay) : (s.setBay n x).fuses = s.fuses := rfl
@[simp] theorem State.setBay_keeps_stats (s : State) (n : Nat) (x : Bay) : (s.setBay n x).stats = s.stats := rfl
@[simp] theorem State.setBay_keeps_free (s : State) (n : Nat) (x : Bay) : (s.setBay n x).free = s.free := rfl
@[simp] theorem State.setBay_keeps_out (s : State) (n : Nat) (x : Bay) : (s.setBay n x).out = s.out := rfl
@[simp] theorem State.setBay_keeps_pending (s : State) (n : Nat) (x : Bay) : (s.setBay n x).pending = s.pending := rfl

@[simp] theorem State.setStaged_keeps_host (s : State) (n : Nat) (x : Staged) : (s.setStaged n x).host = s.host := rfl
@[simp] theorem State.setStaged_keeps_mls (s : State) (n : Nat) (x : Staged) : (s.setStaged n x).mls = s.mls := rfl
@[simp] theorem State.setStaged_keeps_cores (s : State) (n : Nat) (x : Staged) : (s.setStaged n x).cores = s.cores := rfl
@[simp] theorem State.setStaged_sets_bays (s : State) (n : Nat) (x : Staged) :
    (s.setStaged n x).bays = { s.bays with staged := Map.set s.bays.staged n x } := rfl
@[simp] theorem State.setStaged_keeps_ctxs (s : State) (n : Nat) (x : Staged) : (s.setStaged n x).ctxs = s.ctxs := rfl
@[simp] theorem State.setStaged_keeps_reqs (s : State) (n : Nat) (x : Staged) : (s.setStaged n x).reqs = s.reqs := rfl
@[simp] theorem State.setStaged_keeps_video (s : State) (n : Nat) (x : Staged) : (s.setStaged n x).video = s.video := rfl
@[simp] theorem State.setStaged_keeps_mem (s : State) (n : Nat) (x : Staged) : (s.setStaged n x).mem = s.mem := rfl
@[simp] theorem State.setStaged_keeps_customs (s : State) (n : Nat) (x : Staged) :
    (s.setStaged n x).customs = s.customs := rfl
@[simp] theorem State.setStaged_keeps_escort (s : State) (n : Nat) (x : Staged) : (s.setStaged n x).escort = s.escort := rfl
@[simp] theorem State.setStaged_keeps_power (s : State) (n : Nat) (x : Staged) : (s.setStaged n x).power = s.power := rfl
@[simp] theorem State.setStaged_keeps_fw (s : State) (n : Nat) (x : Staged) : (s.setStaged n x).fw = s.fw := rfl
@[simp] theorem State.setStaged_keeps_persist (s : State) (n : Nat) (x : Staged) :
    (s.setStaged n x).persist = s.persist := rfl
@[simp] theorem State.setStaged_keeps_fuses (s : State) (n : Nat) (x : Staged) : (s.setStaged n x).fuses = s.fuses := rfl
@[simp] theorem State.setStaged_keeps_stats (s : State) (n : Nat) (x : Staged) : (s.setStaged n x).stats = s.stats := rfl
@[simp] theorem State.setStaged_keeps_free (s : State) (n : Nat) (x : Staged) : (s.setStaged n x).free = s.free := rfl
@[simp] theorem State.setStaged_keeps_out (s : State) (n : Nat) (x : Staged) : (s.setStaged n x).out = s.out := rfl
@[simp] theorem State.setStaged_keeps_pending (s : State) (n : Nat) (x : Staged) :
    (s.setStaged n x).pending = s.pending := rfl

@[simp] theorem State.setReq_keeps_host (s : State) (r : Req) : (s.setReq r).host = s.host := rfl
@[simp] theorem State.setReq_keeps_mls (s : State) (r : Req) : (s.setReq r).mls = s.mls := rfl
@[simp] theorem State.setReq_keeps_cores (s : State) (r : Req) : (s.setReq r).cores = s.cores := rfl
@[simp] theorem State.setReq_keeps_bays (s : State) (r : Req) : (s.setReq r).bays = s.bays := rfl
@[simp] theorem State.setReq_keeps_ctxs (s : State) (r : Req) : (s.setReq r).ctxs = s.ctxs := rfl
@[simp] theorem State.setReq_sets_reqs (s : State) (r : Req) :
    (s.setReq r).reqs = { s.reqs with slot := Map.set s.reqs.slot (slotOf r.id) r } := rfl
@[simp] theorem State.setReq_keeps_video (s : State) (r : Req) : (s.setReq r).video = s.video := rfl
@[simp] theorem State.setReq_keeps_mem (s : State) (r : Req) : (s.setReq r).mem = s.mem := rfl
@[simp] theorem State.setReq_keeps_customs (s : State) (r : Req) : (s.setReq r).customs = s.customs := rfl
@[simp] theorem State.setReq_keeps_escort (s : State) (r : Req) : (s.setReq r).escort = s.escort := rfl
@[simp] theorem State.setReq_keeps_power (s : State) (r : Req) : (s.setReq r).power = s.power := rfl
@[simp] theorem State.setReq_keeps_fw (s : State) (r : Req) : (s.setReq r).fw = s.fw := rfl
@[simp] theorem State.setReq_keeps_persist (s : State) (r : Req) : (s.setReq r).persist = s.persist := rfl
@[simp] theorem State.setReq_keeps_fuses (s : State) (r : Req) : (s.setReq r).fuses = s.fuses := rfl
@[simp] theorem State.setReq_keeps_stats (s : State) (r : Req) : (s.setReq r).stats = s.stats := rfl
@[simp] theorem State.setReq_keeps_free (s : State) (r : Req) : (s.setReq r).free = s.free := rfl
@[simp] theorem State.setReq_keeps_out (s : State) (r : Req) : (s.setReq r).out = s.out := rfl
@[simp] theorem State.setReq_keeps_pending (s : State) (r : Req) : (s.setReq r).pending = s.pending := rfl

@[simp] theorem State.setVstream_keeps_host (s : State) (n : Nat) (x : VStream) : (s.setVstream n x).host = s.host := rfl
@[simp] theorem State.setVstream_keeps_mls (s : State) (n : Nat) (x : VStream) : (s.setVstream n x).mls = s.mls := rfl
@[simp] theorem State.setVstream_keeps_cores (s : State) (n : Nat) (x : VStream) : (s.setVstream n x).cores = s.cores := rfl
@[simp] theorem State.setVstream_keeps_bays (s : State) (n : Nat) (x : VStream) : (s.setVstream n x).bays = s.bays := rfl
@[simp] theorem State.setVstream_keeps_ctxs (s : State) (n : Nat) (x : VStream) : (s.setVstream n x).ctxs = s.ctxs := rfl
@[simp] theorem State.setVstream_keeps_reqs (s : State) (n : Nat) (x : VStream) : (s.setVstream n x).reqs = s.reqs := rfl
@[simp] theorem State.setVstream_sets_video (s : State) (n : Nat) (x : VStream) :
    (s.setVstream n x).video = { s.video with streams := Map.set s.video.streams n x } := rfl
@[simp] theorem State.setVstream_keeps_mem (s : State) (n : Nat) (x : VStream) : (s.setVstream n x).mem = s.mem := rfl
@[simp] theorem State.setVstream_keeps_customs (s : State) (n : Nat) (x : VStream) :
    (s.setVstream n x).customs = s.customs := rfl
@[simp] theorem State.setVstream_keeps_escort (s : State) (n : Nat) (x : VStream) :
    (s.setVstream n x).escort = s.escort := rfl
@[simp] theorem State.setVstream_keeps_power (s : State) (n : Nat) (x : VStream) : (s.setVstream n x).power = s.power := rfl
@[simp] theorem State.setVstream_keeps_fw (s : State) (n : Nat) (x : VStream) : (s.setVstream n x).fw = s.fw := rfl
@[simp] theorem State.setVstream_keeps_persist (s : State) (n : Nat) (x : VStream) :
    (s.setVstream n x).persist = s.persist := rfl
@[simp] theorem State.setVstream_keeps_fuses (s : State) (n : Nat) (x : VStream) : (s.setVstream n x).fuses = s.fuses := rfl
@[simp] theorem State.setVstream_keeps_stats (s : State) (n : Nat) (x : VStream) : (s.setVstream n x).stats = s.stats := rfl
@[simp] theorem State.setVstream_keeps_free (s : State) (n : Nat) (x : VStream) : (s.setVstream n x).free = s.free := rfl
@[simp] theorem State.setVstream_keeps_out (s : State) (n : Nat) (x : VStream) : (s.setVstream n x).out = s.out := rfl
@[simp] theorem State.setVstream_keeps_pending (s : State) (n : Nat) (x : VStream) :
    (s.setVstream n x).pending = s.pending := rfl

@[simp] theorem State.setSession_keeps_host (s : State) (n : Nat) (x : Session) : (s.setSession n x).host = s.host := rfl
@[simp] theorem State.setSession_keeps_mls (s : State) (n : Nat) (x : Session) : (s.setSession n x).mls = s.mls := rfl
@[simp] theorem State.setSession_keeps_cores (s : State) (n : Nat) (x : Session) : (s.setSession n x).cores = s.cores := rfl
@[simp] theorem State.setSession_keeps_bays (s : State) (n : Nat) (x : Session) : (s.setSession n x).bays = s.bays := rfl
@[simp] theorem State.setSession_keeps_ctxs (s : State) (n : Nat) (x : Session) : (s.setSession n x).ctxs = s.ctxs := rfl
@[simp] theorem State.setSession_keeps_reqs (s : State) (n : Nat) (x : Session) : (s.setSession n x).reqs = s.reqs := rfl
@[simp] theorem State.setSession_sets_video (s : State) (n : Nat) (x : Session) :
    (s.setSession n x).video = { s.video with sessions := Map.set s.video.sessions n x } := rfl
@[simp] theorem State.setSession_keeps_mem (s : State) (n : Nat) (x : Session) : (s.setSession n x).mem = s.mem := rfl
@[simp] theorem State.setSession_keeps_customs (s : State) (n : Nat) (x : Session) :
    (s.setSession n x).customs = s.customs := rfl
@[simp] theorem State.setSession_keeps_escort (s : State) (n : Nat) (x : Session) :
    (s.setSession n x).escort = s.escort := rfl
@[simp] theorem State.setSession_keeps_power (s : State) (n : Nat) (x : Session) : (s.setSession n x).power = s.power := rfl
@[simp] theorem State.setSession_keeps_fw (s : State) (n : Nat) (x : Session) : (s.setSession n x).fw = s.fw := rfl
@[simp] theorem State.setSession_keeps_persist (s : State) (n : Nat) (x : Session) :
    (s.setSession n x).persist = s.persist := rfl
@[simp] theorem State.setSession_keeps_fuses (s : State) (n : Nat) (x : Session) : (s.setSession n x).fuses = s.fuses := rfl
@[simp] theorem State.setSession_keeps_stats (s : State) (n : Nat) (x : Session) : (s.setSession n x).stats = s.stats := rfl
@[simp] theorem State.setSession_keeps_free (s : State) (n : Nat) (x : Session) : (s.setSession n x).free = s.free := rfl
@[simp] theorem State.setSession_keeps_out (s : State) (n : Nat) (x : Session) : (s.setSession n x).out = s.out := rfl
@[simp] theorem State.setSession_keeps_pending (s : State) (n : Nat) (x : Session) :
    (s.setSession n x).pending = s.pending := rfl

@[simp] theorem State.setPipe_keeps_host (s : State) (n : Nat) (x : Pipe) : (s.setPipe n x).host = s.host := rfl
@[simp] theorem State.setPipe_keeps_mls (s : State) (n : Nat) (x : Pipe) : (s.setPipe n x).mls = s.mls := rfl
@[simp] theorem State.setPipe_keeps_cores (s : State) (n : Nat) (x : Pipe) : (s.setPipe n x).cores = s.cores := rfl
@[simp] theorem State.setPipe_keeps_bays (s : State) (n : Nat) (x : Pipe) : (s.setPipe n x).bays = s.bays := rfl
@[simp] theorem State.setPipe_keeps_ctxs (s : State) (n : Nat) (x : Pipe) : (s.setPipe n x).ctxs = s.ctxs := rfl
@[simp] theorem State.setPipe_keeps_reqs (s : State) (n : Nat) (x : Pipe) : (s.setPipe n x).reqs = s.reqs := rfl
@[simp] theorem State.setPipe_sets_video (s : State) (n : Nat) (x : Pipe) :
    (s.setPipe n x).video = { s.video with pipes := Map.set s.video.pipes n x } := rfl
@[simp] theorem State.setPipe_keeps_mem (s : State) (n : Nat) (x : Pipe) : (s.setPipe n x).mem = s.mem := rfl
@[simp] theorem State.setPipe_keeps_customs (s : State) (n : Nat) (x : Pipe) : (s.setPipe n x).customs = s.customs := rfl
@[simp] theorem State.setPipe_keeps_escort (s : State) (n : Nat) (x : Pipe) : (s.setPipe n x).escort = s.escort := rfl
@[simp] theorem State.setPipe_keeps_power (s : State) (n : Nat) (x : Pipe) : (s.setPipe n x).power = s.power := rfl
@[simp] theorem State.setPipe_keeps_fw (s : State) (n : Nat) (x : Pipe) : (s.setPipe n x).fw = s.fw := rfl
@[simp] theorem State.setPipe_keeps_persist (s : State) (n : Nat) (x : Pipe) : (s.setPipe n x).persist = s.persist := rfl
@[simp] theorem State.setPipe_keeps_fuses (s : State) (n : Nat) (x : Pipe) : (s.setPipe n x).fuses = s.fuses := rfl
@[simp] theorem State.setPipe_keeps_stats (s : State) (n : Nat) (x : Pipe) : (s.setPipe n x).stats = s.stats := rfl
@[simp] theorem State.setPipe_keeps_free (s : State) (n : Nat) (x : Pipe) : (s.setPipe n x).free = s.free := rfl
@[simp] theorem State.setPipe_keeps_out (s : State) (n : Nat) (x : Pipe) : (s.setPipe n x).out = s.out := rfl
@[simp] theorem State.setPipe_keeps_pending (s : State) (n : Nat) (x : Pipe) : (s.setPipe n x).pending = s.pending := rfl

@[simp] theorem State.setCore_keeps_host (s : State) (n : Nat) (x : Sys2Proof.Machine.Core) :
    (s.setCore n x).host = s.host := rfl
@[simp] theorem State.setCore_keeps_mls (s : State) (n : Nat) (x : Sys2Proof.Machine.Core) :
    (s.setCore n x).mls = s.mls := rfl
@[simp] theorem State.setCore_sets_cores (s : State) (n : Nat) (x : Sys2Proof.Machine.Core) :
    (s.setCore n x).cores = { s.cores with core := Map.set s.cores.core n x } := rfl
@[simp] theorem State.setCore_keeps_bays (s : State) (n : Nat) (x : Sys2Proof.Machine.Core) :
    (s.setCore n x).bays = s.bays := rfl
@[simp] theorem State.setCore_keeps_ctxs (s : State) (n : Nat) (x : Sys2Proof.Machine.Core) :
    (s.setCore n x).ctxs = s.ctxs := rfl
@[simp] theorem State.setCore_keeps_reqs (s : State) (n : Nat) (x : Sys2Proof.Machine.Core) :
    (s.setCore n x).reqs = s.reqs := rfl
@[simp] theorem State.setCore_keeps_video (s : State) (n : Nat) (x : Sys2Proof.Machine.Core) :
    (s.setCore n x).video = s.video := rfl
@[simp] theorem State.setCore_keeps_mem (s : State) (n : Nat) (x : Sys2Proof.Machine.Core) :
    (s.setCore n x).mem = s.mem := rfl
@[simp] theorem State.setCore_keeps_customs (s : State) (n : Nat) (x : Sys2Proof.Machine.Core) :
    (s.setCore n x).customs = s.customs := rfl
@[simp] theorem State.setCore_keeps_escort (s : State) (n : Nat) (x : Sys2Proof.Machine.Core) :
    (s.setCore n x).escort = s.escort := rfl
@[simp] theorem State.setCore_keeps_power (s : State) (n : Nat) (x : Sys2Proof.Machine.Core) :
    (s.setCore n x).power = s.power := rfl
@[simp] theorem State.setCore_keeps_fw (s : State) (n : Nat) (x : Sys2Proof.Machine.Core) : (s.setCore n x).fw = s.fw := rfl
@[simp] theorem State.setCore_keeps_persist (s : State) (n : Nat) (x : Sys2Proof.Machine.Core) :
    (s.setCore n x).persist = s.persist := rfl
@[simp] theorem State.setCore_keeps_fuses (s : State) (n : Nat) (x : Sys2Proof.Machine.Core) :
    (s.setCore n x).fuses = s.fuses := rfl
@[simp] theorem State.setCore_keeps_stats (s : State) (n : Nat) (x : Sys2Proof.Machine.Core) :
    (s.setCore n x).stats = s.stats := rfl
@[simp] theorem State.setCore_keeps_free (s : State) (n : Nat) (x : Sys2Proof.Machine.Core) :
    (s.setCore n x).free = s.free := rfl
@[simp] theorem State.setCore_keeps_out (s : State) (n : Nat) (x : Sys2Proof.Machine.Core) :
    (s.setCore n x).out = s.out := rfl
@[simp] theorem State.setCore_keeps_pending (s : State) (n : Nat) (x : Sys2Proof.Machine.Core) :
    (s.setCore n x).pending = s.pending := rfl

@[simp] theorem State.setArray_keeps_host (s : State) (core string position : Nat) (a : ArrayRec) :
    (s.setArray core string position a).host = s.host := rfl
@[simp] theorem State.setArray_keeps_mls (s : State) (core string position : Nat) (a : ArrayRec) :
    (s.setArray core string position a).mls = s.mls := rfl
@[simp] theorem State.setArray_sets_cores (s : State) (core string position : Nat) (a : ArrayRec) :
    (s.setArray core string position a).cores = { s.cores with arrays := Map.set s.cores.arrays (arrayKey core string position) a } := rfl
@[simp] theorem State.setArray_keeps_bays (s : State) (core string position : Nat) (a : ArrayRec) :
    (s.setArray core string position a).bays = s.bays := rfl
@[simp] theorem State.setArray_keeps_ctxs (s : State) (core string position : Nat) (a : ArrayRec) :
    (s.setArray core string position a).ctxs = s.ctxs := rfl
@[simp] theorem State.setArray_keeps_reqs (s : State) (core string position : Nat) (a : ArrayRec) :
    (s.setArray core string position a).reqs = s.reqs := rfl
@[simp] theorem State.setArray_keeps_video (s : State) (core string position : Nat) (a : ArrayRec) :
    (s.setArray core string position a).video = s.video := rfl
@[simp] theorem State.setArray_keeps_mem (s : State) (core string position : Nat) (a : ArrayRec) :
    (s.setArray core string position a).mem = s.mem := rfl
@[simp] theorem State.setArray_keeps_customs (s : State) (core string position : Nat) (a : ArrayRec) :
    (s.setArray core string position a).customs = s.customs := rfl
@[simp] theorem State.setArray_keeps_escort (s : State) (core string position : Nat) (a : ArrayRec) :
    (s.setArray core string position a).escort = s.escort := rfl
@[simp] theorem State.setArray_keeps_power (s : State) (core string position : Nat) (a : ArrayRec) :
    (s.setArray core string position a).power = s.power := rfl
@[simp] theorem State.setArray_keeps_fw (s : State) (core string position : Nat) (a : ArrayRec) :
    (s.setArray core string position a).fw = s.fw := rfl
@[simp] theorem State.setArray_keeps_persist (s : State) (core string position : Nat) (a : ArrayRec) :
    (s.setArray core string position a).persist = s.persist := rfl
@[simp] theorem State.setArray_keeps_fuses (s : State) (core string position : Nat) (a : ArrayRec) :
    (s.setArray core string position a).fuses = s.fuses := rfl
@[simp] theorem State.setArray_keeps_stats (s : State) (core string position : Nat) (a : ArrayRec) :
    (s.setArray core string position a).stats = s.stats := rfl
@[simp] theorem State.setArray_keeps_free (s : State) (core string position : Nat) (a : ArrayRec) :
    (s.setArray core string position a).free = s.free := rfl
@[simp] theorem State.setArray_keeps_out (s : State) (core string position : Nat) (a : ArrayRec) :
    (s.setArray core string position a).out = s.out := rfl
@[simp] theorem State.setArray_keeps_pending (s : State) (core string position : Nat) (a : ArrayRec) :
    (s.setArray core string position a).pending = s.pending := rfl

@[simp] theorem State.setTenant_keeps_host (s : State) (n : Nat) (x : Tenant) : (s.setTenant n x).host = s.host := rfl
@[simp] theorem State.setTenant_keeps_mls (s : State) (n : Nat) (x : Tenant) : (s.setTenant n x).mls = s.mls := rfl
@[simp] theorem State.setTenant_keeps_cores (s : State) (n : Nat) (x : Tenant) : (s.setTenant n x).cores = s.cores := rfl
@[simp] theorem State.setTenant_keeps_bays (s : State) (n : Nat) (x : Tenant) : (s.setTenant n x).bays = s.bays := rfl
@[simp] theorem State.setTenant_keeps_ctxs (s : State) (n : Nat) (x : Tenant) : (s.setTenant n x).ctxs = s.ctxs := rfl
@[simp] theorem State.setTenant_keeps_reqs (s : State) (n : Nat) (x : Tenant) : (s.setTenant n x).reqs = s.reqs := rfl
@[simp] theorem State.setTenant_keeps_video (s : State) (n : Nat) (x : Tenant) : (s.setTenant n x).video = s.video := rfl
@[simp] theorem State.setTenant_keeps_mem (s : State) (n : Nat) (x : Tenant) : (s.setTenant n x).mem = s.mem := rfl
@[simp] theorem State.setTenant_sets_customs (s : State) (n : Nat) (x : Tenant) :
    (s.setTenant n x).customs = { s.customs with tenants := Map.set s.customs.tenants n x } := rfl
@[simp] theorem State.setTenant_keeps_escort (s : State) (n : Nat) (x : Tenant) : (s.setTenant n x).escort = s.escort := rfl
@[simp] theorem State.setTenant_keeps_power (s : State) (n : Nat) (x : Tenant) : (s.setTenant n x).power = s.power := rfl
@[simp] theorem State.setTenant_keeps_fw (s : State) (n : Nat) (x : Tenant) : (s.setTenant n x).fw = s.fw := rfl
@[simp] theorem State.setTenant_keeps_persist (s : State) (n : Nat) (x : Tenant) :
    (s.setTenant n x).persist = s.persist := rfl
@[simp] theorem State.setTenant_keeps_fuses (s : State) (n : Nat) (x : Tenant) : (s.setTenant n x).fuses = s.fuses := rfl
@[simp] theorem State.setTenant_keeps_stats (s : State) (n : Nat) (x : Tenant) : (s.setTenant n x).stats = s.stats := rfl
@[simp] theorem State.setTenant_keeps_free (s : State) (n : Nat) (x : Tenant) : (s.setTenant n x).free = s.free := rfl
@[simp] theorem State.setTenant_keeps_out (s : State) (n : Nat) (x : Tenant) : (s.setTenant n x).out = s.out := rfl
@[simp] theorem State.setTenant_keeps_pending (s : State) (n : Nat) (x : Tenant) :
    (s.setTenant n x).pending = s.pending := rfl

@[simp] theorem State.setKeySlot_keeps_host (s : State) (n : Nat) (x : KeySlot) : (s.setKeySlot n x).host = s.host := rfl
@[simp] theorem State.setKeySlot_keeps_mls (s : State) (n : Nat) (x : KeySlot) : (s.setKeySlot n x).mls = s.mls := rfl
@[simp] theorem State.setKeySlot_keeps_cores (s : State) (n : Nat) (x : KeySlot) : (s.setKeySlot n x).cores = s.cores := rfl
@[simp] theorem State.setKeySlot_keeps_bays (s : State) (n : Nat) (x : KeySlot) : (s.setKeySlot n x).bays = s.bays := rfl
@[simp] theorem State.setKeySlot_keeps_ctxs (s : State) (n : Nat) (x : KeySlot) : (s.setKeySlot n x).ctxs = s.ctxs := rfl
@[simp] theorem State.setKeySlot_keeps_reqs (s : State) (n : Nat) (x : KeySlot) : (s.setKeySlot n x).reqs = s.reqs := rfl
@[simp] theorem State.setKeySlot_keeps_video (s : State) (n : Nat) (x : KeySlot) : (s.setKeySlot n x).video = s.video := rfl
@[simp] theorem State.setKeySlot_keeps_mem (s : State) (n : Nat) (x : KeySlot) : (s.setKeySlot n x).mem = s.mem := rfl
@[simp] theorem State.setKeySlot_sets_customs (s : State) (n : Nat) (x : KeySlot) :
    (s.setKeySlot n x).customs = { s.customs with slots := Map.set s.customs.slots n x } := rfl
@[simp] theorem State.setKeySlot_keeps_escort (s : State) (n : Nat) (x : KeySlot) :
    (s.setKeySlot n x).escort = s.escort := rfl
@[simp] theorem State.setKeySlot_keeps_power (s : State) (n : Nat) (x : KeySlot) : (s.setKeySlot n x).power = s.power := rfl
@[simp] theorem State.setKeySlot_keeps_fw (s : State) (n : Nat) (x : KeySlot) : (s.setKeySlot n x).fw = s.fw := rfl
@[simp] theorem State.setKeySlot_keeps_persist (s : State) (n : Nat) (x : KeySlot) :
    (s.setKeySlot n x).persist = s.persist := rfl
@[simp] theorem State.setKeySlot_keeps_fuses (s : State) (n : Nat) (x : KeySlot) : (s.setKeySlot n x).fuses = s.fuses := rfl
@[simp] theorem State.setKeySlot_keeps_stats (s : State) (n : Nat) (x : KeySlot) : (s.setKeySlot n x).stats = s.stats := rfl
@[simp] theorem State.setKeySlot_keeps_free (s : State) (n : Nat) (x : KeySlot) : (s.setKeySlot n x).free = s.free := rfl
@[simp] theorem State.setKeySlot_keeps_out (s : State) (n : Nat) (x : KeySlot) : (s.setKeySlot n x).out = s.out := rfl
@[simp] theorem State.setKeySlot_keeps_pending (s : State) (n : Nat) (x : KeySlot) :
    (s.setKeySlot n x).pending = s.pending := rfl

end Sys2Proof.Machine
end

