-- ==== Sys2Proof/Tests/Slice0.lean ====
section
/-! SUPPORT. Tests: examples and tables of the spec, ill-formed commands that are refused, and for every statement with
hypotheses a state and operands that meet them. Each witness names its statement; where a hypothesis reads an opaque
value of Config, the witness shows the other hypotheses for every operand that meets it. -/

namespace Sys2Proof.Tests

set_option Elab.async false

open Sys2Proof.Machine

/-! ## A running module -/

/-- A packet's header on ring 0 of the physical function. -/
def hdr : Hdr :=
  { fn := 0, ring := 0, tag := 1, tenant := 0, priority := 0, signal := false, barrier := false, rsvdZero := true,
    inlineLength := 32, payloadAddr := 0, payloadLen := 20544, payloadOk := true, copied := false, scatter := none }

/-- A running module: rails on, the host link up, and ring 0 of the physical function enabled and open. -/
def ready : State :=
  let r := State.reset
  let host := { r.host with
    linkUp := true, rings := Map.set r.host.rings 0 { RingPair.reset with enable := true, open_ := true, cmdLog2 := 6, rplLog2 := 6 } }
  let power := { r.power with state := 1, railsOn := true, mated := true, released := true }
  { r with host := host, power := power }

/-- The running module at a moment of its interval clock and of module time. -/
def at_ (s : State) (up time : Nat) : State := { s with mls := { s.mls with uptime := up, time := time } }

/-- Ten pass periods, thirty days and every other interval have passed. -/
def later : State := at_ ready 3000000000000000 3000000000000000

/-- The reference of a command that waits. -/
def ref0 : CmdRef := cmdRef 0x0001 { hdr with tag := 9 } ready

theorem test_ready_starts :
    [0x0101, 0x0102, 0x0103, 0x0104, 0x0110, 0x0201, 0x0202, 0x0203, 0x0204, 0x0205, 0x0206, 0x0207, 0x0210, 0x0211, 0x0301,
     0x0302, 0x0303, 0x0310, 0x0311, 0x0401, 0x0402, 0x0403, 0x0404, 0x0405].all (fun op => startable op hdr ready) = true ∧
    [0x0001, 0x0002, 0x0003, 0x0010, 0x0501, 0x0502, 0x0503, 0x0504, 0x0601, 0x0602, 0x0603, 0x0604, 0x0605, 0x0701, 0x0702,
     0x0703, 0x0704, 0x0801, 0x0802, 0x0803, 0x0901, 0x0902].all (fun op => startable op hdr ready) = true := by
  decide +kernel

theorem test_later_starts : ∀ op ∈ opcodes, startable op hdr later = true := by decide +kernel

/-! ## Time, tracks and launches -/

def tb : TimebaseParams :=
  { bus := true, ptp := true, preferPtp := false, ptpDomain := 127, ptpPorts := 15, transport := 2, peerDelay := false,
    ptpVlan := 4095, holdoverLimit := 3600, step := true, stepNs := -1 }

def tp : TrackParams :=
  { track := 255, auth := false, sourceId := 7, window := 64, ports := 15, horizon := 10000, span := 2, timeout := 1000,
    vStop := 0, aMax := 0, residMax := 0 }

def withTrack (s : State) (t : Track) : State := s.setTrack 255 t

theorem witness_TimeAndTrackCommands :
    timebaseOk tb = true ∧ (ready.started 0x0401 hdr).mls.ledger = [] ∧ (ready.started 0x0401 hdr).reqs.routes = [] ∧
    trackOk tp = true ∧ Map.get? (ready.started 0x0402 hdr).mls.tracks 255 = none ∧
    (let s := withTrack ready (Track.fresh 0 tp)
     startable 0x0402 hdr s = true ∧ Map.get? (s.started 0x0402 hdr).mls.tracks 255 = some (Track.fresh 0 tp) ∧
     (s.started 0x0402 hdr).trackNamed 255 = false) ∧
    (let s := withTrack ready (Track.fresh 0 { tp with sourceId := 8 })
     startable 0x0402 hdr s = true ∧
     Map.get? (s.started 0x0402 hdr).mls.tracks 255 = some (Track.fresh 0 { tp with sourceId := 8 })) := by
  decide +kernel

def ap : ActionParams :=
  { stream := 4095, kind := 1, encrypt := false, reportAll := true, lineMode := 0, ports := 1, holdInput := 6, vlan := 0,
    destMac := 0, lineMask := 0x8001, lead := 1000, pulseWidth := 8, lineOffset := 0, maxWait := 0, ringBase := 0,
    ringEntries := 65536 }

def astream (p : ActionParams) : ActionStream :=
  { tenant := 0, params := p, nextSeq := 1, renewal := 0, renewalRaised := false, producer := 0 }

def withStream (s : State) (p : ActionParams) : State := s.setStream 4095 (astream p)

def pp : PostParams :=
  { stream := 4095, target := 1, tokenCount := 64, track := 0, when_ := 1000, lead := 0, tokens := List.replicate 64 7 }

/-- Module time is locked, so that launches are accepted. -/
def locked (s : State) : State := { s with mls := { s.mls with disc := 2 } }

theorem witness_LaunchCommands :
    actionStreamOk ap = true ∧ (ready.started 0x0403 hdr).lineTaken ap = false ∧ (ready.started 0x0403 hdr).stream 4095 = none ∧
    (let s := locked (withStream ready ap)
     (∀ op ∈ [0x0403, 0x0404, 0x0405], startable op hdr s = true) ∧ (s.started 0x0403 hdr).lineTaken ap = false ∧
     (s.started 0x0403 hdr).stream 4095 = some (astream ap) ∧ (s.started 0x0404 hdr).stream 4095 = some (astream ap) ∧
     postRefusal hdr pp (s.started 0x0404 hdr) = none ∧ (s.started 0x0405 hdr).stream 4095 = some (astream ap)) := by
  decide +kernel


/-- HOLD_n released. -/
def released (s : State) : State := { s with mls := { s.mls with holdPin := true, hold := false, holdRose := some 0, releaseDelay := 1000000 } }

theorem witness_HoldsAndLines :
    (released later).mls.holdPin = true ∧ ({ later with mls := { later.mls with holdPin := false } } : State).mls.holdPin = false ∧
    (let s := at_ (released later) 1000000000 0
     s.mls.holdRose = some 0 ∧ 0 + 1000 * s.mls.releaseDelay ≤ s.mls.uptime) ∧
    (let s : State := { later with mls := { later.mls with inputRose := [(6, 0)], closedInputs := [6] } }
     s.mls.inputRose.find? (fun p => p.1 = 6) = some (6, 0) ∧ 0 + 1000 * s.mls.releaseDelay ≤ s.mls.uptime ∧
     s.mls.closedInputs.contains 6 = true) ∧
    (withStream ready ap).inputNamed 6 = true ∧ ready.inputNamed 6 = false := by
  decide +kernel

/-- The module follows PTP, whose master is on port 0, and holds a pulse's time code. -/
def timed : State :=
  { later with mls := { later.mls with
      cfg := tb, nextCode := some 5, busPresent := true, lastPulse := some 0, ptpMaster := some (9, 0, 1000),
      lastAnnounce := some 0, settledSince := some 0, disc := 3, holdoverSince := some 0 } }

theorem witness_TimeSources :
    timed.power.railsOn = true ∧ timed.mls.nextCode = some 5 ∧ ready.mls.nextCode = none ∧ timed.mls.busPresent = true ∧
    timed.mls.lastPulse = some 0 ∧ 0 + 3000000 ≤ timed.mls.uptime ∧ timed.ptpMatches 3 127 2 4095 = true ∧
    timed.mls.ptpMaster = some (9, 0, 1000) ∧ timed.ptpMatches 0 127 2 4095 = true ∧
    timed.mls.lastAnnounce = some 0 ∧ 0 + 3 * 1000 ≤ timed.mls.uptime ∧ timed.mls.settledSince = some 0 ∧
    0 + 10000000000 ≤ timed.mls.uptime ∧ timed.mls.disc = 3 ∧ timed.mls.holdoverSince = some 0 ∧
    0 + timed.mls.cfg.holdoverLimit * 1000000000 < timed.mls.uptime := by
  decide +kernel

def entry0 : LedgerEntry :=
  { state := 2, trackBound := true, line := true, posted := false, stream := 4095, sequence := 1, request := 0, track := 255,
    tokens := [7], tenant := 0, when_ := 0, tPred16 := 0, lead := 1000, expiry := 0, loadedPorts := 1, postFn := 0,
    postRing := 0, postTag := 0, postSession := 0, postSignal := false }

def withEntry (s : State) (e : LedgerEntry) : State := { s with mls := { s.mls with ledger := [e] } }

theorem witness_TracksAndLedgerTicks :
    (let s := withTrack later { Track.fresh 0 tp with state := 1, lastAccept := some 0 }
     Map.get? s.mls.tracks 255 = some { Track.fresh 0 tp with state := 1, lastAccept := some 0 } ∧
     0 + 1000000 * tp.timeout ≤ s.mls.uptime) ∧
    (let s := withEntry later entry0
     s.entry 4095 1 = some entry0 ∧ s.mls.time % 10000 = 0 ∧ entry0.trackBound = true ∧ entry0.state ≠ 3 ∧
     entry0.expiry ≤ s.mls.time) := by
  decide +kernel

theorem witness_LaunchesAndTheirOutcomes :
    (let e := { entry0 with state := 3 }
     let p := { ap with lineMask := 0 }
     let s := withEntry (withStream later p) e
     s.entry 4095 1 = some e ∧ s.stream 4095 = some (astream p) ∧ e.line = true ∧ e.state = 3 ∧ s.inPulse e = false ∧
     earliestMatch e.tPred16 p.lineOffset (maskLines p.lineMask) ≤ s.mls.time) ∧
    (let e := { entry0 with state := 3, line := false }
     let s := withEntry (withStream later ap) e
     s.entry 4095 1 = some e ∧ s.stream 4095 = some (astream ap) ∧ e.tPred16 ≤ 16 * (s.mls.time + e.lead)) ∧
    (let p : Pulse := { entry := entry0, lines := [0], start16 := 0, end16 := 0, cut := false }
     let s : State := { later with mls := { later.mls with pulses := [p] } }
     s.mls.pulses.find? (fun p => p.entry.stream = 4095 && p.entry.sequence = 1) = some p ∧ p.end16 ≤ 16 * s.mls.time) := by
  decide +kernel

theorem witness_HoldDropsEveryLine : (released ready).mls.holdPin = true := by decide +kernel

theorem witness_NoLaunchWhileHeld : ({ ready with mls := { ready.mls with hold := true } } : State).mayNotLaunch := .inl rfl

theorem witness_QueueIsTheSenders : ∃ t, step { ready with pending := [.holdAssert] } = .next t := ⟨_, rfl⟩

theorem witness_FusesSurviveEveryStep : Fuses.shipped.keptBy ready.fuses ∧ ∃ t, step ready = .next t := by
  refine ⟨⟨rfl, rfl, rfl, rfl, rfl, fun i => le_refl _⟩, ?_⟩
  exact ⟨_, rfl⟩

/-! ## Memory -/

theorem witness_TollsDecide :
    let t := ready.toll 25
    t.owner = none ∧ t.ptr ≤ 13 ∧
    (bitOf (2 ^ 13) 13 = true ∧ bitOf ready.mem.fence 13 = false) ∧
    (∀ r < 14, r ≠ 13 → bitOf (2 ^ 13) r = false) ∧
    (∀ r < 14, ¬(0 < t.waitLimit r ∧ t.waitLimit r ≤ t.wait.getD r 0)) ∧ (∀ r < 14, bitOf 0 r = false) := by
  decide +kernel

def held : State := later.setToll 25 { later.toll 25 with owner := some 13, watchdog := 1 }

theorem witness_TollRegistersAndWatchdog : (held.toll 25).owner = some 13 ∧ (held.toll 25).watchdog ≤ 1 := by
  decide +kernel

def sp : ScrubParams := { cls := 5, unit := 0, rate := 64, start := 0, length := 64 }

def scrub0 : Scrub := { ref := ref0, params := { sp with cls := 0 }, stopped := false }

def log0 : LogEntry :=
  { seq := 2 ^ 32 - 1, kind := 0x30, cls := 255, unit := 255, eventRaised := true, time := 0, rep := 0, tenant := 255,
    detail := [] }

def page0 : Frame := { refs := 1, tenant := 0, state := 1, family := 0, retireDue := false, poisoned := false }

theorem witness_ScrubLogAndRetirement :
    scrubOk sp = true ∧ 64 ≤ payloadBytes hdr ∧
    (let s : State := { ready with mem := { ready.mem with scrubs := [scrub0] } }
     s.activeScrub 0 0 = some scrub0 ∧ bitOf s.mem.fence 12 = false ∧ startable 0x0501 hdr s = true ∧
     (s.started 0x0501 hdr).mem.scrubs = [scrub0] ∧ (s.started 0x0501 hdr).activeScrub 0 0 = some scrub0) ∧
    (let s : State := { ready with mem := { ready.mem with log := [log0], logHead := 2 ^ 32 - 1 } }
     startable 0x0502 hdr s = true ∧ ((logFrom (s.started 0x0502 hdr).mem.log 0).take 1024).getLast? = some log0) ∧
    pageOk 0 = true ∧ (ready.started 0x0503 hdr).frameRetired 0 = false ∧ (ready.started 0x0503 hdr).retirements 0 < 65536 ∧
    (ready.started 0x0503 hdr).frame 0 = none ∧
    (let s := ready.setFrames [(0, page0)]
     startable 0x0503 hdr s = true ∧ (s.started 0x0503 hdr).frameRetired 0 = false ∧
     (s.started 0x0503 hdr).frame 0 = some page0) ∧
    (let place := granulePlace 0 0
     (ready.started 0x0503 hdr).mem.banks.contains (0, place.1, place.2) = false ∧ (ready.started 0x0503 hdr).mem.banks = []) := by
  decide +kernel

theorem witness_DataWritesStore : ready.memOk ∧ ready.mem.flipArm = false := ⟨State.reset_memOk, rfl⟩

theorem witness_ErrorLogKeepsOrder : ready.mem.log.length ≤ 1024 := by decide +kernel

/-! ## The host link -/

/-- Ring 0 with another command outstanding. -/
def busy : State :=
  ready.setRing 0 0 { ready.ring 0 0 with outstanding := [(9, true)] }

theorem witness_HelloOpensTheRing :
    startable 0x0001 hdr busy = true ∧ ((busy.started 0x0001 hdr).ring 0 0).open_ = true ∧
    (∃ t ∈ ((busy.started 0x0001 hdr).ring 0 0).outstanding, t.1 ≠ hdr.tag) ∧
    ¬ (((ready.started 0x0001 hdr).ring 0 0).open_ = true ∧ ∃ t ∈ ((ready.started 0x0001 hdr).ring 0 0).outstanding, t.1 ≠ hdr.tag) := by
  decide +kernel

/-- The physical function's event queue enabled with one lost record. -/
def lossy : State := ready.setFn 0 { ready.fn 0 with evqEnable := true, evqLog2 := 6, pendingLost := 1 }

theorem witness_EventLostAccounting :
    bitOf (ready.fn 0).mask (0x0100 / 256) = true ∧ (ready.fn 0).evqEnable = false ∧ (lossy.fn 0).pendingLost ≠ 0 ∧
    (lossy.fn 0).evqEnable = true ∧ lossy.canDma 0 = true ∧
    ((lossy.fn 0).evqTail + 1) % 2 ^ (lossy.fn 0).evqLog2 ≠ (lossy.fn 0).evqHead := by
  decide +kernel

theorem witness_StatusAndMasks :
    64 ≤ payloadBytes hdr ∧ startable 0x0002 { hdr with payloadLen := 63 } ready = true ∧
    (∃ bytes, (ready.started 0x0003 hdr).findStatus 0 0x0060 63 0 0 0 = .record bytes) ∧
    (∃ bytes, (ready.started 0x0003 hdr).findStatus 0 0x0001 8 0 0 0 = .record bytes ∧ 1 < bytes.length) ∧
    startable 0x0003 { hdr with payloadLen := 1 } ready = true ∧
    (∃ st, (ready.started 0x0003 hdr).findStatus 0 0x0003 7 0 0 0 = .refuse st) ∧
    bitOf (({ ready.fn 0 with mask := 1 } : FnState).mask) (0x0900 / 256) = false ∧
    bitOf (ready.fn 0).mask (0x0900 / 256) = true := by
  refine ⟨by decide, by decide +kernel, ⟨_, rfl⟩, ⟨_, rfl, by decide +kernel⟩, by decide +kernel, ⟨_, rfl⟩, by decide +kernel,
    by decide +kernel⟩

theorem witness_StatusIsReadByItsOwners :
    (∃ bytes, ready.findStatus 0 0x0001 8 0 0 0 = .record bytes) ∧ ∃ st, ready.findStatus 1 0x0001 8 0 0 0 = .refuse st :=
  ⟨⟨_, rfl⟩, ⟨_, rfl⟩⟩

theorem witness_RingAndFunctionRows :
    ringOk 0 7 = true ∧ (ready.ring 0 7).enable = false ∧ ringOk 0 0 = true ∧ ready.fetches 0 0 = true ∧
    (ready.ring 0 0).unfetched = [] ∧ 1 ≤ (ready.ring 0 0).cmdLog2 ∧ (ready.ring 0 0).cmdHead < 2 ^ (ready.ring 0 0).cmdLog2 ∧
    (ready.ring 0 0).barred [] = false ∧ (ready.ring 0 0).enable = true ∧
    (let s := later.setRing 0 0 { later.ring 0 0 with firstSince := some 0, coalTime := 65535 }
     (s.ring 0 0).firstSince = some 0 ∧ 0 + 1000 * (s.ring 0 0).coalTime ≤ s.mls.uptime) ∧
    (ready.setFn 63 { ready.fn 63 with present := true } |>.fn 63).present = true ∧ (ready.fn 0).present = true := by
  decide +kernel

/-- A packet of 64 bytes with its CRC: opcode, version, tag, tenant, priority and inline length. -/
def packet (op version tag tenant priority inline : Nat) : List Byte :=
  let b := leBytes 2 op ++ leBytes 1 version ++ leBytes 1 0 ++ leBytes 2 tag ++ leBytes 1 tenant ++ leBytes 1 priority ++
    leBytes 4 inline ++ List.replicate 48 0
  b ++ leBytes 4 (crc32c b)

theorem witness_PacketChecksInOrder :
    let ok := fun b : List Byte => decide (leNat (slice 60 4 b) = crc32c (b.take 60))
    ok (List.replicate 64 1) = false ∧ ok (packet 0x0003 1 1 0 7 32) = true ∧ ok (packet 0x0003 2 1 0 0 32) = true ∧
    0x0000 ∉ opcodes ∧ ok (packet 0x0000 1 1 0 0 32) = true ∧ (ready.ring 0 1).open_ = false ∧
    ok (packet 0x0003 1 1 1 0 32) = true ∧ Map.get? ready.customs.tenants 1 = none ∧
    (let s : State := { ready with customs := { ready.customs with tenants := Map.set ready.customs.tenants 1 { Tenant.owner with state := 2 } } }
     (Map.get? s.customs.tenants 1).map (·.state) = some 2) ∧
    (Map.get? ready.customs.tenants 0).map (·.state) = some 1 ∧ (packetHdr 0 0 (packet 0x0003 1 1 0 0 33)).inlineLength ≠ 32 ∧
    (packetHdr 0 0 (packet 0x0003 1 1 0 7 32)).inlineLength = 32 ∧ (packetHdr 0 0 (packet 0x0003 1 1 0 7 32)).rsvdZero = true ∧
    (packetHdr 0 0 (packet 0x0003 1 1 0 7 32)).priority ≤ 7 ∧ (packetHdr 0 0 (packet 0x0003 1 9 0 7 32)).tag = 9 ∧
    (busy.ring 0 0).outstanding.any (fun t => t.1 = 9) = true ∧ pfOnly 0x0902 = true ∧ pfOnly 0x0003 = false := by
  decide +kernel

theorem witness_ResetLeavesTheFunctionSilent : ready.liveReqs = [] := by decide +kernel

theorem witness_RegisterRows :
    ready.isWide 0 0x300008 = false ∧ 0x300000 % 8 = 0 ∧ ready.isWide 0 0x300000 = true ∧
    (let t := ready.setFn 0 { ready.fn 0 with latched := some (0x300000, ready.reg32 0 0x300004) }
     (t.fn 0).latched = some (0x300000, ready.reg32 0 0x300004) ∧ t.isWide 0 0x300004 = true) := by
  decide +kernel

theorem witness_RegistersReadBack :
    ready.mem.flipMask.length = 9 ∧ regPlace 0 0x20200 = none ∧ (ready.ring 0 0).enable = true ∧ (ready.ring 0 7).enable = false := by
  decide +kernel

theorem witness_RepliesAndMessages :
    let s := ready.setRing 0 0 { ready.ring 0 0 with coalCount := 4, coalTime := 100 }
    let w := ready.setRing 0 0 { ready.ring 0 0 with waiting := [{ tag := 1, status := 0, opcode := 1, final := true, crcFailed := false, dupTag := false, dmaError := false, result0 := 0, result1 := 0, signal := false }] }
    ((ready.ring 0 0).enable = true ∧ (ready.ring 0 0).session = 0 ∧ (ready.ring 0 0).waiting = [] ∧
      ready.replyRoom 0 0 = true ∧ (ready.ring 0 0).coalTime = 0) ∧
    ((s.ring 0 0).enable = true ∧ (s.ring 0 0).waiting = [] ∧ s.replyRoom 0 0 = true ∧
      ¬((s.ring 0 0).coalCount ≤ 1 ∨ (s.ring 0 0).coalTime = 0 ∨ (s.ring 0 0).coalCount ≤ (s.ring 0 0).sinceMsg + 1)) ∧
    ((w.ring 0 0).enable = true ∧ (w.ring 0 0).waiting ≠ []) ∧ (ready.ring 0 7).enable = false ∧
    8 * 0 + 7 ≠ 8 * 0 + 0 := by
  decide +kernel

/-! ## Cores -/

/-- Core 8 in a role, with a reason where it is fenced. -/
def roled (s : State) (n role reason : Nat) : State :=
  s.setCore n { s.core n with role := role, fenceReason := reason, slice := if role = 2 then none else (s.core n).slice }

def handover0 : Handover := { outgoing := some 0, incoming := 8, loaded := false, refs := [], forFence := false }

def handing (s : State) : State :=
  let t := roled s 8 3 0
  let u := t.setCore 8 { t.core 8 with slice := some 7 }
  { u with cores := { u.cores with handover := some handover0 } }

/-- String 31 of a core with no spare left. -/
def spent (core : Nat) : State :=
  (ready.setArray core 31 128 { ArrayRec.fresh 128 with state := 3 }).setArray core 31 129 { ArrayRec.fresh 129 with state := 3 }

theorem witness_CoreCommands :
    ((handing ready).started 0x0110 hdr).cores.handover = some handover0 ∧ startable 0x0110 hdr (handing ready) = true ∧
    (let b := ready.started 0x0110 hdr
     b.cores.handover = none ∧ b.outgoingCore.isSome = true ∧ b.restingCore = some 8 ∧ b.rotates = true ∧
     b.outgoingCore.all (fun out => !b.rotationHeld out) = true) ∧
    (let s := roled ready 8 2 0
     startable 0x0110 hdr s = true ∧ (s.started 0x0110 hdr).rotates = false ∧ (s.started 0x0110 hdr).cores.handover = none ∧
     ((s.started 0x0110 hdr).core 8).role = 2 ∧ ((s.started 0x0110 hdr).core 8).fenceReason = 0) ∧
    ((ready.started 0x0110 hdr).core 8).role ≠ 2 ∧
    (let s := roled ready 8 2 1
     let b := s.started 0x0110 hdr
     let t := b.setCore 8 { b.core 8 with role := 1, slice := none, restStart := some b.mls.uptime, restScrubbed := false }
     startable 0x0110 hdr s = true ∧ (b.core 8).role = 2 ∧ (b.core 8).fenceReason ≠ 0 ∧ bitOf b.mem.fence 8 = false ∧
     t.rotates = true ∧ ∀ i, i < 8 → ∃ p ∈ t.cores.core, p.2.slice = some i) ∧
    (let s := roled (roled ready 8 2 1) 7 2 1
     let b := s.started 0x0110 hdr
     let t := b.setCore 8 { b.core 8 with role := 1, slice := none, restStart := some b.mls.uptime, restScrubbed := false }
     startable 0x0110 hdr s = true ∧ (b.core 8).role = 2 ∧ (b.core 8).fenceReason ≠ 0 ∧ bitOf b.mem.fence 8 = false ∧
     t.rotates = false) ∧
    (ready.started 0x0504 hdr).indexAt 8 31 129 = none := by
  decide +kernel

/-- The first probe fails and fails again. -/
def failed : List (Nat × Nat) := [(31, 127)]

/-- Array 0 of string 31 of a core works, backs a mapped index whose switch does not wait, and has a spare. -/
def retirable (s : State) (core : Nat) : Bool :=
  let b := s.started 0x0504 hdr
  startable 0x0504 hdr s && decide (b.indexAt core 31 0 = some 0) && decide ((b.array core 31 0).state = 0) &&
    (b.nextSpare core 31).isSome && !b.remapWaits core 31 0

/-- The switch of index 0 of string 31 of C0 waits. -/
def switching : State := ready.queueRemap 0 31 0 128 none

theorem witness_CoreCommands_arrays :
    (let b := switching.started 0x0504 hdr
     startable 0x0504 hdr switching = true ∧ b.indexAt 0 31 0 = some 0 ∧ (b.array 0 31 0).state = 0 ∧
     b.remapWaits 0 31 0 = true) ∧
    (let b := (handing ready).started 0x0504 hdr
     retirable (handing ready) 0 = true ∧ b.leavesService 0 = true ∧ b.writtenIndex 0 0 = false ∧
     retirable (handing ready) 8 = true ∧ (b.core 8).role = 3) ∧
    (let b := ready.started 0x0504 hdr
     retirable ready 0 = true ∧ retirable ready 8 = true ∧ (b.core 8).role = 1 ∧ (b.core 0).role = 0 ∧
     b.writtenIndex 8 0 = false ∧ b.writtenIndex 0 0 = false ∧ b.leavesService 0 = false ∧ b.servesBay 0 = false) ∧
    (let b := (roled ready 8 2 0).started 0x0504 hdr
     retirable (roled ready 8 2 0) 8 = true ∧ (b.core 8).role = 2 ∧ b.writtenIndex 8 0 = false) ∧
    (let b := (spent 0).started 0x0504 hdr
     startable 0x0504 hdr (spent 0) = true ∧ b.indexAt 0 31 0 = some 0 ∧ b.nextSpare 0 31 = none ∧
     b.remapWaits 0 31 0 = false ∧ (b.array 0 31 0).state = 0) := by
  decide +kernel

/-- A measurement of a column whose zero readings are all one value. -/
def measured (zero : Int) : CalMeasure := { zero := [zero], ref0 := [], ref1 := [] }

/-- Array 0 of string 31 of C0 with its calibration firings made. -/
def calibrated (n : Nat) : State := later.setArray 0 31 0 { later.array 0 31 0 with calFired := n }

theorem witness_CalibrationAndRotation :
    (∀ p ∈ [(0, 27), (17, 54)],
      later.power.railsOn = true ∧ (later.core 0).role = 0 ∧ p.2 ≤ ((calibrated p.2).array 0 31 0).calFired ∧
      calLarge 7 (measured 17) = true ∧ ((calibrated 26).array 0 31 0).calFired < p.2) ∧
    (later.core 0).overdue = false ∧
    (later.core 0).passStart + 10 * later.cores.passPeriod * 1000000 ≤ later.mls.uptime ∧ (later.core 8).role = 1 ∧
    later.fullCalDue 8 = false ∧ (roled later 0 2 1).fullCalDue 8 = true ∧ ((roled later 0 2 1).core 8).role = 1 ∧
    (let s := roled later 8 2 1
     (s.core 0).calStale = false ∧ s.rotates = false ∧
     (s.core 0).lastFullCal.getD 0 + 30 * 86400 * 1000000000 ≤ s.mls.uptime) ∧
    (let t : State := { later with cores := { later.cores with restFrom := later.mls.uptime, restCount := later.cores.restCount + 1 } }
     let s := later.setCore 8 { later.core 8 with lastFullCal := some later.mls.uptime }
     s.rotates = true ∧ s.power.railsOn = true ∧ s.cores.handover = none ∧
     s.cores.restFrom + s.cores.restPeriod * 1000000000 ≤ s.mls.uptime ∧ s.finalPassDone 8 = true ∧
     t.outgoingCore.isSome = true ∧ s.restingCore = some 8 ∧ t.outgoingCore.all (fun out => !t.rotationHeld out) = true) ∧
    ((handing later).cores.handover = some handover0 ∧ handover0.loaded = false ∧
      ((handing later).core 8).slice = some 7 ∧ ([] : List (Nat × Nat)).filter ([].contains) = [] ∧
      [(31, 127)].filter [(31, 127)].contains = (31, 127) :: [] ∧ (handing later).bays.bay = []) := by
  decide +kernel

theorem witness_DigitsCodesAndChecksums :
    (∀ x ∈ [(-128 : Int), 127], -128 ≤ x ∧ x ≤ 127) ∧
    (-512 * (lsb2 7 : Int) ≤ 2 * (-256 * (lsb2 7 : Int)) ∧ 2 * (-256 * (lsb2 7 : Int)) ≤ 511 * (lsb2 7 : Int)) ∧
    (-2048 : Int) ≤ -2048 ∧ (2047 : Int) ≤ 2047 := by
  decide +kernel

theorem witness_FencedCore :
    Map.rises ready.cores.core ∧ (ready.core 8).role ≠ 2 ∧ ((roled ready 8 2 1).core 8).role = 2 ∧
    (let b := ready.started 0x0504 hdr
     b.indexAt 8 0 0 = some 0 ∧ (b.nextSpare 8 0).isSome = true ∧ (b.array 8 0 0).state = 0 ∧ (b.core 8).role = 1 ∧
     b.remapWaits 8 0 0 = false ∧ b.writtenIndex 8 0 = false) := by
  refine ⟨?_, by decide +kernel⟩
  unfold Map.rises
  decide +kernel

/-! ## Bales and bays -/

/-- A bale of one slice with one empty section. -/
def bale0 : Bale :=
  { magic := 0x4C414256, format := 1, generation := 1, kind := 0, totalLength := 288, digest := 0, modelId := 0, kvCompat := 0,
    itineraryVersion := 0, slices := 1, perString := 1, arraysTotal := 0, layers := 1, outriders := 0, kvHeads := 1,
    headDim := 32, vocab := 8, width := 256, tokeniserHash := 0, sections := [{ kind := 1, slice := 0, offset := 0, length := 0 }],
    layerMap := [], tiles := [], scales := [],
    segments := [{ stage := 0, layer := 0, heads := 0, queryHeads := 1, headDim := 32, arrays := 1, sl := 1, rangeStep := 7 }],
    heads := [], maxDepth := 0, vectorParams := [], embeds := [], positions := [], detector := none, convs := [], tDet := 0,
    bytes := [] }

/-- The bytes of a bale of no more than a header and a directory. -/
def bareBytes (b : Bale) : List Byte := Bale.header b ++ b.sections.flatMap BaleSection.entry

/-- The bale with its bytes; DIGEST is that of the bytes with DIGEST zero (Table 04-2). -/
def bale2 : Bale :=
  let d := { bale0 with digest := Config.sha384 (bareBytes bale0) }
  { d with bytes := bareBytes d }

set_option maxRecDepth 20000 in
theorem test_bale_accepted : baleVersionOk bale2 = true ∧ baleContentOk bale2 = true := by
  have e : Bale.digested bale2 = bareBytes bale0 := by decide +kernel
  have d : digestOk bale2 = true := decide_eq_true (congrArg Config.sha384 e)
  have l : (bale2.bytes.length = bale2.totalLength) := rfl
  have h : bale2.bytes.take 256 = Bale.header bale2 := rfl
  have s : slice 256 (32 * bale2.sections.length) bale2.bytes = bale2.sections.flatMap BaleSection.entry := rfl
  refine ⟨by decide, ?_⟩
  unfold baleContentOk directoryOk
  rw [d, h, s, l]
  simp
  decide +kernel

def bayParams : BayParams :=
  { bay := 7, kind := 0, sliceMask := 0x80, tol := 255, perString := 128, swapMode := 1, autoSwap := true, owner := 0,
    minDwell := 1 }

def bay0 : Bay := Bay.fresh bayParams

def load0 : LoadJob :=
  { ref := ref0, tenant := 0, source := 0, tier := 0, store := false, library := none, bale := bale0, discards := [] }

def staged0 : Staged := { tenant := 0, bale := bale0, tier := 0, library := none, frames := [], poisoned := false }

def seat0 : SeatJob :=
  { ref := some ref0, auto := false, handle := some 63, preempt := false, discard := false, deleteLibrary := false, started := 0,
    previous := none, stopped := true }

/-- A bay with work in front, and the bale it names staged. -/
def withBay (s : State) (b : Bay) : State := { s with bays := { s.bays with bay := [(7, b)], staged := [(63, staged0)] } }

theorem witness_CoreCommands_serving :
    let s := withBay ready { bay0 with seated := some 63, sliceMask := 1 }
    let b := s.started 0x0504 hdr
    startable 0x0504 hdr s = true ∧ b.indexAt 0 31 0 = some 0 ∧ (b.nextSpare 0 31).isSome = true ∧
      (b.array 0 31 0).state = 0 ∧ (b.core 0).role = 0 ∧ b.servesBay 0 = true ∧ b.leavesService 0 = false ∧
      b.writtenIndex 0 0 = false ∧ b.remapWaits 0 31 0 = false := by
  decide +kernel

/-- An array whose bay is being written, and a slice whose rotation a bad staging copy holds. -/
theorem witness_CoreCommands_written :
    (∀ core ∈ [0, 1], let s := withBay (roled ready 8 2 0) { bay0 with jobs := [seat0], sliceMask := 3, share := 128 }
     retirable s core = true ∧ (s.started 0x0504 hdr).writtenIndex core 0 = true) ∧
    (let s := withBay ready { bay0 with seated := some 63, sliceMask := 1 }
     let t : State := { s with bays := { s.bays with staged := [(63, { staged0 with poisoned := true })] } }
     let b := t.started 0x0110 hdr
     startable 0x0110 hdr t = true ∧ b.cores.handover = none ∧ b.outgoingCore = some 0 ∧ b.rotationHeld 0 = true) := by
  decide +kernel

theorem witness_CalibrationAndRotation_held :
    let s := withBay later { bay0 with seated := some 63, sliceMask := 1 }
    let t : State := { s with bays := { s.bays with staged := [(63, { staged0 with poisoned := true })] } }
    let u := t.setCore 8 { t.core 8 with lastFullCal := some later.mls.uptime }
    u.finalPassDone 8 = true ∧ u.outgoingCore = some 0 ∧ u.rotationHeld 0 = true := by
  decide +kernel

/-- A bay is seated on the slice that a core loads. -/
theorem witness_CalibrationAndRotation_seated :
    ((handing (withBay later { bay0 with seated := some 63 })).bays.bay.any fun b => b.2.seated.isSome && bitOf b.2.sliceMask 7) =
      true := by
  decide +kernel

/-! ## Firings -/

/-- An input group of a scale. -/
def group0 (scale : Nat) : InputGroup := { elems := List.replicate 256 1, scales := List.replicate 8 scale }

/-- One firing of C0. -/
def firing0 (scale : Nat) : Firing :=
  { core := 0, string := 31, position := 0, kind := .data, bay := 7, segment := 0, request := none, token := 0, place := 0,
    group := some (group0 scale) }

/-- A bay on slice 0 whose bale has one tile, at index 0 of string 31. -/
def working : State :=
  let e : LayerEntry := { layer := 0, matrix := 0, mxint8 := false, rowTile := 0, colTile := 0, slice := 0, string := 31,
                          index := 0, rangeStep := 7, tile := 0 }
  withBay later { bay0 with seated := some 63, bale := some { bale0 with layerMap := [e] }, sliceMask := 1 }

/-- The firing budget used up. -/
def starved (s : State) : State := { s with power := { s.power with fireBudget := 0 } }

def refire0 : PendingRefire :=
  { ticket := 0, slot := 0, xs := [], emax := 127, tile := none, results := [], firing := firing0 127, standby := 128, dis := 0 }

theorem witness_Firings :
    (let f := firing0 255
     working.fires f = true ∧ groupNaN (working.inputOf f).1 = true) ∧
    (let f := firing0 127
     working.fires f = true ∧ groupNaN (working.inputOf f).1 = false ∧ working.mayFire 0 31 0 false = true ∧
     (starved working).fires f = true ∧ groupNaN ((starved working).inputOf f).1 = false ∧
     (starved working).mayFire 0 31 0 false = false) ∧
    (let f := { firing0 127 with kind := .calibration }
     later.fires f = true ∧ later.mayFire 0 31 0 true = true ∧ (starved later).mayFire 0 31 0 true = false) ∧
    later.fires (firing0 127) = false ∧
    (let s : State := { later with cores := { later.cores with refires := [refire0] } }
     s.cores.refires.find? (fun q => q.firing.core = 0 && q.firing.string = 31 && q.firing.position = 0) = some refire0 ∧
     refire0.slot < s.slotNow ∧ s.mayFire 0 31 128 false = true ∧ (starved s).mayFire 0 31 128 false = false) := by
  decide +kernel

/-- Every hypothesis but the checksum's, which reads the free conversion errors: the difference agrees or does not. -/
theorem witness_AgreeingFiring :
    let f := firing0 127
    let u := (working.inputOf f).2
    working.fires f = true ∧ working.mayFire 0 31 0 false = true ∧ groupNaN (working.inputOf f).1 = false ∧
    (u.array 0 31 0).wordSuspect = false ∧ u.stat (statKey 0x0001 0 0 0 0 8) + 1 < 2 ^ 64 - 65536 := by
  decide +kernel

/-! ## Loads and seatings -/

/-- Table 03-9 and R83: a core fenced while it loads a fenced core's slice leaves that slice without a core. -/
theorem test_fence_of_loading_core :
    let s := roled (withBay ready { bay0 with seated := some 63, sliceMask := 1 }) 0 0 0
    let t := (s.fenceCore 0 1).fenceCore 8 1
    (s.fenceCore 0 1).cores.handover.isSome = true ∧ ((s.fenceCore 0 1).bay 7).map (·.seated) = some (some 63) ∧
      t.cores.handover = none ∧ (t.bay 7).map (·.seated) = some none := by
  decide +kernel

theorem witness_BaleCommands :
    (let s : State := { ready with persist := { ready.persist with library := [(1023, 0, bale0)] } }
     startable 0x0101 hdr s = true ∧ ((s.started 0x0101 hdr).libraryBale 1023 0).isSome = true) ∧
    (ready.started 0x0101 hdr).libraryBale 1023 0 = none ∧
    (let s := withBay ready { bay0 with owner := 63 }
     startable 0x0102 hdr s = true ∧ startable 0x0103 hdr s = true ∧
     ((s.started 0x0102 hdr).bay 7).map (·.owner) = some 63 ∧ ((s.started 0x0103 hdr).bay 7).map (·.owner) = some 63) ∧
    (let s := withBay ready bay0
     startable 0x0102 hdr s = true ∧ startable 0x0103 hdr s = true ∧ startable 0x0104 hdr s = true ∧
     ((s.started 0x0102 hdr).bay 7).map (·.owner) = some 0 ∧ ((s.started 0x0103 hdr).bay 7).map (·.owner) = some 0 ∧
     ((s.started 0x0103 hdr).stagedBale 63).map (·.tenant) = some 0 ∧ (s.started 0x0103 hdr).bays.loads.isEmpty = true ∧
     (s.started 0x0103 hdr).handleInUse 63 none = false ∧
     ((s.started 0x0104 hdr).bay 7).map (fun b => (b.seated.isNone, b.jobs.isEmpty)) = some (true, true)) ∧
    (let s := withBay ready { bay0 with seated := some 63 }
     startable 0x0103 hdr s = true ∧ (s.started 0x0103 hdr).handleInUse 63 none = true) ∧
    bayParamsOk bayParams = true ∧ bayParamsOk { bayParams with perString := 0 } = true ∧
    (let b := ready.started 0x0104 hdr
     (allocateBays (Map.set b.bays.bay 7 (redefined (b.bay 7) bayParams)) b.leastWorking).isSome = true ∧
     seatedForbids (b.bay 7) bayParams = false ∧ Map.has b.customs.tenants 0 = true) := by
  decide +kernel

/-- The same load waiting: equal tenants and digests are the same bale. -/
theorem witness_BaleCommands_sameLoad :
    let s : State := { withBay ready bay0 with bays := { (withBay ready bay0).bays with loads := [load0] } }
    ∃ j ∈ (s.started 0x0103 hdr).bays.loads, (decide (j.tenant = staged0.tenant) && decide (j.bale.digest = staged0.bale.digest)) = true :=
  ⟨load0, List.mem_cons_self, by simp [load0, staged0]⟩

theorem witness_BayEvents :
    (let s : State := { later with bays := { later.bays with loads := [load0] } }
     s.customs.restarting = false ∧ s.droverDown = false ∧
     (s.bays.loads.find? (fun j => j.ref.fn = 0 && j.ref.ring = 0 && j.ref.tag = 9)).isSome = true ∧ load0.discards = []) ∧
    baleVersionOk { bale0 with generation := 2 } = false ∧ directoryOk bale0 = false ∧
    (let b := { bay0 with jobs := [seat0] }
     let s := withBay later b
     (s.bay 7).isSome = true ∧ (s.stagedBale 63).isSome = true ∧ seat0.stopped = true ∧ s.drained 7 b seat0 = true ∧
     s.cores.handover = none ∧ s.droverDown = false ∧ staged0.tier ≠ 2 ∧
     (s.readStaging 63).jobRefusal 7 b seat0 = none ∧
     (s.readStaging 63).jobRefusal 7 { b with share := 0 } seat0 = some Status.noBaySpace) ∧
    (let j := { seat0 with handle := none }
     let b := { bay0 with jobs := [j] }
     let s := withBay later b
     (s.bay 7).isSome = true ∧ j.stopped = true ∧ s.drained 7 b j = true ∧ s.droverDown = false ∧ j.discard = false) ∧
    (let j := { seat0 with handle := none, discard := true }
     let b := { bay0 with jobs := [j], seated := some 63 }
     let s := withBay later b
     let u : State := { s with bays := { s.bays with bay := [(6, { bay0 with seated := some 63 }), (7, b)] } }
     let emptied := fun v : State => (v.dropSums 7).setBay 7 { b with
       seated := none, bale := none, stages := [], jobs := [], own := [], attention := [], projection := [] }
     s.drained 7 b j = true ∧ s.loading 63 = false ∧ (emptied s).handleInUse 63 none = false ∧
     (u.bay 7).isSome = true ∧ u.drained 7 b j = true ∧ u.loading 63 = false ∧ (emptied u).handleInUse 63 none = true) ∧
    (let s := withBay later bay0
     bay0.autoSwap = true ∧ bay0.jobs = [] ∧ bay0.lastSeat = none ∧ s.droverDown = false ∧ s.writesRings = true ∧
     s.power.leaving = none ∧ s.swapTarget 7 bay0 = none) := by
  decide +kernel

theorem witness_BaysNeverMeet : (allocateBays [(7, bay0)] 128).isSome = true ∧ Map.rises [(7, bay0)] := by
  refine ⟨by decide +kernel, ?_⟩
  simp [Map.rises]

theorem witness_SeatingRefusals :
    (withBay ready bay0).seatRefusal bay0 63 = none ∧
    (let s := withBay ready { bay0 with seated := some 63 }
     startable 0x0103 hdr s = true ∧ (s.started 0x0103 hdr).handleInUse 63 none = true) ∧
    ((withBay later bay0).bay 7).isSome = true := by
  decide +kernel

/-! ## Contexts and requests -/

/-- A flush of one position. -/
def flush0 : Flush := { kinds := [0], tails := [0], reserved := [0], geometry := (1, 1, 32, 1), writer := 0 }

def ctx0 : Ctx := { Ctx.fresh 0 65536 1 with geometry := some (1, 1, 32, 1), writer := Config.sha384 [] }

def withCtx (s : State) (x : Ctx) : State := { s with ctxs := { s.ctxs with ctx := [(1, x)], families := [(1, 1)], nextId := 2 } }

def template0 : TemplateRec :=
  { bay := 7, lateReport := false, countPrompt := false, reportAll := false, outKind := 0, maxDepth := 4, nAct := 4096,
    priority := 7, zeroLimit := 0, fullLimit := 0, stopToken := 0xFFFFFFFF, theta := 0x3F800000, alpha := 0, beta := 0,
    temperature := 0, topP := 0x3F800000, topK := 0, named := false, handle := 0, ttftGoal := 0, tbtGoal := 0, reportBase := 0,
    reportEntries := 0, rsvdZero := true }

def req0 : Req :=
  { id := 0, state := 0, suspendedFrom := 0, tenant := 0, route := none, context := 1, branch := none, template := 1023,
    tmpl := template0, bay := 7, bale := some 63, prefill := [(5, 0)], nAct := 1, target := 0, stream := 0, track := 0, when_ := 0,
    unformed := none, lead := 0, tLaunch16 := none, deadline := none, seed := 0, created := 0, lastCommit := none, sampled := [],
    counts := [], drafts := [], depth := 0, zeroRun := 0, fullRun := 0, aMean := 1, sampleStep := 0, steps := 0, delivered := 0,
    suspect := 0, ttftMiss := false, tbtMiss := false, concealed := false, priority := 0, waited := 0, toScatter := [], tails := [],
    reserved := [], scattering := [], scatTails := [], scatReserved := [], layersDone := [], copied := false, poisoned := false, order := 0,
    ref := none, spans := [], inputCount := 1 }

def withReq (s : State) (r : Req) : State := { s with reqs := { s.reqs with slot := [(0, r)], nextSlot := 1, created := 1 } }

/-- A request waits for the staged bale of an AUTO_SWAP bay. -/
theorem witness_BayEvents_autoSwap : (withReq (withBay later bay0) req0).swapTarget 7 bay0 = some 63 := by decide +kernel

def started_ (s : State) (op : Nat) : State := s.started op hdr

theorem witness_ContextCommands :
    (started_ ready 0x0201).ctxFull = false ∧ ((started_ ready 0x0201).tableRoom 0).isSome = true ∧
    (∀ st ∈ [0, 1, 2, 3, 4], let s := withCtx ready { ctx0 with state := st }
      (∀ op ∈ [0x0204, 0x0205, 0x0206, 0x0207], startable op hdr s = true ∧ ((started_ s op).ctx 1).map (·.state) = some st) ∧
      (started_ s 0x0206).extendHeld 1 = false ∧ (started_ s 0x0206).routeNames 1 = false) ∧
    (let s := withCtx ready { ctx0 with flush := some flush0 }
     startable 0x0207 hdr s = true ∧ ((started_ s 0x0207).ctx 1).map (fun x => (x.state, x.flush.isSome)) = some (0, true) ∧
     startable 0x0206 hdr s = true) ∧
    (let s := withReq (withCtx ready ctx0) req0
     startable 0x0204 hdr s = true ∧ startable 0x0206 hdr s = true ∧ (started_ s 0x0204).extendHeld 1 = true) ∧
    (let s := withCtx ready { ctx0 with tenant := 63 }
     ∀ op ∈ [0x0204, 0x0205, 0x0206, 0x0207], startable op hdr s = true ∧
       ((started_ s op).ctx 1).map (·.tenant) = some 63 ∧ (started_ s op).ctx 2 = none) := by
  decide +kernel

def tail0 : Frame := { refs := 1, tenant := 0, state := 3, family := 0, retireDue := false, poisoned := false }

def convoy0 : Convoy := { members := [{ request := 0, q := 1, prefill := true, samples := true, bound := 256 }], mask := [0], counter := 1, tails := [] }

theorem witness_ContextAndConvoyEvents :
    (∀ st ∈ [1, 3], let s := withCtx later { ctx0 with state := st, move := some ref0 }
      (s.ctx 1).map (fun x => (x.state, x.move.isSome)) = some (st, true) ∧ s.moverFenced = false) ∧
    (let x := { ctx0 with state := 2, pages := [[0]] }
     let s := (withCtx later x).setFrames [(0, page0)]
     (s.ctx 1).isSome = true ∧ (s.frame 0).map (fun f => (f.refs, f.state)) = some (1, 1) ∧ 0 ∈ x.inTier 0 ∧ 0 ∉ x.unmoved ∧
     (s.movePage 1 0 1).isSome = true) ∧
    (let x := { ctx0 with state := 2, ttlEnd := some 5 }
     ((withCtx later x).ctx 1).map (fun x => (x.state, x.ttlEnd)) = some (2, some 5) ∧ 5 ≤ later.mls.uptime ∧ ready.mls.uptime < 5) ∧
    (let x := { ctx0 with flush := some flush0 }
     let s := (withCtx later x).setFrames [(0, tail0)]
     ((((s.readFlush 1 0 flush0).scatterLayers (1, 1, 32, 1) 0 1 1 [0] [0] x.pages x.length 1 0 1).bind fun r =>
       (r.2.2.ctx 1).bind fun y => ((r.2.2.setCtx 1 { y with
         flush := none, length := y.length + 1, pages := r.1, kinds := y.kinds ++ [0] }).freeFrames
           (r.2.1 ++ [0])).growTables 0 64).isSome) = true) ∧
    (let b := { bay0 with planned := [convoy0] }
     let s := withBay later b
     let down := fun s : State => ({ s with power := { s.power with state := 2 } } : State)
     s.power.railsOn = true ∧ (s.bay 7).isSome = true ∧ s.stageWaits 7 = false ∧ s.droverDown = false ∧
     (s.enterPlanned 7).isSome = true ∧ (down s).droverDown = true ∧ (down s).stageWaits 7 = false ∧
     ((withBay later bay0).enterPlanned 7).isNone = true ∧ (withBay later bay0).mayForm bay0 = false ∧
     s.mayForm { bay0 with bale := some bale0 } = true) ∧
    (let b := { bay0 with commits := [convoy0] }
     let s := withBay later b
     (s.bay 7).map (·.commits.length) = some 1 ∧ s.droverDown = false ∧ s.power.railsOn = true) := by
  decide +kernel

theorem witness_ForkSharesItsPages :
    let s := withCtx ready { ctx0 with length := 1, kinds := [0], pages := [[0]] }
    startable 0x0207 hdr s = true ∧ ((started_ s 0x0207).ctx 1).map (fun x => (x.state, x.flush.isNone, x.length)) = some (0, true, 1) ∧
    (started_ s 0x0207).ctxFull = false ∧ ((started_ s 0x0207).tableRoom 0).isSome = true := by
  decide +kernel

def submit0 : SubmitParams :=
  { context := 1, template := 1023, branch := false, modeRsvd := false, target := 0, stream := 0, nAct := 1, inputCount := 1,
    track := 0, when_ := 0, seed := 0 }

/-- A context and a template of the owner on a seated bay. -/
def serving : State :=
  let s := withCtx (withBay ready { bay0 with seated := some 63, bale := some bale0 }) (Ctx.fresh 0 65536 1)
  { s with reqs := { s.reqs with templates := [(1023, { tenant := 0, body := template0 })] } }

def sub0 (branch : Bool) : Submission :=
  { p := { submit0 with branch := branch }, inputs := [(5, 0)], tenant := 0, priority := 0, spans := payloadSpans hdr }

theorem witness_RequestCommands :
    startable 0x0202 hdr serving = true ∧ ((started_ serving 0x0202).ctx 1).isSome = true ∧
    (Map.get? (started_ serving 0x0202).reqs.templates 1023).isSome = true ∧
    submitRefusal (sub0 false) (Ctx.fresh 0 65536 1) template0 (started_ serving 0x0202) = none ∧
    submitRefusal (sub0 true) { Ctx.fresh 0 65536 1 with state := 3 } template0 (started_ serving 0x0202) = none ∧
    submitRefusal (sub0 true) { Ctx.fresh 0 65536 1 with flush := some flush0 } template0 (started_ serving 0x0202) = none ∧
    submitRefusal (sub0 false) { Ctx.fresh 0 65536 1 with state := 4 } template0 (started_ serving 0x0202) =
      some Status.contextExpired ∧
    (started_ serving 0x0202).slotFree = true ∧
    (let s : State := { serving with reqs := { serving.reqs with nextSlot := 16384 } }
     startable 0x0202 hdr s = true ∧ (started_ s 0x0202).slotFree = false) ∧
    (let s := withReq serving req0
     startable 0x0203 hdr s = true ∧ 0 % 65536 < (started_ s 0x0203).reqs.nextSlot ∧
     (started_ s 0x0203).requestTenant 0 = some 0) ∧
    startable 0x0210 hdr serving = true ∧ templateOk template0 = true ∧ (started_ serving 0x0210).tokenBay 7 0 = true ∧
    (started_ serving 0x0210).namedBaleOk template0 0 = true ∧ (started_ serving 0x0210).reqs.routes = [] ∧
    startable 0x0211 hdr serving = true ∧ policyOk { bay := 7, maxRequests := 256, maxTokens := 4096, prefillChunk := 16, bounds := [0, 0, 0, 0, 0, 0, 0] } = true := by
  decide +kernel

theorem witness_SubmittedRequest :
    (started_ serving 0x0202).slotFree = true ∧
    submitRefusal (sub0 false) (Ctx.fresh 0 65536 1) template0 (started_ serving 0x0202) = none := by
  decide +kernel

theorem witness_AdmissionOrder :
    ((withReq serving req0).plan { bay0.policy with prefillChunk := 512 } 2048 req0).isSome = true ∧
    ((withReq serving req0).plan bay0.policy 2048 { req0 with prefill := [], sampled := [5] }).isSome = true := by
  decide +kernel

theorem witness_VerificationAndDepth : [3, 4][1]? = some 4 := rfl

theorem witness_CancelledRequestIsGone : (withReq serving req0).request 0 = some req0 := by decide +kernel

/-! ## Video -/

def sparams : StreamParams :=
  { stream := 1023, codec := 1, srtp := false, vlanMatch := true, timeSource := 0, c32 := true, bfloat := false, ports := 8,
    extId := 14, vlan := 4095, udpPort := 65535, maxWidth := 16, maxHeight := 16, frameRate := 1000, ssrc := 5,
    cameraOffset := 0, frameBudget := 0, maxAuBytes := 65536, matrix := 0, range := 0, channels := 1, bgr := 0,
    mean := [0, 0, 0], invStd := [0x3F800000, 0x3F800000, 0x3F800000] }

def vs0 : VStream := VStream.fresh 0 sparams [] 0

def withVideo (s : State) (x : VStream) : State := s.setVstream 1023 x

def eparams : EncodeParams :=
  { session := 15, main10 := false, cbr := false, overlay := false, srtp := false, stream := 1023, scale := 0, frameDiv := 0,
    idrPeriod := 65535, bitRate := 100000, cpbSize := 1000, qpMin := 51, qpMax := 51, initialDelay := 10, destKind := 0,
    port := 3, vlan := 0, udpPort := 1, payloadType := 127, ipVersion := 6, ssrc := 0, destMac := 0, destIp := 0,
    ringEntries := 0, ringBase := 0 }

def session0 : Session := Session.fresh 0 eparams false

def crop0 : CropRec :=
  { expand := 0x41000000, outH := 64, outW := 4, mode := 3, ratio := 8, patch := 4, square := true, embed := 0, rsvd := 0 }

def rparams : RouteParams :=
  { route := 4095, stream := 1023, detectorBay := 6, skip := false, objectLimit := 256, context := 1, template := 1023,
    actionStream := 4095, track := 255, y0 := 4351, k := 0, sCell := -1, lead := 0, crops := [crop0],
    others := [] }

def route0 : Route := { tenant := 0, params := rparams, dropping := [] }

/-- Everything a route names, of the owner. -/
def routable : State :=
  let s := withTrack (withStream (withVideo serving vs0) ap) (Track.fresh 0 tp)
  { s with bays := { s.bays with bay := [(6, Bay.fresh { bayParams with bay := 6, kind := 1, sliceMask := 0x40 }), (7, bay0)] } }

def withRoute (s : State) (r : Route) : State := { s with reqs := { s.reqs with routes := [(4095, r)] } }

theorem witness_VideoCommands_open :
    (let b := started_ ready 0x0301
     streamParamsOk sparams = true ∧ b.video.streams = [] ∧
     (b.video.streams.map fun q => decodeLoad q.2.params).sum + decodeLoad sparams ≤ 31920000000 ∧
     b.encodeLoad ≤ 4000000000 ∧ (b.allocFrames 0 0 1 0 (ceilDiv (streamBytes sparams) 65536)).isSome = true) ∧
    (let s := withVideo ready vs0
     (∀ op ∈ [0x0302, 0x0303, 0x0310], startable op hdr s = true) ∧
     ((started_ s 0x0302).vstream 1023).map (fun x => (x.closing.isNone, x.tenant)) = some (true, 0) ∧
     (started_ s 0x0302).reqs.routes = [] ∧ (started_ s 0x0302).video.sessions = [] ∧
     (started_ s 0x0302).inPipe 1023 = false ∧
     ((started_ s 0x0303).vstream 1023).map (fun x => encodeParamsOk eparams x.params) = some true ∧
     (((started_ s 0x0303).clearRecord 0x000A 15 0 0 0).setSession 15 (Session.fresh 0 eparams false)).encodeLoad ≤ 4000000000) := by
  decide +kernel

/-- A picture to code: an empty slot. -/
def due0 : EncodeDue := { capture := 5, flags := 0, picture := none, boxes := [] }

/-- A session with the pictures it is still to code. -/
def sessionDue (due : List EncodeDue) : State :=
  (withVideo ready vs0).setSession 15 { session0 with due := due }

theorem witness_VideoCommands_end :
    startable 0x0302 hdr (sessionDue []) = true ∧ startable 0x0302 hdr (sessionDue [due0]) = true ∧
    ((Map.get? (started_ (sessionDue []) 0x0302).video.sessions 15).map fun x => (x.closing.isNone, x.tenant, x.due.length)) =
      some (true, 0, 0) ∧
    ((Map.get? (started_ (sessionDue [due0]) 0x0302).video.sessions 15).map fun x =>
      (x.closing.isNone, x.tenant, x.due.length)) = some (true, 0, 1) := by
  decide +kernel

theorem witness_VideoCommands_route :
    (startable 0x0310 hdr routable = true ∧ (started_ routable 0x0310).routeRefusal hdr rparams = none ∧
     (started_ ready 0x0310).routeRefusal hdr rparams = some Status.badParam) ∧
    (let s := withRoute ready route0
     startable 0x0311 hdr s = true ∧ (Map.get? (started_ s 0x0311).reqs.routes 4095).map (·.tenant) = some 0) ∧
    (let s := withRoute ready { route0 with dropping := [ref0] }
     (Map.get? s.reqs.routes 4095).map (·.dropping.length) = some 1 ∧ s.routeIdle 4095 = true) := by
  decide +kernel

def unit0 : AccessUnit :=
  { stream := 1023, timestamp := 0, firstAt := 0, arrival := 0, laterAt := some 0, firstSeq := 0, prevSeq := none, ext := none,
    seqs := [0], parts := [(0, [0])], markerSeq := some 0, bytes := 1, truncated := false, capture := 0, fallback := false,
    missing := 0, completedAt := 0 }

def piped (s : State) : State := (withVideo s vs0).setPipe 7 { unit := some unit0, takenAt := 0, lastStream := none }

theorem witness_VideoCommands_inPipe :
    startable 0x0302 hdr (piped ready) = true ∧ (started_ (piped ready) 0x0302).inPipe 1023 = true := by
  decide +kernel

def packet0 : RtpPacket :=
  { port := 3, vlan := some 4095, udpPort := 65535, ssrc := 5, seq := 65535, timestamp := 9, marker := true, nal := 49,
    donFields := false, extId := 14, ext := none, length := 1, body := [0], tag := 0 }

def detHead0 : DetHead :=
  { scoreMin := 0, iouMax := 0x3F000000, classAware := true,
    levels := [{ stride := 0x41000000, gridW := 1, gridH := 1, anchors := [(0x3F800000, 0x3F800000)] }] }

def picture0 : Picture :=
  { id := 1, stream := 1023, width := 16, height := 16, capture := 0, concealed := false, fallback := false, detectors := [6],
    routes := [4095] }

/-- A picture whose detector runs in bay 6. -/
def seeing : State :=
  let s := withVideo later vs0
  let d := { bale0 with kind := 1, detector := some detHead0 }
  let b := { Bay.fresh { bayParams with bay := 6, kind := 1 } with seated := some 63, bale := some d }
  { s with
    bays := { s.bays with bay := [(6, b)] }
    video := { s.video with pictures := [picture0] } }

theorem witness_VideoEvents :
    ready.matchStream 3 65535 5 (some 4095) = none ∧
    (let s := withVideo later vs0
     (s.matchStream 3 65535 5 (some 4095)).map (·.1) = some 1023 ∧ s.videoRuns = true ∧ vs0.params.srtp = false ∧
     formatOk 1 49 false = true ∧ formatOk 1 50 false = false ∧ (s.vstream 1023).isSome = true ∧ vs0.closing = none ∧
     10000000000 ≤ (s.mls.uptime - vs0.lastUnitAt) * sparams.frameRate ∧ vs0.state ≠ 2) ∧
    (let x := { vs0 with units := [unit0, unit0] }
     let s := withVideo later x
     x.units[0]? = some unit0 ∧ unit0.laterAt = some 0 ∧ 0 + 200000 ≤ s.mls.uptime ∧
     2000000000 ≤ (s.mls.uptime - unit0.firstAt) * sparams.frameRate) ∧
    (let s := withVideo later vs0
     let t : State := { s with video := { s.video with ready := [unit0] } }
     t.videoControlDown = false ∧ (t.pipe 7).unit = none ∧ t.video.ready.find? (fun u => !t.inPipe u.stream) = some unit0 ∧
     (t.vstream unit0.stream).isSome = true) ∧
    (let s := piped later
     (s.pipe 7).unit = some unit0 ∧ s.videoRuns = true ∧ s.videoControlDown = false ∧ (s.vstream 1023).isSome = true ∧
     budgetOver sparams (s.mls.uptime - (s.pipe 7).takenAt) = true) ∧
    (let s := (withVideo later vs0).setSession 15 { session0 with due := [due0] }
     (Map.get? s.video.sessions 15).map (·.due.length) = some 1 ∧ (s.vstream 1023).isSome = true ∧ s.videoRuns = true) ∧
    (let s := seeing
     s.video.pictures.find? (fun q => q.stream = 1023 && q.id = 1 && q.detectors.contains 6) = some picture0 ∧
     (s.vstream 1023).isSome = true ∧ s.videoRuns = true ∧ ((s.bay 6).bind (·.bale)).map (·.detector) = some (some detHead0)) ∧
    (let j : CropJob := { route := 4095, picture := picture0, box := { x0 := 0, y0 := 0, x1 := 0x3F800000, y1 := 0x3F800000, score := 0x3F800000, cls := 0, flags := 0, candidate := 0, frame := 0 } }
     let s : State := { later with video := { later.video with crops := [j] } }
     s.videoRuns = true ∧ s.video.crops ≠ []) := by
  decide +kernel

/-- A stream with SRTP. -/
def svs0 : VStream := { vs0 with params := { sparams with srtp := true } }

/-- Its tenant holds a job. -/
def secured : State :=
  let s := withVideo later svs0
  { s with customs := { s.customs with tenants := [(0, { Tenant.owner with job := some (5, 2) })] } }

def srtpTag (i : Nat) (body : List Byte) : Nat := Config.authTag (jobKey 5 2 labelSR 1023 0) i body

/-- A packet with the tag that its key gives holds, and with another does not. -/
theorem witness_ReplaysAndBoxes :
    (secured.matchStream 3 65535 5 (some 4095)).isSome = true ∧ secured.videoRuns = true ∧
    secured.srtpOk 1023 svs0 65535 [0] (srtpTag 65535 [0]) = true ∧
    secured.srtpOk 1023 svs0 65535 [0] (srtpTag 65535 [0] + 1) = false := by
  have h : secured.job 0 = some (5, 2) := by decide +kernel
  have g : secured.oldJob 0 = none := by decide +kernel
  have t : svs0.tenant = 0 := rfl
  have r : replayFresh svs0.replay 65535 = true := by decide +kernel
  refine ⟨by decide +kernel, by decide +kernel, ?_, ?_⟩ <;> simp [State.srtpOk, State.tagHolds, h, g, t, r, srtpTag]

/-! ## Customs -/

def withTenant (s : State) (t : Nat) (x : Tenant) : State := s.setTenant t x

def guest : Tenant := { Tenant.owner with slot := 127, publicKey := some 5 }

/-- No key slot is free. -/
def slotless : State :=
  { ready with customs := { ready.customs with slots := ready.customs.slots.map fun p => (p.1, { p.2 with state := 1 }) } }

def removal0 : Removal := { ref := some ref0, frames := 3, marker := some 9, unconfirmed := false }

/-- A tenant whose removal is in quarantine. -/
def quarantined : State :=
  (withTenant later 63 { guest with state := 2, removal := some removal0 }).setKeySlot 127
    { KeySlot.reset 127 with state := 3, tenant := some 63 }

/-- A SET_JOB_KEYS payload with an overlap of 3,600 s. -/
def jobPayload : List Byte := List.replicate 176 1 |>.set 0 2 |> fun b =>
  (b.take 97 ++ List.replicate 31 0 ++ b.drop 128) ++ leBytes 2 3600 ++ List.replicate 14 0 ++ List.replicate 96 9

/-- A SET_CONSENT payload with every flag. -/
def consentPayload (counter : Nat) : List Byte := leBytes 8 7 ++ leBytes 8 counter ++ List.replicate 96 9

/-- Every hypothesis but onCurve, ecdsaOk and unwrapJob, which are opaque: points and signatures hold or do not. -/
theorem witness_CustomsRows :
    (let b := started_ ready 0x0601
     (b.tenant 0).map (·.publicKey) = some none ∧ b.tenant 63 = none ∧ (b.freeKeySlot.map (·.1)).isSome = true) ∧
    (startable 0x0601 hdr slotless = true ∧ (started_ slotless 0x0601).freeKeySlot = none) ∧
    (∀ st ∈ [1, 2], let s := withTenant ready 63 { guest with state := st }
      startable 0x0602 hdr s = true ∧ ((started_ s 0x0602).tenant 63).map (·.state) = some st) ∧
    ((quarantined.keySlot 127).tenant = some 63 ∧ (quarantined.tenant 63).map (·.removal) = some (some removal0) ∧
      (quarantined.keySlot 127).state = 3 ∧ quarantined.baysIdle 63 = true ∧ quarantined.markerSettled removal0 = true) ∧
    (let s := withTenant ready 0 { Tenant.owner with publicKey := some 5, consentCounter := 8 }
     startable 0x0603 hdr s = true ∧ startable 0x0605 hdr s = true ∧
     ((started_ s 0x0603).tenant 0).map (fun x => (x.publicKey, decide ((s.keySlot x.slot).generation < 0xFFFF))) = some (some 5, true) ∧
     jobPayloadOk jobPayload = true ∧ jobPayload.length = 288 ∧ ((started_ s 0x0605).tenant 0).map (·.publicKey) = some (some 5) ∧
     leNat (slice 0 1 (consentPayload 9)) ≤ 7 ∧ leNat (slice 1 7 (consentPayload 9)) = 0 ∧ 8 < leNat (slice 8 8 (consentPayload 9)) ∧
     leNat (slice 8 8 (consentPayload 8)) ≤ 8) ∧
    (let s := withTenant later 63 { guest with oldJob := some (5, 2, 3) }
     (s.tenant 63).map (·.oldJob) = some (some (5, 2, 3)) ∧ 3 ≤ s.mls.uptime ∧ ready.mls.uptime < 3) ∧
    4 ≤ leNat (slice 0 4 (leBytes 4 4096)) ∧ leNat (slice 0 4 (leBytes 4 4096)) ≤ 4096 ∧ ready.customs.restarting = false := by
  decide +kernel

theorem witness_RemovedTenantHasNoKeys :
    (let s := withTenant (withReq later { req0 with tenant := 63 }) 63 guest
     (s.tenant 63).isSome = true ∧ ∀ p ∈ s.reqs.slot, p.1 = slotOf p.2.id) ∧
    (let s := withTenant ready 0 { Tenant.owner with publicKey := some 5 }
     startable 0x0605 hdr s = true ∧ (s.tenant 0).isSome = true ∧
     (exec (.setConsent { hdr with payloadLen := 0 } []) s matches .next _) = true) := by
  decide +kernel

/-! ## Escort -/

def withEscort (s : State) (e : Escort) : State := { s with escort := e }

/-- A slot record of slot 32 with partner slot 31, and two cables. -/
def pairable (s : State) : State :=
  { s with
    power := { s.power with slot := some (32, 31, 3200, 20, 20) }
    escort := { s.escort with cables := [(0, 8, 106250), (1, 8, 106250)] } }

/-- A module of a role in a pair, its link up. -/
def paired (s : State) (role health : Nat) : State :=
  { s with escort := { s.escort with role := role, health := health, partner := 9, linkUp := true, cables := [(1, 8, 106250)] } }

def shadowParams : ShadowParams := { topK := 32, window := 2 ^ 32 - 1, agreeMin := 10000, distMax := 0x7F7FFFFF }

theorem witness_EscortCommands :
    (let s := pairable ready
     startable 0x0701 hdr s = true ∧ (started_ s 0x0701).pairRefusal 31 true true true false (2 ^ 32 - 2) = none ∧
     (started_ s 0x0701).pairRefusal 31 false true true true 5 = some Status.notPermitted ∧
     (started_ s 0x0701).pairRefusal 30 true true true false 5 = some Status.badParam) ∧
    startable 0x0702 hdr ready = true ∧ shadowOk shadowParams = true ∧ startable 0x0703 hdr ready = true ∧
    (started_ ready 0x0703).escort.role ≠ 1 ∧
    (let t := paired ready 1 3
     let s := withEscort t { t.escort with partnerRole := 4 }
     let b := started_ s 0x0703
     startable 0x0703 hdr s = true ∧ b.escort.role = 1 ∧ b.escort.partnerRole = 4 ∧ b.escort.linkUp = true ∧
     b.escort.job = none ∧ bitOf b.mem.fence 11 = false) ∧
    (let s := paired ready 1 1
     let b := started_ s 0x0704
     startable 0x0704 hdr s = true ∧ b.escort.role = 1 ∧ b.escort.health = 1 ∧ b.escort.epoch ≠ epochMax ∧ b.escort.job = none) ∧
    (let s := withBay ready { bay0 with seated := some 63 }
     startable 0x0704 hdr s = true ∧ (started_ s 0x0704).tokenBaleSeated = true) ∧
    (let s := paired ready 3 0
     startable 0x0704 hdr s = true ∧ (started_ s 0x0704).tokenBaleSeated = false ∧ (started_ s 0x0704).escort.role = 3) ∧
    (let t := paired ready 1 4
     let s := withEscort t { t.escort with partnerRole := 3 }
     let b := started_ s 0x0704
     startable 0x0704 hdr s = true ∧ b.tokenBaleSeated = false ∧ b.escort.role = 1 ∧ b.escort.partnerRole = 3 ∧
     b.escort.job = none) := by
  decide +kernel

def cell0 (seq : Nat) : Cell :=
  { ctype := 1, format := 1, source := 0, poison := false, attempt := 0, key := 0xFF, keyGen := 0, seq := seq, ack := 0,
    fecOk := true, tag := 0, recordStart := 0, payload := [], records := [], launched := [] }

/-- A cell under the tag that the pair's key gives. -/
def tagged (s : State) (c : Cell) : Cell :=
  let tag := Config.authTag (cellKey s.escort.pairKey s.escort.randoms) (cellIv c) (cellHeader c ++ c.payload)
  { c with tag := tag }

theorem witness_EscortEvents_cells :
    let s := paired later 2 1
    (s.escort.linkUp = true ∧ s.escort.role ≠ 0 ∧ ({ cell0 1 with fecOk := false } : Cell).fecOk = false) ∧
    (∀ q ∈ [0, 1, 2], s.cellTagHolds (tagged s (cell0 q)) = true ∧ (tagged s (cell0 q)).seq = q) ∧ s.escort.rxSeq + 1 = 1 := by
  refine ⟨by decide +kernel, fun q _ => ⟨?_, rfl⟩, by decide +kernel⟩
  have h : (tagged (paired later 2 1) (cell0 q)).key = 0xFF := rfl
  simp only [State.cellTagHolds, h, if_true]
  exact decide_eq_true rfl

/-- A poisoned codeword in the receive staging of a cell, and none. -/
theorem witness_EscortEvents_staging (seq : Nat) :
    [((0 : Nat), stagingAddr seq)].any (inStaging seq) = true ∧ State.reset.mem.poison.any (inStaging seq) = false := by
  constructor
  · simp [inStaging]
  · rfl

theorem witness_EscortEvents_handover :
    let s := paired later 2 1
    s.escort.role = 2 ∧ s.escort.health = 1 ∧ s.escort.held = [] ∧ s.escort.epoch ≠ epochMax := by
  decide +kernel

theorem witness_EscortEvents :
    (let s := paired later 1 1
     s.heartbeatsRun = true ∧ s.power.leaving = none ∧ s.escort.sentLink + 50000 ≤ s.mls.uptime ∧
     s.escort.sentMgmt + 1000000 ≤ s.mls.uptime ∧ s.escort.partner = 9 ∧
     s.escort.lastKeep + 3000000 ≤ s.mls.uptime ∧ s.escort.mgmtLost = false) ∧
    (let s := paired later 2 1
     s.escort.role = 2 ∧ s.deadRuleHolds = true ∧ s.escort.epoch ≠ epochMax) ∧
    (let t := paired later 2 1
     let s := withEscort t { t.escort with epoch := epochMax }
     s.deadRuleHolds = true ∧ s.escort.epoch = epochMax ∧ s.escort.stuckRaised = false) ∧
    (let t := paired later 2 1
     let s := withEscort t { t.escort with lastMgmt := t.mls.uptime }
     s.deadRuleHolds = false ∧ s.escort.mgmtLost = false ∧ s.escort.lastLink + s.tDead ≤ s.mls.uptime ∧
     s.missedMgmt < s.escort.nMgmt) ∧
    (∀ lost ∈ [true, false], let t := paired later 1 1
     let s := withEscort t { t.escort with mgmtLost := lost, copying := true }
     s.escort.mgmtLost = lost ∧ s.escort.role = 1 ∧ s.escort.partnerLeft = false ∧ s.escort.nLink ≤ s.missedLink ∧
     s.mls.fenceSelf = false ∧ s.escort.lastLink + s.tDead ≤ s.mls.uptime ∧ s.escort.copying = true ∧ s.escort.job = none ∧
     ∀ p ∈ [2, 4], (withEscort s { s.escort with partnerRole := p }).escort.partnerRole = p) ∧
    (let t := paired later 1 1
     t.escort.linkUp = true ∧ t.escort.halfPort = none ∧ (withEscort t { t.escort with halfPort := some 1 }).escort.halfPort = some 1 ∧
     (withEscort t { t.escort with linkUp := false }).escort.linkUp = false ∧ t.escort.role ≠ 0 ∧ t.escort.cables ≠ []) := by
  decide +kernel

theorem witness_EscortEvents_jobs :
    (∀ shadow ∈ [true, false], let t := paired later 1 4
     let s := withEscort t { t.escort with
       job := some (.resync ref0 shadowParams shadow), partnerRole := if shadow then 3 else 2 }
     s.escort.role = 1 ∧ s.escort.retention = [] ∧ s.escort.job = some (.resync ref0 shadowParams shadow) ∧
     s.escort.partnerRole = if shadow then 3 else 2) ∧
    (let t := paired later 1 4
     let p := { shadowParams with window := 1 }
     let s := withEscort t { t.escort with job := some (.window ref0 p) }
     s.escort.role = 1 ∧ s.escort.job = some (.window ref0 p) ∧ p.window ≤ 2 ^ 32 - 1) ∧
    (let t := paired later 1 1
     let s := withEscort t { t.escort with job := some (.swap ref0 true) }
     let u := withEscort s { s.escort with uncovered := [(7, 1, 1, 0)] }
     s.escort.role = 1 ∧ s.escort.job = some (.swap ref0 true) ∧ s.swapDrained = true ∧ u.swapDrained = false) := by
  decide +kernel

theorem witness_TakeoverAndFences :
    ((paired later 2 1).escort.role = 2 ∧ (paired later 2 1).deadRuleHolds = true ∧ (paired later 2 1).escort.epoch ≠ epochMax) ∧
    ((paired later 1 1).escort.role = 1 ∧ (paired later 1 1).escort.job = none ∧ (paired later 1 1).escort.epoch < epochMax) := by
  decide +kernel

/-! ## Power -/

def leaving0 : Leaving := { removal := true, started := 0, ref := some ref0, fenced := false, ready := false }

def withLeaving (s : State) (l : Leaving) : State := { s with power := { s.power with leaving := some l } }

theorem witness_PowerCommands :
    (let b := started_ ready 0x0901
     let t : State := { b with power := { b.power with hostCap := 1000, hostUp := 1000, hostDown := 1 } }
     startable 0x0901 hdr ready = true ∧ t.limitsWord ≠ b.limitsWord ∧
     ({ b with power := { b.power with hostCap := 0, hostUp := 0, hostDown := 0 } } : State).limitsWord = b.limitsWord) ∧
    (let s : State := { ready with power := { ready.power with hostCap := 1000, rackCap := 3200, rungs := [1], slot := some (1, 2, 1000, 20, 20) } }
     s.power.hostCap ≠ 0 ∧ s.power.rackCap ≠ 0 ∧ 1 ∈ s.power.rungs ∧ s.power.slot.map (·.2.2.1) = some 1000) ∧
    (let s := paired ready 1 1
     startable 0x0902 hdr s = true ∧ s.power.leaving = none ∧ s.escort.role = 1 ∧ s.escort.health = 1 ∧ s.escort.job = none ∧
     s.escort.epoch ≠ epochMax) ∧
    (startable 0x0902 hdr ready = true ∧ ready.power.leaving = none ∧ ready.escort.role ≤ 1 ∧ ready.escort.role ≠ 1) ∧
    (let s := withLeaving ready leaving0
     startable 0x0902 hdr s = true ∧ s.power.leaving = some leaving0 ∧ leaving0.removal = true ∧ leaving0.ready = false ∧
     leaving0.ref = some ref0 ∧ s.power.rungs = []) ∧
    (let l := { leaving0 with ready := true }
     startable 0x0902 hdr (withLeaving ready l) = true ∧ (withLeaving ready l).power.leaving = some l ∧ l.ready = true) ∧
    (ready.power.latchOpen = false ∧ ready.power.railsOn = true ∧ ready.power.leaving = none ∧ ready.escort.job = none) ∧
    (∀ r ∈ [true, false], let t := withLeaving ready { leaving0 with ready := r }
     let s : State := { t with power := { t.power with latchOpen := true } }
     s.power.latchOpen = true ∧ s.power.mated = true ∧ s.power.leaving = some { leaving0 with ready := r }) ∧
    (let s := withLeaving ready leaving0
     let t := withBay s { bay0 with commits := [convoy0] }
     s.power.leaving = some leaving0 ∧ s.leavingCovered = true ∧ t.power.leaving = some leaving0 ∧ t.leavingCovered = false) ∧
    (let l := { leaving0 with fenced := true }
     let s := withLeaving ready l
     s.power.leaving = some l ∧ l.removal = true ∧ l.fenced = true ∧ l.ready = false ∧ s.power.watts ≤ 50) := by
  decide +kernel

/-- Table 13-10 and R387: REMOVE lit, the latch and a rung, each from its own field. -/
theorem test_lights :
    (withLeaving ready { leaving0 with ready := true }).removeLight = .white ∧ ready.removeLight = .off ∧
    ({ ready with power := { ready.power with rungs := [1, 3] } } : State).statusLight = .amber ∧
    ({ ready with power := { ready.power with rungs := [1, 3] } } : State).pldmRung = 3 ∧
    (paired ready 2 1).roleLight = .blueFlashing ∧ State.reset.powerLight = .off ∧
    ({ State.reset with power := { State.reset.power with mated := true, volts := 54000, bulk := 54000 } } : State).startUnmet =
      [.slotInvalid, .noFlow] := by
  decide +kernel

/-- Table 13-8 step 4: an unpaired module's hold that goes on for removal has its lines still to fence. -/
theorem test_hold_to_removal :
    ({ leaving0 with removal := false, fenced := true } : Leaving).forRemoval 0 = leaving0 ∧
    ({ leaving0 with removal := false, fenced := true } : Leaving).forRemoval 1 = { leaving0 with fenced := true } := by
  decide

theorem witness_PowerCommands_rungs :
    (∀ r ∈ [1, 2], let s : State := { later with power := { later.power with trigger := [(r, 0)] } }
     s.power.railsOn = true ∧ s.power.rungs = [] ∧ s.power.trigger = [(r, 0)] ∧ 0 + giga ≤ s.mls.uptime ∧
     s.power.leaving = none ∧ s.escort.job = none) ∧
    (let s : State := { ready with power := { ready.power with trigger := [(2, 0)] } }
     s.power.railsOn = true ∧ s.power.rungs = [] ∧ s.power.trigger = [(2, 0)] ∧ s.mls.uptime < 0 + 500000000) ∧
    (let s : State := { later with power := { later.power with rungs := [1], clearing := [(1, 0)] } }
     s.power.rungs = [1] ∧ s.power.clearing = [(1, 0)] ∧ 0 + 10 * giga ≤ s.mls.uptime ∧ ready.mls.uptime < 0 + 10 * giga) ∧
    ready.power.tripped = false ∧ ready.power.railsOn = true := by
  decide +kernel

theorem witness_PowerEvents :
    State.reset.power.mated = false ∧ ready.power.mated = true ∧ ready.power.slot.isNone = true ∧
    later.power.slotRead + giga ≤ later.mls.uptime ∧ ready.mls.uptime < ready.power.slotRead + giga ∧
    (let p := { State.reset.power with mated := true, released := true, volts := 46500, bulk := 45000, slot := some (32, 31, 1000, 20, 20), flowSince := some 0 }
     let s : State := { later with power := p }
     p.railsOn = false ∧ p.tripped = false ∧ p.overVoltage = false ∧ p.released = true ∧ p.mated = true ∧ p.volts ≤ p.bulk + 2000 ∧
     46500 ≤ p.volts ∧ ({ p with bulk := 44000 }).bulk + 2000 < p.volts ∧ p.slot.isSome = true ∧ p.flowSince = some 0 ∧ 0 + giga ≤ s.mls.uptime ∧ p.state ≠ 5) ∧
    ready.power.overVoltage = false ∧ ready.power.dip = false ∧ ready.power.released = true ∧
    (let s : State := { ready with power := { ready.power with overVoltage := true, dip := true } }
     s.power.overVoltage = true ∧ s.power.dip = true) ∧
    (∀ k ∈ [0, 8], ∀ f ∈ [32, 511, 512], let s : State := { later with power := { later.power with clock := k, fireBudget := f } }
     let allowance := if s.power.window + 1000000 ≤ s.mls.uptime then s.nextAllowance 0 else s.power.allowance
     s.power.railsOn = true ∧ s.power.dip = false ∧ s.power.rungs = [] ∧ 0 < min s.effectiveCap allowance ∧
     s.power.clock = k ∧ s.power.fireBudget = f) := by
  decide +kernel

/-! ## Firmware -/

/-- A manifest of no part with a chain of one byte, whose signed bytes are its own. -/
def manifest0 : Manifest :=
  let m : Manifest :=
    { magic := 0, format := 0, generation := 0, version := 2, commitSvn := false, chainRoot := ready.fuses.rootKeyHash, signKey := 1,
      entries := [], signedBytes := [], signature := 2 }
  { m with signedBytes := Manifest.head m 1 ++ [0] }

/-- A staged manifest that changes part 2, whose image is staged. -/
def changed0 : State :=
  let m := { manifest0 with
    magic := 0x4E414D56, format := 1
    entries := [{ partId := 2, cls := 2, recordFormat := 1, recordCompat := 0, version := 3, svn := 0, length := 1, hash := 77 }] }
  { ready with fw := { ready.fw with manifest := some m, staged := [(2, 1, 77)] } }

/-- The windows of a command as the activation asks for them: the part's result, given the windows due. -/
def windowsDue (s : State) (w : PartWindow) : List (Nat × PartWindow) :=
  ((windowOrder.filter fun k => (s.fw.manifest.map fun m => s.changes m (k % 256)).getD false).map fun k => (k, w))

theorem witness_FirmwareRows_activate :
    startable 0x0802 hdr changed0 = true ∧ changed0.power.state = 1 ∧ changed0.fw.manifest.isSome = true ∧
    (started_ changed0 0x0802).activateRefusal = none ∧
    runWindows (windowsDue (started_ changed0 0x0802) (.ok 3000000)) 0 0 = (none, 3000000) ∧
    runWindows (windowsDue (started_ changed0 0x0802) (.stateRejected 5)) 0 0 = (some (2, 2), 5) ∧
    windowsBack [(7, .ok 5), (5, .ok 5), (261, .notReady 7)] 0 0 [] = [261, 5, 7] ∧
    windowsBack [(7, .ok 5), (2, .noHandoverPoint 5)] 0 0 [] = [7] := by
  decide +kernel

theorem witness_FirmwareRows :
    startable 0x0801 hdr ready = true ∧ ready.fw.writing = none ∧ ((started_ ready 0x0801).allocFrames 0 1 1 0 1).isSome = true ∧
    (let s : State := { ready with fw := { ready.fw with writing := some { ref := ref0, manifest := manifest0, switched := 0, windowNs := 0 } } }
     startable 0x0801 hdr s = true ∧ s.fw.writing ≠ none) ∧
    (startable 0x0802 hdr { ready with fw := { ready.fw with manifest := some manifest0 } } = true ∧ ready.power.state = 1 ∧
      (started_ { ready with fw := { ready.fw with manifest := some manifest0 } } 0x0802).activateRefusal.isSome = true) ∧
    startable 0x0803 hdr ready = true ∧ startable 0x0803 { hdr with payloadLen := 95 } ready = true ∧
    ready.power.railsOn = true ∧ ready.fuses.lifecycle ≠ 7 ∧
    ready.bootCheck { manifest := { manifest0 with chainRoot := ready.fuses.rootKeyHash + 1 }, hashes := [], intact := true } =
      some (0, 1) ∧
    (let s : State := { later with
       fw := { later.fw with recovery := 1 }
       power := { later.power with slot := some (32, 31, 1000, 20, 20) }
       escort := { later.escort with cables := [(0, 8, 106250)] } }
     s.fw.recovery = 1 ∧ s.fw.recoverySince + 10 * giga ≤ s.mls.uptime ∧ ready.mls.uptime < 0 + 10 * giga ∧
     s.power.slot.map (·.2.1) = some 31 ∧ 31 ≠ 255 ∧ s.escort.cables ≠ []) ∧
    (let s := later.setCore 8 { later.core 8 with restScrubbed := true, lastFullCal := none, microcode := later.fw.coreCommitted + 1 }
     (s.core 8).role = 1 ∧ (s.core 8).restScrubbed = true ∧ (s.core 8).lastFullCal = none ∧ s.rotates = true ∧
     (s.core 8).microcode ≠ s.fw.coreCommitted) ∧
    (roled later 0 2 1).rotates = false ∧ ((roled later 0 2 1).core 8).role = 1 ∧
    ready.power.state ≠ 3 ∧ 0 < partProcessors 7 ∧ ready.fw.restarting = [] := by
  decide +kernel

/-- Boot images pass the four checks where their signature holds, which is opaque. -/
theorem witness_FirmwareRows_boot (h : Config.ecdsaOk 1 manifest0.signedBytes 2 = true) :
    ready.bootCheck { manifest := manifest0, hashes := [], intact := true } = none := by
  have c : manifest0.chainRoot = ready.fuses.rootKeyHash := rfl
  have g : Manifest.holds manifest0 = true := by decide +kernel
  have k : manifest0.signKey = 1 ∧ manifest0.signature = 2 ∧ manifest0.entries = [] := ⟨rfl, rfl, rfl⟩
  simp [State.bootCheck, c, g, k, h]

/-! ## Well-formed commands -/

def bale1 : Bale := { bale0 with digest := 0 }

def badHdr : Hdr := { hdr with tag := 65536 }

def policy0 : PolicyParams := { bay := 7, maxRequests := 256, maxTokens := 4096, prefillChunk := 16, bounds := [0, 0, 0, 0, 0, 0, 0] }

def frame0 : EncFrame :=
  { ftype := 0, version := 1, auth := false, rsvdZero := true, sourceId := 7, sequence := 1, tSample := 0, position := 0, tag := 0 }

def report0 : SenderRep :=
  { port := 3, vlan := none, udpPort := 1, ssrc := 0, seconds := 0, fraction := 0, rtpTime := 0, index := 0, body := [], tag := 0 }

def picture1 : PictureData :=
  { width := 16, height := 16, bitDepth := 8, profile := .main, level := 1, chroma := 1, fields := false, otherTool := false,
    idr := true, irap := true, cleanIrap := true, recoveryPoint := false, usesRefs := [], keeps := [], reference := true, order := 0,
    syntaxErrors := 0, paramMissing := false, refMissing := 0, lost := [], writes := [], codedBits := 0, vuiMatrix := 2,
    vuiRange := 0, luma := [255], cb := [], cr := [] }

def entryOf (part : Nat) : PartEntry :=
  { partId := part, cls := part, recordFormat := 1, recordCompat := 0, version := 2, svn := 0, length := 1, hash := 5 }

def boot0 : BootImages :=
  { manifest := { manifest0 with entries := [1, 2, 3, 4, 5, 6, 7].map entryOf }, hashes := [], intact := true }

/-- Every command that carries operands, with operands that fit. -/
def wellFormed0 : List Instr := [
    .hello hdr 0 0,
    .getCaps hdr,
    .getStatus hdr 0 0 0 0 0,
    .setEventMask hdr 0,
    .loadBale hdr 0 0 false 0 bale1,
    .loadBaleCopyDone 0 0 0,
    .seatBale hdr 0 0 0,
    .seatWritesDone 0 ⟨[], []⟩,
    .unseatBale hdr 0 0 false false,
    .unseatBaleDiscard hdr 0 false false,
    .bayEmptied 0,
    .defineBay hdr bayParams,
    .setPeriod hdr 0,
    .rotateNow hdr,
    .unfence hdr 0,
    .setExhaustion hdr 0,
    .openContext hdr 0,
    .forkContext hdr 0 0,
    .pauseContext hdr 0 0,
    .pauseMoveDone 0,
    .pausedFrameMove 0 0,
    .resumeContext hdr 0,
    .resumeMoveDone 0,
    .closeContext hdr 0,
    .submitRequest hdr submit0 []]

def wellFormed1 : List Instr := [
    .cancelRequest hdr 0 false,
    .setSamplingDefine hdr 0 ⟨0, template0⟩,
    .setSamplingDelete hdr 0,
    .setConvoyPolicy hdr policy0,
    .openStream hdr sparams,
    .closeStream hdr 0,
    .closeEncode hdr 0,
    .openEncode hdr eparams,
    .defineRoute hdr rparams,
    .dropRoute hdr 0,
    .dropRouteDone 0,
    .setTimebase hdr tb,
    .defineTrack hdr tp,
    .defineTrackDelete hdr 0,
    .defineActionStream hdr ap,
    .postLaunch hdr pp,
    .recallLaunch hdr 0 false 0 0,
    .scrubRange hdr sp,
    .scrubStop hdr 0 0,
    .scrubRun 0 0 [],
    .readErrorLog hdr 0 0,
    .retirePage hdr 0,
    .retirePageBank hdr 0,
    .retireArray hdr 0 0 0,
    .addTenant hdr 0 0 0 0]

def wellFormed2 : List Instr := [
    .removeTenant hdr 0 false,
    .slotQuarantineEnd 0 0,
    .setJobKeys hdr 0 [],
    .jobKeyOverlapEnd 0,
    .setConsent hdr [],
    .getAttestation hdr [],
    .spdmRequest [],
    .pairEscortPair hdr false 0 0 0 0 ⟨0, 1, 1, 1⟩ false false false,
    .pairEscortUnpair hdr,
    .setDeadRule hdr 0 0 0,
    .beginShadow hdr shadowParams,
    .shadowWindowEnd 0 0 0 0,
    .promoteEscortSwap hdr,
    .promoteEscortAdmit hdr,
    .stagePart hdr 0 (.image 0),
    .stagePartDiscard hdr 0,
    .activateManifest hdr [] [],
    .getFwState hdr,
    .setPowerLimits hdr 0 0 0,
    .prepareRemoval hdr false,
    .prepareRemovalAbort hdr,
    .doorbell 0 0 0 [] none,
    .replyRingHeadWrite 0 0 0,
    .ringEnableSet 0 0,
    .ringEnableClear 0 0]

def wellFormed3 : List Instr := [
    .evqEnableSet 0,
    .evqHeadWrite 0 0,
    .lineEnableWrite 0,
    .tollPriorityWrite 0 0 0,
    .tollFenceClear 0,
    .registerWrite 0 0 0 0,
    .latchedHalfRead 0 0,
    .coalesceTimeout 0 0,
    .flr 0,
    .vfEnableClear 0,
    .functionPowerStateChange 0 false false,
    .releaseDelayEnd none,
    .streamHoldAssert 0,
    .streamHoldRelease 0,
    .inputEdge 0 false 0,
    .milestonePulse false,
    .timeCodeFrame [],
    .busLoss false,
    .ptpMessage (.management 3),
    .encoderFrame 0 frame0,
    .trackStale 0,
    .entryExpiry 0 0,
    .lineMatch 0 0,
    .frameRelease 0 0,
    .pulseEnd 0 0]

def wellFormed4 : List Instr := [
    .ethernetLinkChange 0 false,
    .rtpPacket packet0,
    .senderReport report0,
    .auLaterTimeout 0,
    .auFramePeriodTimeout 0,
    .pipeTake 0,
    .decodeComplete 0 picture1,
    .frameBudgetExpiry ⟨0, picture1⟩,
    .pipeRestart 0 0 0 0,
    .streamStalled 0,
    .encodePicture 0 0 0 [],
    .detectorRunDone 0 0 0 0 ⟨[], []⟩,
    .convoyBoundary 0 [],
    .convoyCommit 0 [],
    .flushScatterDone 0,
    .autoSwap 0,
    .arrayFiring (firing0 127),
    .refire 0 0 0,
    .bgCalVisit 0 0 0 [] [],
    .bgCalOverdue 0,
    .fullCalPass 0 [],
    .calStale 0,
    .handoverLoadEnd [] [],
    .tollDecision 0 0 0 0,
    .tollWatchdogFence 0 0]

def wellFormed5 : List Instr := [
    .contextExpired 0,
    .watchdogBite 0 0 false,
    .keyStoreScan [] [] false false,
    .escortCellReceive (cell0 1),
    .mgmtHeartbeatReceive .keepAlive,
    .linkHalf 0,
    .escortLinkUp 0 0 0 0 0,
    .presenceMate none none,
    .powerOnReset boot0,
    .slotRecordRetry none,
    .breakout none,
    .cablePlugEvent 0 0 0 false,
    .supplyDip 0,
    .dipClear 0,
    .powerSample 0 0 ⟨0, 0⟩,
    .thermalSample 0 0 0 0,
    .ladder 0,
    .pldmEffecterSet 0 0,
    .coreMicrocodeHandover 0,
    .recoveryFromPartner boot0,
    .watchdogRestartDone 0 0,
    .startRailsEnable]

theorem test_wellFormed :
    wellFormed0.all Instr.wellFormed = true ∧
    wellFormed1.all Instr.wellFormed = true ∧
    wellFormed2.all Instr.wellFormed = true ∧
    wellFormed3.all Instr.wellFormed = true ∧
    wellFormed4.all Instr.wellFormed = true ∧
    wellFormed5.all Instr.wellFormed = true := by
  decide +kernel

/-- For each command with scalar operands or a header, one with a value that does not fit. -/
def illFormed0 : List Instr := [
    .hello badHdr 0 0,
    .hello hdr 256 0,
    .getCaps badHdr,
    .getStatus badHdr 0 0 0 0 0,
    .getStatus hdr 65536 0 0 0 0,
    .setEventMask badHdr 0,
    .setEventMask hdr 65536,
    .loadBale badHdr 0 0 false 0 bale1,
    .loadBale hdr 256 0 false 0 bale1,
    .loadBaleCopyDone 64 0 0,
    .seatBale badHdr 0 0 0,
    .seatBale hdr 256 0 0,
    .seatWritesDone 256 ⟨[], []⟩,
    .unseatBale badHdr 0 0 false false,
    .unseatBale hdr 256 0 false false,
    .unseatBaleDiscard badHdr 0 false false,
    .unseatBaleDiscard hdr 256 false false,
    .bayEmptied 256,
    .defineBay badHdr bayParams,
    .setPeriod badHdr 0,
    .setPeriod hdr 4294967296,
    .rotateNow badHdr,
    .unfence badHdr 0,
    .unfence hdr 256,
    .setExhaustion badHdr 0]

def illFormed1 : List Instr := [
    .setExhaustion hdr 256,
    .openContext badHdr 0,
    .openContext hdr 4294967296,
    .forkContext badHdr 0 0,
    .forkContext hdr 4294967296 0,
    .pauseContext badHdr 0 0,
    .pauseContext hdr 4294967296 0,
    .pauseMoveDone 4294967296,
    .pausedFrameMove 4294967296 0,
    .resumeContext badHdr 0,
    .resumeContext hdr 4294967296,
    .resumeMoveDone 4294967296,
    .closeContext badHdr 0,
    .closeContext hdr 4294967296,
    .submitRequest badHdr submit0 [],
    .submitRequest hdr submit0 [(0, 4)],
    .cancelRequest badHdr 0 false,
    .cancelRequest hdr 4294967296 false,
    .setSamplingDefine badHdr 0 ⟨0, template0⟩,
    .setSamplingDefine hdr 65536 ⟨0, template0⟩,
    .setSamplingDelete badHdr 0,
    .setSamplingDelete hdr 65536,
    .setConvoyPolicy badHdr policy0,
    .openStream badHdr sparams,
    .closeStream badHdr 0]

def illFormed2 : List Instr := [
    .closeStream hdr 65536,
    .closeEncode badHdr 0,
    .closeEncode hdr 256,
    .openEncode badHdr eparams,
    .defineRoute badHdr rparams,
    .dropRoute badHdr 0,
    .dropRoute hdr 65536,
    .dropRouteDone 65536,
    .setTimebase badHdr tb,
    .defineTrack badHdr tp,
    .defineTrackDelete badHdr 0,
    .defineTrackDelete hdr 256,
    .defineActionStream badHdr ap,
    .postLaunch badHdr pp,
    .recallLaunch badHdr 0 false 0 0,
    .recallLaunch hdr 65536 false 0 0,
    .scrubRange badHdr sp,
    .scrubStop badHdr 0 0,
    .scrubStop hdr 256 0,
    .scrubRun 256 0 [],
    .readErrorLog badHdr 0 0,
    .readErrorLog hdr 4294967296 0,
    .retirePage badHdr 0,
    .retirePage hdr 4294967296,
    .retirePageBank badHdr 0]

def illFormed3 : List Instr := [
    .retirePageBank hdr 4294967296,
    .retireArray badHdr 0 0 0,
    .retireArray hdr 256 0 0,
    .addTenant badHdr 0 0 0 0,
    .addTenant hdr 256 0 0 0,
    .removeTenant badHdr 0 false,
    .removeTenant hdr 256 false,
    .slotQuarantineEnd 256 0,
    .setJobKeys badHdr 0 [],
    .setJobKeys hdr 65536 [],
    .jobKeyOverlapEnd 256,
    .setConsent badHdr [],
    .getAttestation badHdr [],
    .pairEscortPair badHdr false 0 0 0 0 ⟨0, 1, 1, 1⟩ false false false,
    .pairEscortPair hdr false 256 0 0 0 ⟨0, 1, 1, 1⟩ false false false,
    .pairEscortUnpair badHdr,
    .setDeadRule badHdr 0 0 0,
    .setDeadRule hdr 256 0 0,
    .beginShadow badHdr shadowParams,
    .promoteEscortSwap badHdr,
    .promoteEscortAdmit badHdr,
    .stagePart badHdr 0 (.image 0),
    .stagePart hdr 256 (.image 0),
    .stagePartDiscard badHdr 0,
    .stagePartDiscard hdr 256]

def illFormed4 : List Instr := [
    .activateManifest badHdr [] [],
    .getFwState badHdr,
    .setPowerLimits badHdr 0 0 0,
    .setPowerLimits hdr 65536 0 0,
    .prepareRemoval badHdr false,
    .prepareRemovalAbort badHdr,
    .doorbell 64 0 0 [] none,
    .doorbell 0 0 0 [[]] none,
    .replyRingHeadWrite 64 0 0,
    .ringEnableSet 64 0,
    .ringEnableClear 64 0,
    .evqEnableSet 64,
    .evqHeadWrite 64 0,
    .lineEnableWrite 4294967296,
    .tollPriorityWrite 256 0 0,
    .tollFenceClear 4294967296,
    .registerWrite 64 0 0 0,
    .latchedHalfRead 64 0,
    .coalesceTimeout 64 0,
    .flr 64,
    .vfEnableClear 65536,
    .functionPowerStateChange 64 false false,
    .releaseDelayEnd (some 8),
    .streamHoldAssert 8,
    .streamHoldRelease 8]

def illFormed5 : List Instr := [
    .inputEdge 8 false 0,
    .encoderFrame 4 frame0,
    .trackStale 256,
    .entryExpiry 65536 0,
    .lineMatch 65536 0,
    .frameRelease 65536 0,
    .pulseEnd 65536 0,
    .ethernetLinkChange 4 false,
    .auLaterTimeout 65536,
    .auFramePeriodTimeout 65536,
    .pipeTake 8,
    .decodeComplete 8 picture1,
    .frameBudgetExpiry ⟨8, picture1⟩,
    .pipeRestart 8 0 0 0,
    .streamStalled 65536,
    .encodePicture 256 0 0 [],
    .detectorRunDone 65536 0 0 0 ⟨[], []⟩,
    .convoyBoundary 256 [],
    .convoyCommit 256 [],
    .flushScatterDone 4294967296,
    .autoSwap 256,
    .refire 256 0 0,
    .bgCalVisit 256 0 0 [] [],
    .bgCalOverdue 256,
    .fullCalPass 256 []]

def illFormed6 : List Instr := [
    .calStale 256,
    .tollDecision 256 0 0 0,
    .tollWatchdogFence 256 0,
    .contextExpired 4294967296,
    .watchdogBite 256 0 false,
    .linkHalf 4,
    .escortLinkUp 4294967296 0 0 0 0,
    .cablePlugEvent 4 0 0 false,
    .supplyDip 65536,
    .dipClear 65536,
    .powerSample 65536 0 ⟨0, 0⟩,
    .thermalSample (-32769) 0 0 0,
    .thermalSample 0 (-32769) 0 0,
    .thermalSample 0 0 (-32769) 0,
    .thermalSample 0 0 0 65536,
    .ladder 256,
    .pldmEffecterSet 256 0,
    .coreMicrocodeHandover 256,
    .watchdogRestartDone 256 0]

theorem test_illFormed_refused :
    illFormed0.any Instr.wellFormed = false ∧
    illFormed1.any Instr.wellFormed = false ∧
    illFormed2.any Instr.wellFormed = false ∧
    illFormed3.any Instr.wellFormed = false ∧
    illFormed4.any Instr.wellFormed = false ∧
    illFormed5.any Instr.wellFormed = false ∧
    illFormed6.any Instr.wellFormed = false := by
  decide +kernel

/-- For each check of a record, a command that it refuses. -/
def illRecord0 : List Instr := [
    .defineBay hdr { bayParams with minDwell := 4294967296 },
    .submitRequest hdr { submit0 with when_ := 9223372036854775808 } [],
    .setSamplingDefine hdr 0 ⟨0, { template0 with handle := 64 }⟩,
    .setConvoyPolicy hdr { policy0 with bounds := [] },
    .setConvoyPolicy hdr { policy0 with bounds := [0, 0, 0, 0, 0, 0, 256] },
    .openStream hdr { sparams with udpPort := 65536 },
    .openStream hdr { sparams with mean := [] },
    .openStream hdr { sparams with invStd := [] },
    .openEncode hdr { eparams with destMac := 281474976710656 },
    .defineRoute hdr { rparams with sCell := 2147483648 },
    .defineRoute hdr { rparams with crops := [{ crop0 with patch := 256 }] },
    .defineRoute hdr { rparams with lead := 4294967296 },
    .setTimebase hdr { tb with transport := 4 },
    .setTimebase hdr { tb with stepNs := 9223372036854775808 },
    .defineTrack hdr { tp with span := 65536 },
    .defineActionStream hdr { ap with lineMode := 4 },
    .defineActionStream hdr { ap with lineOffset := 32768 },
    .postLaunch hdr { pp with lead := 4294967296 },
    .postLaunch hdr { pp with tokens := [4294967296] },
    .postLaunch hdr { pp with when_ := -9223372036854775809 },
    .scrubRange hdr { sp with rate := 256 },
    .beginShadow hdr { shadowParams with topK := 256 },
    .encoderFrame 0 { frame0 with tag := 340282366920938463463374607431768211456 },
    .encoderFrame 0 { frame0 with position := 9223372036854775808 },
    .loadBale hdr 0 0 false 0 { bale1 with magic := 4294967296 }]

def illRecord1 : List Instr := [
    .stagePart hdr 0 (.image (39402006196394479212279040100143613805079739270465446667948293404245721771497210611414266254884915640806627990306816)),
    .stagePart hdr 0 (.manifest { boot0.manifest with entries := [] }),
    .powerOnReset { boot0 with manifest := { boot0.manifest with format := 65536 } },
    .recoveryFromPartner { boot0 with manifest := { boot0.manifest with entries := [entryOf 1, entryOf 2, entryOf 3, entryOf 4, entryOf 5, entryOf 6, { entryOf 7 with svn := 256 }] } },
    .rtpPacket { packet0 with seq := 65536 },
    .senderReport { report0 with vlan := some 4096 },
    .presenceMate (some []) none,
    .presenceMate none (some []),
    .slotRecordRetry (some []),
    .breakout (some []),
    .ptpMessage (.announce 4 0 0 0 0 0 false),
    .ptpMessage (.event 0 0 4 0 0 false 0),
    .ptpMessage (.management 4),
    .arrayFiring { firing0 127 with core := 9 },
    .arrayFiring { firing0 127 with string := 32 },
    .arrayFiring { firing0 127 with position := 130 },
    .arrayFiring { firing0 127 with bay := 8 },
    .arrayFiring { firing0 127 with group := some { elems := [], scales := List.replicate 8 0 } },
    .arrayFiring { firing0 127 with group := some { elems := List.replicate 256 0, scales := [] } },
    .escortCellReceive { cell0 0 with ack := 18446744073709551616 },
    .mgmtHeartbeatReceive (.heartbeat 0 0 256 0 false),
    .decodeComplete 0 { picture1 with luma := [256] },
    .decodeComplete 0 { picture1 with width := 65536 }]

def illRecord2 : List Instr := [
    .loadBale hdr 0 0 false 0 { bale1 with sections := [{ kind := 65536, slice := 0, offset := 0, length := 0 }] },
    .loadBale hdr 0 0 false 0 { bale1 with itineraryVersion := 4294967296 },
    .setSamplingDefine hdr 0 ⟨256, template0⟩,
    .defineRoute hdr { rparams with others := [{ crop0 with patch := 256 }] },
    .defineRoute hdr { rparams with crops := [{ crop0 with rsvd := 549755813888 }] },
    .pairEscortPair hdr false 0 0 0 0 ⟨0, 256, 1, 1⟩ false false false,
    .senderReport { report0 with index := 2147483648 },
    .escortCellReceive { cell0 0 with recordStart := 65536 },
    .escortCellReceive { cell0 0 with launched := [65536] },
    .powerSample 0 0 ⟨0, 65536⟩]

theorem test_illRecord_refused :
    illRecord0.any Instr.wellFormed = false ∧
    illRecord1.any Instr.wellFormed = false ∧
    illRecord2.any Instr.wellFormed = false := by
  decide +kernel

/-! ## Examples and tables of the spec -/

/-- Cells and digits of R34, R36 and Table 02-5: −75 is 0b1011_0101. -/
theorem test_cells_and_digits :
    [7, 8, 15, 0].map cellValue = [7, -8, -1, 0] ∧ 16 * cellValue 11 + cellValue 13 + 8 = -75 ∧
    [3, 2, 1, 0].map (digit (-75)) = [-2, 3, 1, 1] := by
  decide +kernel

/-- The worked example of one firing: rows 0, 1, 32 and 33, codes 8, 7, −5 and −19, and v = 0.5712890625. -/
def kessary : InputGroup :=
  { elems := [100, -75] ++ List.replicate 30 0 ++ [90, -127] ++ List.replicate 222 0, scales := [130, 128, 0, 0, 0, 0, 0, 0] }

theorem test_firing_example :
    (alignGroup kessary).2.1 = 130 ∧
    ((alignGroup kessary).1.take 2, ((alignGroup kessary).1.drop 32).take 2) = ([100, -75], [22, -32]) ∧
    [3, 2, 1, 0].map (partialSum [100, -75, 22, -32] [7, -3, -8, 5]) = [8, 7, -4, -19] ∧
    columnInt 0 8 7 (-5) (-19) = 1170 ∧ (scaleColumn 1170 120 130 0).v = 0x3F124000 := by
  decide +kernel

/-- The worked example of a checksum: row sums 412 and −1,097, codes at step 7, c = 309,392 and T = 8,021,606. -/
theorem test_checksum_example :
    (let t := checksumTriple 412; [t.1, t.2.1, t.2.2].map cellValue) = [1, 1, 4] ∧
    (let t := checksumTriple (-1097); [t.1, t.2.1, t.2.2].map cellValue) = [-5, 3, -1] ∧
    [3, 2, 1, 0].map (fun k => convert (partialSum [100, -75] [1, -5] k) 7 0) = [1, -1, 0, 0] ∧
    [3, 2, 1, 0].map (fun k => convert (partialSum [100, -75] [1, 3] k) 7 0) = [0, 1, 0, 0] ∧
    [3, 2, 1, 0].map (partialSum [100, -75] [4, -1]) = [6, 5, 3, -1] ∧
    256 * columnInt 7 1 (-1) 0 0 + 16 * columnInt 7 0 1 0 0 + columnInt 7 1 0 0 0 + 272 * 25 = 309392 ∧
    columnInt 7 511 511 511 511 = 1042440 ∧ checkThreshold 30 = 8021606 := by
  decide +kernel

/-- The C3 word of string 7, position 12, row 0, word 0 (Chapter 9's worked example). -/
theorem test_weight_address : tileBase 7 12 = 32100352 := by decide +kernel

/-- A template whose steps 1 to 4 are those of the example at the Kessary cell. -/
def kessaryTemplate : TemplateRec :=
  { template0 with theta := 0x3F99999A, alpha := 0x3F000000, beta := 0x3E99999A, temperature := 0 }

/-- After step 3 the greatest logit is token 203's, here the second: 2.0333, 3.6, 1.7, 2.4, −3.0, 2.5. -/
theorem test_penalties_example :
    (samplePosition kessaryTemplate [(0, 2), (2, 1), (4, 3)]
      [0x40800000, 0x40666666, 0x40400000, 0x4019999A, 0xBF800000, 0x40200000] 0).1 = 1 ∧
    (penalise kessaryTemplate 1 0x40400000).v = 0x3FD9999A ∧ (penalise kessaryTemplate 0 0x40666666).v = 0x40666666 := by
  decide +kernel

/-- Philox4x32-10 of a zero key and counter, from its authors' table of answers. -/
theorem test_philox : philoxRounds 10 0 0 (0, 0, 0, 0) = (0x6627E8D5, 0xE169C58D, 0xBC57AC4C, 0x9B00DBD8) := by
  decide +kernel

/-- The logits of a vocabulary of eight whose greatest is one token's. -/
def pick (t : Nat) : List F32 := (List.replicate 8 (0 : F32)).set t 0x3F800000

/-- The cases of the verification example: full, partial and zero. -/
theorem test_verification_example :
    (let v := verifyFrom template0 0 0 [] [1, 2, 5] [pick 1, pick 2, pick 5, pick 3] 0; (v.tokens, v.matched)) = ([1, 2, 5, 3], 3) ∧
    (let v := verifyFrom template0 0 0 [] [1, 2, 5] [pick 1, pick 4, pick 5, pick 3] 0; (v.tokens, v.matched)) = ([1, 4], 1) ∧
    (let v := verifyFrom template0 0 0 [] [1, 2, 5] [pick 6, pick 4, pick 5, pick 3] 0; (v.tokens, v.matched)) = ([6], 0) ∧
    nextDepth 3 3 0 7 0 4 8 32 = (2, 0, 0) ∧ nextDepth 0 0 0 0 31 4 8 32 = (1, 0, 0) := by
  decide +kernel

/-- A 1920 × 1080 stream in C16 MXINT8 with the default buffer takes 133,219,328 bytes (R172). -/
theorem test_stream_bytes :
    streamBytes { sparams with c32 := false, maxWidth := 1920, maxHeight := 1080, maxAuBytes := 0 } = 133219328 := by
  decide +kernel

/-- The parcel at the edge of the Orsel camera: columns 0, 53 and 54 and rows 0 and 63 of crop 1. -/
theorem test_crop_example :
    let c : CropRec := { expand := 0x40400000, outH := 64, outW := 64, mode := 0, ratio := 0, patch := 8, square := false, embed := 0, rsvd := 0 }
    let b : BoxRec := { x0 := 0x44EA0000, y0 := 0x43FA0000, x1 := 0x44EE0000, y1 := 0x44050000, score := 0x3F68F5C3, cls := 0, flags := 0, candidate := 0, frame := 0 }
    let e := expandBox c b
    [0, 53, 54].map (axisAt 0 e.1 e.2.2.1 64) = [0x44E60800, 0x44EFF800, 0x44F02800] ∧
    [0, 63].map (axisAt 0 e.2.1 e.2.2.2 64) = [0x43EA2000, 0x440CB000] := by
  decide +kernel

/-- The braking belt of the Orsel line: 115.6 mm from 1.2 m/s at −4 m/s² take 120.557 ms, and 14.0 mm from 0.96 m/s at
4 m/s² take 14.165 ms, here to the microsecond and whatever the last sixteenth is. -/
theorem test_track_example :
    divBySurd 1200000 (1200000 * 1200000 + 2 * (-4000000) * 115600) (2 * 115600 * 16000000000) / 16000 = 120556 ∧
    divBySurd 960000 (960000 * 960000 + 2 * 4000000 * 14000) (2 * 14000 * 16000000000) / 16000 = 14165 := by
  decide +kernel

/-- Toll 5 of the Kessary example after its priority write: priorities 8, 12 and 1, WAIT_LIMIT 3 for the scrubber. -/
def kessaryToll (c5 : Nat) (wait : List Nat) (ptr : Nat) : State :=
  ready.setToll 5 { Toll.reset with
    prioA := BitVec.ofNat 32 (0x88088888 + c5 * 2 ^ 20)
    prioB := 0x00410000 + 0xC6A8
    limits := Toll.reset.limits.set 12 0x00030007
    wait := wait
    ptr := ptr }

/-- The requests of C2, C5 and the scrubber. -/
def kessaryRequests : Nat := 2 ^ 2 + 2 ^ 5 + 2 ^ 12

def tollAfter (s : State) : Option (Nat × Nat × Nat × Nat) :=
  match exec (.tollDecision 5 kessaryRequests 8 2) s with
  | .next t => let x := t.toll 5; some (x.wait.getD 2 0, x.wait.getD 5 0, x.wait.getD 12 0, x.ptr)
  | _ => none

/-- Its decisions in cycles 0, 2, 4, 6 and 7: the wait counters and the pointer after each. -/
theorem test_toll_example :
    (let waits := fun a b c => ((List.replicate 14 0).set 2 a |>.set 5 b).set 12 c
     [tollAfter (kessaryToll 8 (waits 0 0 0) 0), tollAfter (kessaryToll 8 (waits 0 1 1) 3),
      tollAfter (kessaryToll 12 (waits 1 0 2) 6), tollAfter (kessaryToll 12 (waits 2 0 3) 6),
      tollAfter (kessaryToll 12 (waits 3 1 0) 13)]).map (fun x => x.getD (9, 9, 9, 9)) =
      [(0, 1, 1, 3), (1, 0, 2, 6), (2, 0, 3, 6), (3, 1, 0, 13), (4, 0, 1, 6)] := by
  decide +kernel

/-- Entries from 0xFFFF_FFFE to 2 give a count of 4 (R319). -/
theorem test_renewal_example :
    let p := { ap with encrypt := true }
    let s := withStream ready p
    let e := fun q => { entry0 with sequence := q }
    let t : State := { s with mls := { s.mls with ledger := [e 0xFFFFFFFE, e 0xFFFFFFFF, e 1, e 2] } }
    ((t.recount 4095).stream 4095).map (·.renewal) = some 4 := by
  decide +kernel

/-- The 60 bytes of Table 10-26, and what its header says. -/
theorem test_packet_example :
    let b : List Byte := [0x02, 0x02, 0x01, 0x02, 0x42, 0x00, 0x03, 0x02, 0x20, 0, 0, 0, 0, 0, 0, 0, 0x2B, 0x1A, 0, 0, 0x07, 0, 0, 0,
      0, 0, 0, 0, 0x08, 0] ++ List.replicate 10 0 ++ [0x01, 0, 0xED, 0x5E, 0, 0, 0, 0, 0, 0, 0, 0x40, 0x10, 0, 0, 0, 0xC0, 0, 0, 0]
    b.length = 60 ∧ packetHdr 3 1 (b ++ leBytes 4 (crc32c b)) =
      { fn := 3, ring := 1, tag := 0x42, tenant := 3, priority := 2, signal := true, barrier := false, rsvdZero := true,
        inlineLength := 32, payloadAddr := 0x1040000000, payloadLen := 64 + 4 * (8 + 24), payloadOk := true, copied := false, scatter := none } := by
  decide +kernel

/-- CRC-32C of the nine digits, from the catalogue of CRC algorithms. -/
theorem test_crc32c : crc32c [0x31, 0x32, 0x33, 0x34, 0x35, 0x36, 0x37, 0x38, 0x39] = 0xE3069283 := by decide +kernel

/-- The activation of manifest 2.4.0: two live parts, RESULT0 0x0000_0002_0204_0000 and RESULT1 2,540,000 (R408). -/
theorem test_activation_example :
    let m := { manifest0 with version := 0x02040000 }
    let s : State := { ready with fw := { ready.fw with writing := some { ref := ref0, manifest := m, switched := 2, windowNs := 2540000 } } }
    let t := match exec .norWriteDone s with | .next t => t | _ => s
    runWindows [(7, .ok 640000), (2, .ok 1900000)] 0 0 = (none, 2540000) ∧
    (t.out.filterMap fun o => match o with
      | .reply _ _ _ _ r _ => some (r.result0, r.result1)
      | _ => none) = [(0x0000000202040000, 2540000)] := by
  decide +kernel

/-! ## Witnesses of the statements over every state -/

theorem witness_EveryStepAnswers : ready.pending = [] ∧ ∀ p ∈ ready.host.rings, p.2.unfetched = [] := by decide +kernel

theorem witness_OutcomesAndSequences :
    (4094 ≠ entry0.stream ∨ 1 ≠ entry0.sequence) ∧ 1 ≤ 0xFFFFFFFF ∧ 0xFFFFFFFF < 2 ^ 32 := by decide +kernel

theorem witness_CountersStick : statKey 0x0001 8 0 0 0 8 ≠ statKey 0x0001 8 0 0 0 24 := by decide +kernel

end Sys2Proof.Tests
end

section
/-! The decision of a toll (R253): which requesters stay, which of them wins, and what the decision writes. -/

namespace Sys2Proof.Machine

/-! ## Two list selections that the decision is made of -/

/-- Selecting the elements with `p`, or all of them when none has `p`. -/
theorem mem_filter_or_all {α : Type} (p : α → Bool) (l : List α) (a : α) :
    a ∈ (if (l.filter p).isEmpty then l else l.filter p) ↔ a ∈ l ∧ ((∃ b ∈ l, p b = true) → p a = true) := by
  by_cases hex : ∃ b ∈ l, p b = true
  · have hne : ¬(l.filter p).isEmpty = true := by simpa using hex
    rw [if_neg hne, List.mem_filter]
    exact and_congr_right fun _ => ⟨fun h _ => h, fun h => h hex⟩
  · have he : (l.filter p).isEmpty = true := by simpa using hex
    rw [if_pos he]
    exact ⟨fun h => ⟨h, fun h => absurd h hex⟩, fun h => h.1⟩

/-- The elements at which `f` equals its running maximum are those at which it is greatest. -/
theorem mem_filter_eq_foldl_max {α : Type} (f : α → Nat) (l : List α) (a : α) :
    a ∈ l.filter (fun r => f r = (l.map f).foldl max 0) ↔ a ∈ l ∧ ∀ b ∈ l, f b ≤ f a := by
  rw [List.mem_filter]
  refine and_congr_right fun ha => ?_
  have hmax := List.max?_eq_some_iff (xs := 0 :: l.map f) (a := f a)
  rw [List.max?_cons', Option.some_inj] at hmax
  have hmem : f a ∈ 0 :: l.map f := List.mem_cons_of_mem _ (List.mem_map_of_mem ha)
  rw [decide_eq_true_eq, eq_comm, hmax]
  simp [hmem]

/-! ## The order that starts at the pointer -/

/-- How far requester `r` stands behind the pointer, in the order ptr, ptr + 1, .. 13, 0, .. ptr - 1. -/
def Toll.away (t : Toll) (r : Nat) : Nat := (r + 14 - t.ptr) % 14

theorem Toll.away_add {t : Toll} {i : Nat} (hp : t.ptr ≤ 13) (hi : i < 14) : t.away ((t.ptr + i) % 14) = i := by
  unfold Toll.away; omega

theorem Toll.add_away {t : Toll} {r : Nat} (hp : t.ptr ≤ 13) (hr : r < 14) : (t.ptr + t.away r) % 14 = r := by
  unfold Toll.away; omega

theorem Toll.away_lt (t : Toll) (r : Nat) : t.away r < 14 := Nat.mod_lt _ (by decide)

/-- The 14 requesters in the order that starts at the pointer. -/
def Toll.order (t : Toll) : List Nat := (List.range 14).map fun i => (t.ptr + i) % 14

theorem Toll.mem_order {t : Toll} {r : Nat} (hp : t.ptr ≤ 13) (hr : r < 14) : r ∈ t.order :=
  List.mem_map.2 ⟨t.away r, List.mem_range.2 (t.away_lt r), Toll.add_away hp hr⟩

/-- The first requester with `p` in the pointer's order is the one least far behind the pointer. -/
theorem Toll.find?_order_eq_some_iff {t : Toll} {p : Nat → Bool} (hp : t.ptr ≤ 13) (hlt : ∀ r, p r = true → r < 14)
    (w : Nat) :
    t.order.find? p = some w ↔ p w = true ∧ ∀ q, p q = true → t.away w ≤ t.away q := by
  simp only [Toll.order, List.find?_map, Option.map_eq_some_iff, List.find?_range_eq_some, List.mem_range,
    Function.comp_apply, Bool.not_eq_true']
  constructor
  · rintro ⟨i, ⟨hi, hi14, hbefore⟩, rfl⟩
    refine ⟨hi, fun q hq => ?_⟩
    rw [Toll.away_add hp hi14]
    by_contra hless
    have hskipped := hbefore (t.away q) (by omega)
    rw [Toll.add_away hp (hlt q hq)] at hskipped
    simp [hq] at hskipped
  · rintro ⟨hw, hfirst⟩
    refine ⟨t.away w, ⟨?_, t.away_lt w, fun j hj => ?_⟩, Toll.add_away hp (hlt w hw)⟩
    · rwa [Toll.add_away hp (hlt w hw)]
    · by_contra hpj
      have hle := hfirst _ (Bool.not_eq_false _ ▸ hpj)
      rw [Toll.away_add hp (hj.trans (t.away_lt w))] at hle
      omega

/-! ## R253's candidates, step by step -/

/-- A requesting, unfenced requester. -/
def TollCandidate (requests fence r : Nat) : Prop := r < 14 ∧ bitOf requests r = true ∧ bitOf fence r = false

/-- A candidate whose wait counter has reached its non-zero wait limit. -/
def Toll.Due (t : Toll) (requests fence r : Nat) : Prop :=
  TollCandidate requests fence r ∧ 0 < t.waitLimit r ∧ t.waitLimit r ≤ t.wait.getD r 0

/-- A candidate that the wait limits do not exclude. -/
def Toll.Kept (t : Toll) (requests fence r : Nat) : Prop :=
  TollCandidate requests fence r ∧ ((∃ q, t.Due requests fence q) → t.Due requests fence r)

/-- A kept candidate of the highest priority. -/
def Toll.Top (t : Toll) (boost : Bool) (requests fence r : Nat) : Prop :=
  t.Kept requests fence r ∧ ∀ q, t.Kept requests fence q → t.prio boost q ≤ t.prio boost r

/-- The first at or after the pointer among the candidates of the highest priority. -/
def Toll.Wins (t : Toll) (boost : Bool) (requests fence w : Nat) : Prop :=
  t.Top boost requests fence w ∧ ∀ q, t.Top boost requests fence q → t.away w ≤ t.away q

/-- The candidates, as `tollWinner` lists them. -/
def tollCandidates (requests fence : Nat) : List Nat :=
  (List.range 14).filter fun r => bitOf requests r && !bitOf fence r

/-- The candidates that the wait limits leave, as `tollWinner` lists them. -/
def Toll.keptList (t : Toll) (requests fence : Nat) : List Nat :=
  let due := (tollCandidates requests fence).filter fun r => t.waitLimit r > 0 && t.wait.getD r 0 ≥ t.waitLimit r
  if due.isEmpty then tollCandidates requests fence else due

/-- The candidates of the highest priority, as `tollWinner` lists them. -/
def Toll.topList (t : Toll) (boost : Bool) (requests fence : Nat) : List Nat :=
  (t.keptList requests fence).filter fun r =>
    t.prio boost r = ((t.keptList requests fence).map (t.prio boost)).foldl max 0

theorem tollWinner_eq_find? (t : Toll) (boost : Bool) (requests fence : Nat) :
    tollWinner t boost requests fence = t.order.find? (t.topList boost requests fence).contains := rfl

theorem mem_tollCandidates {requests fence r : Nat} :
    r ∈ tollCandidates requests fence ↔ TollCandidate requests fence r := by
  simp [tollCandidates, TollCandidate]

theorem Toll.mem_keptList {t : Toll} {requests fence r : Nat} :
    r ∈ t.keptList requests fence ↔ t.Kept requests fence r := by
  rw [Toll.keptList, mem_filter_or_all]
  simp only [mem_tollCandidates, Bool.and_eq_true, decide_eq_true_eq]
  exact and_congr_right fun hr => imp_congr_right fun _ => ⟨fun h => ⟨hr, h⟩, fun h => h.2⟩

theorem Toll.mem_topList {t : Toll} {boost : Bool} {requests fence r : Nat} :
    r ∈ t.topList boost requests fence ↔ t.Top boost requests fence r := by
  simp only [Toll.topList, mem_filter_eq_foldl_max, Toll.mem_keptList, Toll.Top]

theorem Toll.Top.candidate {t : Toll} {boost : Bool} {requests fence r : Nat} (h : t.Top boost requests fence r) :
    TollCandidate requests fence r := h.1.1

/-- Some candidate is left at every step of the decision: the wait limits and the priorities exclude none unless
another stays. -/
theorem Toll.exists_top {t : Toll} {boost : Bool} {requests fence : Nat} (h : ∃ r, TollCandidate requests fence r) :
    ∃ r, t.Top boost requests fence r := by
  have hkept : {r | t.Kept requests fence r}.Nonempty := by
    by_cases hdue : ∃ q, t.Due requests fence q
    · obtain ⟨q, hq⟩ := hdue
      exact ⟨q, hq.1, fun _ => hq⟩
    · obtain ⟨r, hr⟩ := h
      exact ⟨r, hr, fun hex => absurd hex hdue⟩
  have hfin : {r | t.Kept requests fence r}.Finite := (Set.finite_lt_nat 14).subset fun r hr => hr.1.1
  exact Set.exists_max_image _ (t.prio boost) hfin hkept

/-! ## The winner and the decision -/

theorem tollWinner_eq_some_iff {t : Toll} {boost : Bool} {requests fence : Nat} (hp : t.ptr ≤ 13) (w : Nat) :
    tollWinner t boost requests fence = some w ↔ t.Wins boost requests fence w := by
  have htop (r : Nat) : (t.topList boost requests fence).contains r = true ↔ t.Top boost requests fence r := by
    rw [List.contains_iff_mem, Toll.mem_topList]
  rw [tollWinner_eq_find?, Toll.find?_order_eq_some_iff hp fun r hr => ((htop r).1 hr).candidate.1]
  simp only [htop, Toll.Wins]

theorem tollWinner_eq_none_iff {t : Toll} {boost : Bool} {requests fence : Nat} (hp : t.ptr ≤ 13) :
    tollWinner t boost requests fence = none ↔ ∀ r, ¬TollCandidate requests fence r := by
  simp only [tollWinner_eq_find?, List.find?_eq_none, List.contains_iff_mem, Toll.mem_topList]
  constructor
  · intro hnone r hr
    obtain ⟨w, hw⟩ := Toll.exists_top (t := t) (boost := boost) ⟨r, hr⟩
    exact hnone w (Toll.mem_order hp hw.candidate.1) hw
  · exact fun hnone r _ hr => hnone r hr.candidate

theorem Toll.exists_wins {t : Toll} {boost : Bool} {requests fence : Nat} (hp : t.ptr ≤ 13)
    (h : ∃ r, TollCandidate requests fence r) : ∃ w, t.Wins boost requests fence w := by
  obtain ⟨r, hr⟩ := h
  have hsome : tollWinner t boost requests fence ≠ none := fun hnone => (tollWinner_eq_none_iff hp).1 hnone r hr
  obtain ⟨w, hw⟩ := Option.ne_none_iff_exists'.1 hsome
  exact ⟨w, (tollWinner_eq_some_iff hp w).1 hw⟩

theorem tollWaits_eq (t : Toll) (requests w : Nat) :
    tollWaits t requests w = (List.range 14).map fun r =>
      if r = w ∨ bitOf requests r = false then 0 else min (t.wait.getD r 0 + 1) 4095 := by
  simp [tollWaits]

theorem exec_tollDecision (toll requests beats cycles : Nat) (s : State) :
    exec (.tollDecision toll requests beats cycles) s = execTollDecision toll requests beats cycles s := rfl

section Decides

variable {s : State} {toll requests beats cycles : Nat} (htoll : toll ≤ 25) (hgrant : beats ≠ 0 ∨ cycles ≠ 0)
  (howner : (s.toll toll).owner = none)
include htoll hgrant howner

/-- With the port free and a grant of some beats or cycles, the row is not one that does nothing. -/
theorem tollDecision_not_idle :
    ¬(toll > 25 || (s.toll toll).owner.isSome || (beats = 0 && cycles = 0)) = true := by
  simp only [howner, Option.isSome_none, Bool.or_false, Bool.or_eq_true, Bool.and_eq_true, decide_eq_true_eq]
  omega

theorem execTollDecision_of_winner {w : Nat}
    (hwin : tollWinner (s.toll toll) s.mem.escortBoost requests s.mem.fence = some w)
    (hburst : beats ≤ (s.toll toll).burst w) :
    execTollDecision toll requests beats cycles s = .next (s.setToll toll { s.toll toll with
      requests := requests % 2 ^ 14, wait := tollWaits (s.toll toll) requests w, ptr := (w + 1) % 14,
      owner := if (s.toll toll).watchdog ≤ cycles then some w else none }) := by
  simp only [execTollDecision, hwin, if_neg (tollDecision_not_idle htoll hgrant howner), if_neg (Nat.not_lt.2 hburst),
    ge_iff_le, gt_iff_lt]

theorem execTollDecision_of_no_winner
    (hnone : tollWinner (s.toll toll) s.mem.escortBoost requests s.mem.fence = none) :
    execTollDecision toll requests beats cycles s = .next (s.setToll toll { s.toll toll with
      requests := requests % 2 ^ 14,
      wait := (List.range 14).map fun r => if bitOf requests r = true then (s.toll toll).wait.getD r 0 else 0 }) := by
  simp only [execTollDecision, hnone, if_neg (tollDecision_not_idle htoll hgrant howner)]

end Decides

/-- Settles O16: `tollWinner` finds exactly R253's winner, finds none only where there is no candidate, and the row
writes what R253 says for the winner. -/
theorem tollsDecide : Obligations.TollsDecide := by
  unfold Obligations.TollsDecide
  intro s toll requests beats cycles htoll hgrant t howner hp cand due kept top away
  refine ⟨fun w hw hfirst hburst => ?_, fun hnone => ?_, Toll.exists_wins (boost := s.mem.escortBoost) hp⟩
  · have hwin : tollWinner t s.mem.escortBoost requests s.mem.fence = some w :=
      (tollWinner_eq_some_iff hp w).2 ⟨hw, hfirst⟩
    rw [exec_tollDecision, execTollDecision_of_winner htoll hgrant howner hwin hburst, tollWaits_eq]
  · rw [exec_tollDecision, execTollDecision_of_no_winner htoll hgrant howner ((tollWinner_eq_none_iff hp).2 hnone)]

end Sys2Proof.Machine
end

section
/-! The event queue of a function (R295, R297): which record a due event writes, which it drops, and what a flush of the
lost count writes. -/

namespace Sys2Proof.Machine

/-! ## Reading back what was set -/

@[simp] theorem Map.get?_set_self {α : Type} (m : Map α) (k : Nat) (v : α) : Map.get? (Map.set m k v) k = some v := by
  induction m with
  | nil => simp [Map.set, Map.get?]
  | cons p r ih =>
    obtain ⟨i, w⟩ := p
    unfold Map.set
    split_ifs with hlt heq
    · simp [Map.get?]
    · simp [Map.get?]
    · simpa [Map.get?, heq] using ih

@[simp] theorem State.fn_setFn_self (s : State) (fn : Nat) (f : FnState) : (s.setFn fn f).fn fn = f := by
  simp [State.fn]

@[simp] theorem State.fn_emit (s : State) (o : Output) (fn : Nat) : (s.emit o).fn fn = s.fn fn := rfl

/-! ## A due event -/

/-- The class of an event code is one whose records the function asks for; class 0x00 always is (R292). -/
def FnState.Enables (f : FnState) (code : Nat) : Prop := code / 256 = 0 ∨ bitOf f.mask (code / 256) = true

/-- The next entry of the event queue is the one at HEAD: no entry is free (R295). -/
def FnState.EvqFull (f : FnState) : Prop := (f.evqTail + 1) % 2 ^ f.evqLog2 = f.evqHead

/-- The event queue is enabled with an entry free, and host DMA can write it: a due record is written (R275, R297). -/
def State.EvqTakes (s : State) (fn : Nat) : Prop :=
  (s.fn fn).evqEnable = true ∧ ¬(s.fn fn).EvqFull ∧ s.canDma fn = true

/-- `EvqTakes` is the opposite of the test that `State.event` and `State.flushLost` make. -/
theorem State.evqTakes_iff (s : State) (fn : Nat) :
    s.EvqTakes fn ↔ ¬(!(s.fn fn).evqEnable || ((s.fn fn).evqTail + 1) % 2 ^ (s.fn fn).evqLog2 = (s.fn fn).evqHead ||
      !s.canDma fn) = true := by
  simp [State.EvqTakes, FnState.EvqFull, and_assoc]

/-- The lost count is no part of what makes the queue take a record. -/
theorem State.EvqTakes.setFn_pendingLost {s : State} {fn : Nat} (h : s.EvqTakes fn) (n : Nat) :
    (s.setFn fn { s.fn fn with pendingLost := n }).EvqTakes fn := by
  obtain ⟨hon, hfree, hdma⟩ := h
  simp only [State.EvqTakes, State.canDma, State.fn_setFn_self, State.setFn_sets_host, State.setFn_keeps_mem]
  exact ⟨hon, hfree, hdma⟩

/-- A function once the record at TAIL has been written: TAIL advances, and the phase turns where TAIL wraps (R295). -/
def FnState.evqAdvance (f : FnState) : FnState :=
  let tail := (f.evqTail + 1) % 2 ^ f.evqLog2
  { f with evqTail := tail, evqPhase := if tail = 0 then !f.evqPhase else f.evqPhase }

theorem FnState.enables_iff (f : FnState) (code : Nat) :
    f.Enables code ↔ ¬(!(code / 256 = 0 || bitOf f.mask (code / 256))) = true := by
  simp only [FnState.Enables, Bool.not_eq_true', Bool.not_eq_false, Bool.or_eq_true, decide_eq_true_eq]

section Due

variable {s : State} {fn code : Nat} (object detail : Nat) (hclass : (s.fn fn).Enables code)
include hclass

theorem State.event_of_not_takes (hno : ¬s.EvqTakes fn) :
    s.event fn code object detail = s.setFn fn { s.fn fn with
      lost := satAdd 16 1 (s.fn fn).lost, pendingLost := (s.fn fn).pendingLost + 1 } := by
  simp only [State.event, if_neg ((FnState.enables_iff _ _).1 hclass),
    if_pos (not_not.1 (mt (s.evqTakes_iff fn).2 hno))]

variable (htakes : s.EvqTakes fn)
include htakes

/-- A record is written at TAIL, with a message where the queue was empty. -/
theorem State.event_of_takes :
    s.event fn code object detail =
      let t := (s.setFn fn (s.fn fn).evqAdvance).emit
        (.event fn (s.fn fn).evqTail (s.fn fn).evqPhase code object detail s.mls.time)
      if (s.fn fn).evqTail = (s.fn fn).evqHead then t.emit (.msix fn ((s.fn fn).evqVector % vectors fn)) else t := by
  simp only [State.event, if_neg ((FnState.enables_iff _ _).1 hclass), if_neg ((s.evqTakes_iff fn).1 htakes)]
  rfl

theorem State.event_of_takes_fn : (s.event fn code object detail).fn fn = (s.fn fn).evqAdvance := by
  rw [State.event_of_takes object detail hclass htakes]
  dsimp only
  split <;> simp

/-- What leaves is the one record and, at most, its message. -/
theorem State.event_of_takes_out :
    ∃ msgs : List Output, (∀ o ∈ msgs, o = .msix fn ((s.fn fn).evqVector % vectors fn)) ∧
      (s.event fn code object detail).out = s.out ++
        .event fn (s.fn fn).evqTail (s.fn fn).evqPhase code object detail s.mls.time :: msgs := by
  rw [State.event_of_takes object detail hclass htakes]
  dsimp only
  split
  · exact ⟨[.msix fn ((s.fn fn).evqVector % vectors fn)], by simp, by simp⟩
  · exact ⟨[], by simp, by simp⟩

end Due

/-! ## The flush of the lost count -/

section Flush

variable {s : State} {fn : Nat} (hlost : (s.fn fn).pendingLost ≠ 0) (htakes : s.EvqTakes fn)
include hlost htakes

/-- The flush is one EVENT_LOST event of the count, which is 0 by then. -/
theorem State.flushLost_eq_event :
    s.flushLost fn = (s.setFn fn { s.fn fn with pendingLost := 0 }).event fn 0x0001 0 (s.fn fn).pendingLost := by
  have hnow := (s.evqTakes_iff fn).1 htakes
  simp only [State.flushLost, hlost, decide_false, Bool.false_or, if_neg hnow]

theorem State.flushLost_fn : (s.flushLost fn).fn fn = ({ s.fn fn with pendingLost := 0 } : FnState).evqAdvance := by
  rw [State.flushLost_eq_event hlost htakes,
    State.event_of_takes_fn 0 _ (.inl rfl) (htakes.setFn_pendingLost 0), State.fn_setFn_self]

theorem State.flushLost_out :
    ∃ msgs : List Output, (∀ o ∈ msgs, o = .msix fn ((s.fn fn).evqVector % vectors fn)) ∧
      (s.flushLost fn).out = s.out ++
        .event fn (s.fn fn).evqTail (s.fn fn).evqPhase 0x0001 0 (s.fn fn).pendingLost s.mls.time :: msgs := by
  rw [State.flushLost_eq_event hlost htakes]
  have hout := State.event_of_takes_out 0 (s.fn fn).pendingLost (.inl rfl : FnState.Enables _ 0x0001)
    (htakes.setFn_pendingLost 0)
  rwa [State.fn_setFn_self] at hout

end Flush

/-! ## The two rows that flush -/

theorem exec_evqEnableSet {fn : Nat} (hfn : fn < 64) (s : State) :
    exec (.evqEnableSet fn) s = .next (s.enableEvq fn) :=
  congrArg Host.Outcome.next (if_pos hfn)

theorem exec_evqHeadWrite {fn : Nat} (hfn : fn < 64) (head : Nat) (s : State) :
    exec (.evqHeadWrite fn head) s = .next (s.setEvqHead fn head) :=
  congrArg Host.Outcome.next (if_pos hfn)

theorem State.enableEvq_of_disabled {s : State} {fn : Nat} (hoff : (s.fn fn).evqEnable = false) :
    s.enableEvq fn = (s.setFn fn { s.fn fn with
      evqEnable := true, evqTail := 0, evqHead := 0, evqPhase := true }).flushLost fn :=
  if_neg (Bool.eq_false_iff.1 hoff)

/-- Settles O23: a due event without an entry only raises LOST and the count, and the flush is one EVENT_LOST event on
the state whose count is 0, which then has its entry. -/
theorem eventLostAccounting : Obligations.EventLostAccounting := by
  unfold Obligations.EventLostAccounting
  refine ⟨fun s fn code object detail hclass hno => ?_, fun s fn hlost hon hdma hfree => ?_, fun s fn hfn hoff => ?_,
    fun s fn head hfn => exec_evqHeadWrite hfn head s⟩
  · have hnot : ¬s.EvqTakes fn := fun ⟨hon, hfree, _⟩ => hno.elim (Bool.eq_false_iff.1 · hon) hfree
    exact State.event_of_not_takes object detail hclass hnot
  · have htakes : s.EvqTakes fn := ⟨hon, hfree, hdma⟩
    have hfn := State.flushLost_fn hlost htakes
    exact ⟨(congrArg FnState.pendingLost hfn :), (congrArg FnState.lost hfn :), (congrArg FnState.evqTail hfn :),
      State.flushLost_out hlost htakes⟩
  · rw [exec_evqEnableSet hfn, State.enableEvq_of_disabled hoff]

end Sys2Proof.Machine
end

section
/-! HELLO (R285): the four answers of a started HELLO, by its generations and its ring. -/

namespace Sys2Proof.Machine

/-- An open ring with a command outstanding beside the one of tag `tag`. -/
def RingPair.Busy (p : RingPair) (tag : Nat) : Prop := p.open_ = true ∧ ∃ t ∈ p.outstanding, t.1 ≠ tag

theorem RingPair.busy_iff (p : RingPair) (tag : Nat) :
    (p.open_ && p.outstanding.any fun t => t.1 ≠ tag) = true ↔ p.Busy tag := by
  simp [RingPair.Busy]

/-- GEN_MAX is 1 to 3 and GEN_MIN is 1 to GEN_MAX. -/
def HelloRanges (genMax genMin : Nat) : Prop := genMax ≤ 3 ∧ 1 ≤ genMin ∧ genMin ≤ genMax

theorem helloRanges_iff (genMax genMin : Nat) :
    ¬(!within genMax 1 3 || !within genMin 1 genMax) = true ↔ HelloRanges genMax genMin := by
  simp only [within, HelloRanges, Bool.or_eq_true, Bool.not_eq_true', Bool.and_eq_false_iff, decide_eq_false_iff_not]
  omega

theorem exec_hello {h : Hdr} {s : State} (hstart : startable 0x0001 h s = true) (genMax genMin : Nat) :
    exec (.hello h genMax genMin) s = .next (helloRun h genMax genMin (cmdRef 0x0001 h s) (s.started 0x0001 h)) :=
  congrArg Host.Outcome.next (State.cmd_started s 0x0001 h _ hstart)

section Answers

variable {h : Hdr} {genMax genMin : Nat} (c : CmdRef) (s : State)

theorem helloRun_of_not_ranges (hr : ¬HelloRanges genMax genMin) :
    helloRun h genMax genMin c s = s.reply c Status.badParam 0 0 :=
  if_pos (not_not.1 (mt (helloRanges_iff genMax genMin).1 hr))

variable (hr : HelloRanges genMax genMin)
include hr

theorem helloRun_of_busy (hbusy : (s.ring h.fn h.ring).Busy h.tag) :
    helloRun h genMax genMin c s = s.reply c Status.notPermitted 0 0 := by
  simp only [helloRun, if_neg ((helloRanges_iff genMax genMin).2 hr), if_pos ((RingPair.busy_iff _ _).2 hbusy)]

variable (hfree : ¬(s.ring h.fn h.ring).Busy h.tag)
include hfree

theorem helloRun_of_genMin_above (hmin : 1 < genMin) :
    helloRun h genMax genMin c s = s.reply c Status.badVersion 0 0 := by
  simp only [helloRun, if_neg ((helloRanges_iff genMax genMin).2 hr), if_neg (mt (RingPair.busy_iff _ _).1 hfree),
    if_pos hmin]

theorem helloRun_opens (hmin : genMin = 1) :
    helloRun h genMax genMin c s =
      let o := s.setRing h.fn h.ring { s.ring h.fn h.ring with open_ := true, generation := 1 }
      (o.setFn h.fn { o.fn h.fn with awaitHello := false }).reply c Status.done
        (1 + 1 * 2 ^ 8 + 1 * 2 ^ 16 + h.ring * 2 ^ 24 + h.fn * 2 ^ 32 + h.fn * 2 ^ 40) (s.fw.versions.getD 1 0) := by
  have hone : ¬genMin > 1 := by omega
  simp only [helloRun, if_neg ((helloRanges_iff genMax genMin).2 hr), if_neg (mt (RingPair.busy_iff _ _).1 hfree),
    if_neg hone, State.setFn_keeps_fw, State.setRing_keeps_fw, Nat.mul_comm (2 ^ _), Nat.one_mul]

end Answers

/-- Settles O22: a started HELLO runs `helloRun`, which checks the generations' ranges, then the outstanding commands,
then GEN_MIN. -/
theorem helloOpensTheRing : Obligations.HelloOpensTheRing := by
  unfold Obligations.HelloOpensTheRing
  intro h genMax genMin s hstart b c p busy
  rw [exec_hello hstart]
  refine ⟨fun hmax hle hmin hfree => ?_, fun hmin hle hmax hfree => ?_, fun hmin hle hmax hbusy => ?_, fun hout => ?_⟩
  · exact congrArg _ (helloRun_opens c b ⟨hle, hmin.ge, hmin.trans_le hmax⟩ hfree hmin)
  · exact congrArg _ (helloRun_of_genMin_above c b ⟨hmax, hmin.le, hle⟩ hfree hmin)
  · exact congrArg _ (helloRun_of_busy c b ⟨hmax, hmin, hle⟩ hbusy)
  · have hr : ¬HelloRanges genMax genMin := by unfold HelloRanges; omega
    exact congrArg _ (helloRun_of_not_ranges c b hr)

end Sys2Proof.Machine
end

section
/-! What every command keeps: the frame of one command and of one step (R304, R238, Table 12-1), and that none stops the
module. -/

namespace Sys2Proof.Machine

/-! ## Every command answers a next state -/

theorem exec_answers (c : Instr) (s : State) : ∃ t, exec c s = .next t := by
  cases c
  case hello | getCaps | getStatus | setEventMask | loadBale | seatBale | unseatBale | unseatBaleDiscard |
    defineBay | setPeriod | rotateNow | unfence | setExhaustion | openContext | forkContext | pauseContext |
    resumeContext | closeContext | submitRequest | cancelRequest | setSamplingDefine | setSamplingDelete |
    setConvoyPolicy | openStream | closeStream | closeEncode | openEncode | defineRoute | dropRoute |
    dropRouteDone | setTimebase | defineTrack | defineTrackDelete | defineActionStream | postLaunch |
    recallLaunch | scrubRange | scrubStop | readErrorLog | retirePage | retirePageBank | retireArray | addTenant |
    removeTenant | setJobKeys | setConsent | getAttestation | pairEscortPair | pairEscortUnpair | setDeadRule |
    beginShadow | promoteEscortSwap | promoteEscortAdmit | stagePart | stagePartDiscard | activateManifest |
    getFwState | setPowerLimits | prepareRemoval | prepareRemovalAbort | doorbell | replyRingHeadWrite |
    ringEnableSet | ringEnableClear | evqEnableSet | evqHeadWrite | lineEnableWrite | tollFenceClear | flipArm |
    vfEnableClear | linkReset | timeCodeFrame | encoderFrame | recoveryPartnerTimeout | breakout | resetRelease |
    overVoltageClear | escortLinkDown => exact ⟨_, rfl⟩
  all_goals dsimp only [exec, execLoadBaleCopyDone, execSeatWritesDone, execBayEmptied, execPauseMoveDone,
    execPausedFrameMove,
    execResumeMoveDone, execScrubRun, execSlotQuarantineEnd, execJobKeyOverlapEnd, execSpdmRequest,
    execBulkTransferEnd, execShadowWindowEnd, execPlannedSwapHandover, execNorWriteDone, execTollPriorityWrite,
    execRegisterWrite, execLatchedHalfRead, execCoalesceTimeout, execFlr, execFunctionPowerStateChange,
    execHoldAssert, execHoldRelease, execReleaseDelayEnd, execStreamHoldAssert, execStreamHoldRelease,
    execInputEdge, execMilestonePulse, execBusLoss, execPtpMessage, execPtpAnnounceTimeout, execPtpSettled,
    execHoldoverLimit, execTrackStale, execMilestoneTick, execEntryExpiry, execLineMatch, execFrameRelease,
    execPulseEnd, execEthernetLinkChange, execRtpPacket, execSenderReport, execAuLaterTimeout,
    execAuFramePeriodTimeout, execPipeTake, execDecodeComplete, execFrameBudgetExpiry, execPipeRestart,
    execStreamStalled, execEncodePicture, execDetectorRunDone, execCropBatchDone, execConvoyBoundary,
    execConvoyCommit, execFlushScatterDone, execAutoSwap, execArrayFiring, execRefire, execBgCalVisit,
    execBgCalOverdue, execFullCalPass, execCalStale, execRestPeriodEnd, execHandoverLoadEnd, execTollDecision,
    execTollWatchdogFence, execContextExpired, execWatchdogBite, execKeyStoreScan, execEscortCellReceive,
    execHeartbeatSend, execMgmtHeartbeatSend, execMgmtHeartbeatReceive, execMgmtPathLoss, execDeadDeclaration,
    execSelfFence, execLinkHalf, execEscortLinkUp, execPresenceMate, execStartRailsEnable, execPowerOnReset,
    execPresenceBreak, execSlotRecordRetry, execCablePlugEvent, execSupplyDip, execDipClear, execResetAssert,
    execOverVoltageSet, execPowerSample, execThermalSample, execLadder, execPullNotice, execLatchClose,
    execLeavingCopyCovered, execRemovalReady, execPldmEffecterSet, execCoreMicrocodeHandover,
    execRecoveryFromPartner, execWatchdogRestartDone]
  all_goals
    repeat' split
    all_goals exact ⟨_, rfl⟩

/-! ## Every command but a launch keeps the queue, the launches and the fuses -/

theorem exec_keeps_or_launches {c : Instr} {s t : State} (h : exec c s = .next t) :
    s.keeps t ∨ ∃ stream sequence, c = .lineMatch stream sequence ∨ c = .frameRelease stream sequence := by
  cases c with
  | hello => exact .inl (State.keeps_of_kernel (execHello_kernel _ _ _ _ t h))
  | getCaps => exact .inl (State.keeps_of_kernel (execGetCaps_kernel _ _ t h))
  | getStatus => exact .inl (State.keeps_of_kernel (execGetStatus_kernel _ _ _ _ _ _ _ t h))
  | setEventMask => exact .inl (State.keeps_of_kernel (execSetEventMask_kernel _ _ _ t h))
  | loadBale => exact .inl (State.keeps_of_kernel (execLoadBale_kernel _ _ _ _ _ _ _ t h))
  | loadBaleCopyDone => exact .inl (State.keeps_of_kernel (execLoadBaleCopyDone_kernel _ _ _ _ t h))
  | seatBale => exact .inl (State.keeps_of_kernel (execSeatBale_kernel _ _ _ _ _ t h))
  | seatWritesDone => exact .inl (State.keeps_of_kernel (execSeatWritesDone_kernel _ _ _ t h))
  | unseatBale => exact .inl (State.keeps_of_kernel (execUnseatBale_kernel _ _ _ _ _ _ t h))
  | unseatBaleDiscard => exact .inl (State.keeps_of_kernel (execUnseatBaleDiscard_kernel _ _ _ _ _ t h))
  | bayEmptied => exact .inl (State.keeps_of_kernel (execBayEmptied_kernel _ _ t h))
  | defineBay => exact .inl (State.keeps_of_kernel (execDefineBay_kernel _ _ _ t h))
  | setPeriod => exact .inl (State.keeps_of_kernel (execSetPeriod_kernel _ _ _ t h))
  | rotateNow => exact .inl (State.keeps_of_kernel (execRotateNow_kernel _ _ t h))
  | unfence => exact .inl (State.keeps_of_kernel (execUnfence_kernel _ _ _ t h))
  | setExhaustion => exact .inl (State.keeps_of_kernel (execSetExhaustion_kernel _ _ _ t h))
  | openContext => exact .inl (State.keeps_of_kernel (execOpenContext_kernel _ _ _ t h))
  | forkContext => exact .inl (State.keeps_of_kernel (execForkContext_kernel _ _ _ _ t h))
  | pauseContext => exact .inl (State.keeps_of_kernel (execPauseContext_kernel _ _ _ _ t h))
  | pauseMoveDone => exact .inl (State.keeps_of_kernel (execPauseMoveDone_kernel _ _ t h))
  | pausedFrameMove => exact .inl (State.keeps_of_kernel (execPausedFrameMove_kernel _ _ _ t h))
  | resumeContext => exact .inl (State.keeps_of_kernel (execResumeContext_kernel _ _ _ t h))
  | resumeMoveDone => exact .inl (State.keeps_of_kernel (execResumeMoveDone_kernel _ _ t h))
  | closeContext => exact .inl (State.keeps_of_kernel (execCloseContext_kernel _ _ _ t h))
  | submitRequest => exact .inl (State.keeps_of_kernel (execSubmitRequest_kernel _ _ _ _ t h))
  | cancelRequest => exact .inl (State.keeps_of_kernel (execCancelRequest_kernel _ _ _ _ t h))
  | setSamplingDefine => exact .inl (State.keeps_of_kernel (execSetSamplingDefine_kernel _ _ _ _ t h))
  | setSamplingDelete => exact .inl (State.keeps_of_kernel (execSetSamplingDelete_kernel _ _ _ t h))
  | setConvoyPolicy => exact .inl (State.keeps_of_kernel (execSetConvoyPolicy_kernel _ _ _ t h))
  | openStream => exact .inl (State.keeps_of_kernel (execOpenStream_kernel _ _ _ t h))
  | closeStream => exact .inl (State.keeps_of_kernel (execCloseStream_kernel _ _ _ t h))
  | closeEncode => exact .inl (State.keeps_of_kernel (execCloseEncode_kernel _ _ _ t h))
  | openEncode => exact .inl (State.keeps_of_kernel (execOpenEncode_kernel _ _ _ t h))
  | defineRoute => exact .inl (State.keeps_of_kernel (execDefineRoute_kernel _ _ _ t h))
  | dropRoute => exact .inl (State.keeps_of_kernel (execDropRoute_kernel _ _ _ t h))
  | dropRouteDone => exact .inl (State.keeps_of_kernel (execDropRouteDone_kernel _ _ t h))
  | setTimebase => exact .inl (State.keeps_of_kernel (execSetTimebase_kernel _ _ _ t h))
  | defineTrack => exact .inl (State.keeps_of_kernel (execDefineTrack_kernel _ _ _ t h))
  | defineTrackDelete => exact .inl (State.keeps_of_kernel (execDefineTrackDelete_kernel _ _ _ t h))
  | defineActionStream => exact .inl (State.keeps_of_kernel (execDefineActionStream_kernel _ _ _ t h))
  | postLaunch => exact .inl (State.keeps_of_kernel (execPostLaunch_kernel _ _ _ t h))
  | recallLaunch => exact .inl (State.keeps_of_kernel (execRecallLaunch_kernel _ _ _ _ _ _ t h))
  | scrubRange => exact .inl (State.keeps_of_kernel (execScrubRange_kernel _ _ _ t h))
  | scrubStop => exact .inl (State.keeps_of_kernel (execScrubStop_kernel _ _ _ _ t h))
  | scrubRun => exact .inl (State.keeps_of_kernel (execScrubRun_kernel _ _ _ _ t h))
  | readErrorLog => exact .inl (State.keeps_of_kernel (execReadErrorLog_kernel _ _ _ _ t h))
  | retirePage => exact .inl (State.keeps_of_kernel (execRetirePage_kernel _ _ _ t h))
  | retirePageBank => exact .inl (State.keeps_of_kernel (execRetirePageBank_kernel _ _ _ t h))
  | retireArray => exact .inl (State.keeps_of_kernel (execRetireArray_kernel _ _ _ _ _ t h))
  | addTenant => exact .inl (State.keeps_of_kernel (execAddTenant_kernel _ _ _ _ _ _ t h))
  | removeTenant => exact .inl (State.keeps_of_kernel (execRemoveTenant_kernel _ _ _ _ t h))
  | slotQuarantineEnd => exact .inl (State.keeps_of_kernel (execSlotQuarantineEnd_kernel _ _ _ t h))
  | setJobKeys => exact .inl (State.keeps_of_kernel (execSetJobKeys_kernel _ _ _ _ t h))
  | jobKeyOverlapEnd => exact .inl (State.keeps_of_kernel (execJobKeyOverlapEnd_kernel _ _ t h))
  | setConsent => exact .inl (State.keeps_of_kernel (execSetConsent_kernel _ _ _ t h))
  | getAttestation => exact .inl (State.keeps_of_kernel (execGetAttestation_kernel _ _ _ t h))
  | spdmRequest => exact .inl (State.keeps_of_kernel (execSpdmRequest_kernel _ _ t h))
  | pairEscortPair => exact .inl (State.keeps_of_kernel (execPairEscortPair_kernel _ _ _ _ _ _ _ _ _ _ _ t h))
  | pairEscortUnpair => exact .inl (State.keeps_of_kernel (execPairEscortUnpair_kernel _ _ t h))
  | setDeadRule => exact .inl (State.keeps_of_kernel (execSetDeadRule_kernel _ _ _ _ _ t h))
  | beginShadow => exact .inl (State.keeps_of_kernel (execBeginShadow_kernel _ _ _ t h))
  | bulkTransferEnd => exact .inl (State.keeps_of_kernel (execBulkTransferEnd_kernel _ t h))
  | shadowWindowEnd => exact .inl (State.keeps_of_kernel (execShadowWindowEnd_kernel _ _ _ _ _ t h))
  | promoteEscortSwap => exact .inl (State.keeps_of_kernel (execPromoteEscortSwap_kernel _ _ t h))
  | plannedSwapHandover => exact .inl (State.keeps_of_kernel (execPlannedSwapHandover_kernel _ t h))
  | promoteEscortAdmit => exact .inl (State.keeps_of_kernel (execPromoteEscortAdmit_kernel _ _ t h))
  | stagePart => exact .inl (State.keeps_of_kernel (execStagePart_kernel _ _ _ _ t h))
  | stagePartDiscard => exact .inl (State.keeps_of_kernel (execStagePartDiscard_kernel _ _ _ t h))
  | activateManifest => exact .inl (execActivateManifest_keeps _ _ _ _ t h)
  | norWriteDone => exact .inl (State.keeps_of_kernel (execNorWriteDone_kernel _ t h))
  | getFwState => exact .inl (State.keeps_of_kernel (execGetFwState_kernel _ _ t h))
  | setPowerLimits => exact .inl (State.keeps_of_kernel (execSetPowerLimits_kernel _ _ _ _ _ t h))
  | prepareRemoval => exact .inl (State.keeps_of_kernel (execPrepareRemoval_kernel _ _ _ t h))
  | prepareRemovalAbort => exact .inl (State.keeps_of_kernel (execPrepareRemovalAbort_kernel _ _ t h))
  | doorbell => exact .inl (State.keeps_of_kernel (execDoorbell_kernel _ _ _ _ _ _ t h))
  | replyRingHeadWrite => exact .inl (State.keeps_of_kernel (execReplyRingHeadWrite_kernel _ _ _ _ t h))
  | ringEnableSet => exact .inl (State.keeps_of_kernel (execRingEnableSet_kernel _ _ _ t h))
  | ringEnableClear => exact .inl (State.keeps_of_kernel (execRingEnableClear_kernel _ _ _ t h))
  | evqEnableSet => exact .inl (State.keeps_of_kernel (execEvqEnableSet_kernel _ _ t h))
  | evqHeadWrite => exact .inl (State.keeps_of_kernel (execEvqHeadWrite_kernel _ _ _ t h))
  | lineEnableWrite => exact .inl (State.keeps_of_kernel (execLineEnableWrite_kernel _ _ t h))
  | tollPriorityWrite => exact .inl (State.keeps_of_kernel (execTollPriorityWrite_kernel _ _ _ _ t h))
  | tollFenceClear => exact .inl (State.keeps_of_kernel (execTollFenceClear_kernel _ _ t h))
  | flipArm => exact .inl (State.keeps_of_kernel (execFlipArm_kernel _ t h))
  | registerWrite => exact .inl (State.keeps_of_kernel (execRegisterWrite_kernel _ _ _ _ _ t h))
  | latchedHalfRead => exact .inl (State.keeps_of_kernel (execLatchedHalfRead_kernel _ _ _ t h))
  | coalesceTimeout => exact .inl (State.keeps_of_kernel (execCoalesceTimeout_kernel _ _ _ t h))
  | flr => exact .inl (State.keeps_of_kernel (execFlr_kernel _ _ t h))
  | vfEnableClear => exact .inl (State.keeps_of_kernel (execVfEnableClear_kernel _ _ t h))
  | linkReset => exact .inl (State.keeps_of_kernel (execLinkReset_kernel _ t h))
  | functionPowerStateChange => exact .inl (State.keeps_of_kernel (execFunctionPowerStateChange_kernel _ _ _ _ t h))
  | holdAssert => exact .inl (State.keeps_of_kernel (execHoldAssert_kernel _ t h))
  | holdRelease => exact .inl (State.keeps_of_kernel (execHoldRelease_kernel _ t h))
  | releaseDelayEnd => exact .inl (State.keeps_of_kernel (execReleaseDelayEnd_kernel _ _ t h))
  | streamHoldAssert => exact .inl (State.keeps_of_kernel (execStreamHoldAssert_kernel _ _ t h))
  | streamHoldRelease => exact .inl (State.keeps_of_kernel (execStreamHoldRelease_kernel _ _ t h))
  | inputEdge => exact .inl (State.keeps_of_kernel (execInputEdge_kernel _ _ _ _ t h))
  | milestonePulse => exact .inl (State.keeps_of_kernel (execMilestonePulse_kernel _ _ t h))
  | timeCodeFrame => exact .inl (State.keeps_of_kernel (execTimeCodeFrame_kernel _ _ t h))
  | busLoss => exact .inl (State.keeps_of_kernel (execBusLoss_kernel _ _ t h))
  | ptpMessage => exact .inl (State.keeps_of_kernel (execPtpMessage_kernel _ _ t h))
  | ptpAnnounceTimeout => exact .inl (State.keeps_of_kernel (execPtpAnnounceTimeout_kernel _ t h))
  | ptpSettled => exact .inl (State.keeps_of_kernel (execPtpSettled_kernel _ t h))
  | holdoverLimit => exact .inl (State.keeps_of_kernel (execHoldoverLimit_kernel _ t h))
  | encoderFrame => exact .inl (State.keeps_of_kernel (execEncoderFrame_kernel _ _ _ t h))
  | trackStale => exact .inl (State.keeps_of_kernel (execTrackStale_kernel _ _ t h))
  | milestoneTick => exact .inl (State.keeps_of_kernel (execMilestoneTick_kernel _ t h))
  | entryExpiry => exact .inl (State.keeps_of_kernel (execEntryExpiry_kernel _ _ _ t h))
  | lineMatch stream sequence => exact .inr ⟨stream, sequence, .inl rfl⟩
  | frameRelease stream sequence => exact .inr ⟨stream, sequence, .inr rfl⟩
  | pulseEnd => exact .inl (State.keeps_of_kernel (execPulseEnd_kernel _ _ _ t h))
  | ethernetLinkChange => exact .inl (State.keeps_of_kernel (execEthernetLinkChange_kernel _ _ _ t h))
  | rtpPacket => exact .inl (State.keeps_of_kernel (execRtpPacket_kernel _ _ t h))
  | senderReport => exact .inl (State.keeps_of_kernel (execSenderReport_kernel _ _ t h))
  | auLaterTimeout => exact .inl (State.keeps_of_kernel (execAuLaterTimeout_kernel _ _ t h))
  | auFramePeriodTimeout => exact .inl (State.keeps_of_kernel (execAuFramePeriodTimeout_kernel _ _ t h))
  | pipeTake => exact .inl (State.keeps_of_kernel (execPipeTake_kernel _ _ t h))
  | decodeComplete => exact .inl (State.keeps_of_kernel (execDecodeComplete_kernel _ _ _ t h))
  | frameBudgetExpiry => exact .inl (State.keeps_of_kernel (execFrameBudgetExpiry_kernel _ _ t h))
  | pipeRestart => exact .inl (State.keeps_of_kernel (execPipeRestart_kernel _ _ _ _ _ t h))
  | streamStalled => exact .inl (State.keeps_of_kernel (execStreamStalled_kernel _ _ t h))
  | encodePicture => exact .inl (State.keeps_of_kernel (execEncodePicture_kernel _ _ _ _ _ t h))
  | detectorRunDone => exact .inl (State.keeps_of_kernel (execDetectorRunDone_kernel _ _ _ _ _ _ t h))
  | cropBatchDone => exact .inl (State.keeps_of_kernel (execCropBatchDone_kernel _ t h))
  | convoyBoundary => exact .inl (State.keeps_of_kernel (execConvoyBoundary_kernel _ _ _ t h))
  | convoyCommit => exact .inl (State.keeps_of_kernel (execConvoyCommit_kernel _ _ _ t h))
  | flushScatterDone => exact .inl (State.keeps_of_kernel (execFlushScatterDone_kernel _ _ t h))
  | autoSwap => exact .inl (State.keeps_of_kernel (execAutoSwap_kernel _ _ t h))
  | arrayFiring => exact .inl (State.keeps_of_kernel (execArrayFiring_kernel _ _ t h))
  | refire => exact .inl (State.keeps_of_kernel (execRefire_kernel _ _ _ _ t h))
  | bgCalVisit => exact .inl (State.keeps_of_kernel (execBgCalVisit_kernel _ _ _ _ _ _ t h))
  | bgCalOverdue => exact .inl (State.keeps_of_kernel (execBgCalOverdue_kernel _ _ t h))
  | fullCalPass => exact .inl (State.keeps_of_kernel (execFullCalPass_kernel _ _ _ t h))
  | calStale => exact .inl (State.keeps_of_kernel (execCalStale_kernel _ _ t h))
  | restPeriodEnd => exact .inl (State.keeps_of_kernel (execRestPeriodEnd_kernel _ t h))
  | handoverLoadEnd => exact .inl (State.keeps_of_kernel (execHandoverLoadEnd_kernel _ _ _ t h))
  | tollDecision => exact .inl (State.keeps_of_kernel (execTollDecision_kernel _ _ _ _ _ t h))
  | tollWatchdogFence => exact .inl (State.keeps_of_kernel (execTollWatchdogFence_kernel _ _ _ t h))
  | contextExpired => exact .inl (State.keeps_of_kernel (execContextExpired_kernel _ _ t h))
  | watchdogBite => exact .inl (State.keeps_of_kernel (execWatchdogBite_kernel _ _ _ _ t h))
  | keyStoreScan oneCopy => exact .inl (State.keeps_of_kernel (execKeyStoreScan_kernel oneCopy _ _ _ _ t h))
  | escortCellReceive => exact .inl (State.keeps_of_kernel (execEscortCellReceive_kernel _ _ t h))
  | heartbeatSend => exact .inl (State.keeps_of_kernel (execHeartbeatSend_kernel _ t h))
  | mgmtHeartbeatSend => exact .inl (State.keeps_of_kernel (execMgmtHeartbeatSend_kernel _ t h))
  | mgmtHeartbeatReceive => exact .inl (State.keeps_of_kernel (execMgmtHeartbeatReceive_kernel _ _ t h))
  | mgmtPathLoss => exact .inl (State.keeps_of_kernel (execMgmtPathLoss_kernel _ t h))
  | deadDeclaration => exact .inl (State.keeps_of_kernel (execDeadDeclaration_kernel _ t h))
  | selfFence => exact .inl (State.keeps_of_kernel (execSelfFence_kernel _ t h))
  | linkHalf => exact .inl (State.keeps_of_kernel (execLinkHalf_kernel _ _ t h))
  | escortLinkUp => exact .inl (State.keeps_of_kernel (execEscortLinkUp_kernel _ _ _ _ _ _ t h))
  | presenceMate => exact .inl (State.keeps_of_kernel (execPresenceMate_kernel _ _ _ t h))
  | startRailsEnable => exact .inl (State.keeps_of_kernel (execStartRailsEnable_kernel _ t h))
  | powerOnReset => exact .inl (execPowerOnReset_keeps _ _ t h)
  | recoveryPartnerTimeout => exact .inl (State.keeps_of_kernel (execRecoveryPartnerTimeout_kernel _ t h))
  | presenceBreak => exact .inl (State.keeps_of_kernel (execPresenceBreak_kernel _ t h))
  | slotRecordRetry => exact .inl (State.keeps_of_kernel (execSlotRecordRetry_kernel _ _ t h))
  | breakout => exact .inl (State.keeps_of_kernel (execBreakout_kernel _ _ t h))
  | cablePlugEvent => exact .inl (State.keeps_of_kernel (execCablePlugEvent_kernel _ _ _ _ _ t h))
  | supplyDip => exact .inl (State.keeps_of_kernel (execSupplyDip_kernel _ _ t h))
  | dipClear => exact .inl (State.keeps_of_kernel (execDipClear_kernel _ _ t h))
  | resetAssert => exact .inl (State.keeps_of_kernel (execResetAssert_kernel _ t h))
  | resetRelease => exact .inl (State.keeps_of_kernel (execResetRelease_kernel _ t h))
  | overVoltageSet => exact .inl (State.keeps_of_kernel (execOverVoltageSet_kernel _ t h))
  | overVoltageClear => exact .inl (State.keeps_of_kernel (execOverVoltageClear_kernel _ t h))
  | powerSample => exact .inl (State.keeps_of_kernel (execPowerSample_kernel _ _ _ _ t h))
  | thermalSample => exact .inl (State.keeps_of_kernel (execThermalSample_kernel _ _ _ _ _ t h))
  | ladder => exact .inl (State.keeps_of_kernel (execLadder_kernel _ _ t h))
  | pullNotice => exact .inl (State.keeps_of_kernel (execPullNotice_kernel _ t h))
  | latchClose => exact .inl (State.keeps_of_kernel (execLatchClose_kernel _ t h))
  | leavingCopyCovered => exact .inl (State.keeps_of_kernel (execLeavingCopyCovered_kernel _ t h))
  | removalReady => exact .inl (State.keeps_of_kernel (execRemovalReady_kernel _ t h))
  | pldmEffecterSet => exact .inl (State.keeps_of_kernel (execPldmEffecterSet_kernel _ _ _ t h))
  | escortLinkDown => exact .inl (State.keeps_of_kernel (execEscortLinkDown_kernel _ t h))
  | coreMicrocodeHandover => exact .inl (State.keeps_of_kernel (execCoreMicrocodeHandover_kernel _ _ t h))
  | recoveryFromPartner => exact .inl (execRecoveryFromPartner_keeps _ _ t h)
  | watchdogRestartDone => exact .inl (State.keeps_of_kernel (execWatchdogRestartDone_kernel _ _ _ t h))

theorem exec_keeps_fuses {c : Instr} {s t : State} (h : exec c s = .next t) :
    t.pending = s.pending ∧ s.fuses.keptBy t.fuses := by
  obtain ⟨hq, -, hf⟩ | ⟨stream, sequence, rfl | rfl⟩ := exec_keeps_or_launches h
  · exact ⟨hq, hf⟩
  · obtain ⟨hf, hq⟩ := execLineMatch_fuses stream sequence s t h
    exact ⟨hq, hf ▸ Fuses.keptBy_refl _⟩
  · obtain ⟨hf, hq⟩ := execFrameRelease_fuses stream sequence s t h
    exact ⟨hq, hf ▸ Fuses.keptBy_refl _⟩

theorem exec_keeps_of_mayNotLaunch {c : Instr} {s t : State} (hheld : s.mayNotLaunch) (h : exec c s = .next t) :
    s.keeps t := by
  obtain hk | ⟨stream, sequence, rfl | rfl⟩ := exec_keeps_or_launches h
  · exact hk
  · exact State.keeps_of_kernel (execLineMatch_held stream sequence s t hheld h)
  · exact State.keeps_of_kernel (execFrameRelease_held stream sequence s t hheld h)

/-! ## One step -/

theorem step_of_pending {s : State} {c : Instr} {q : List Instr} (h : s.pending = c :: q) :
    step s = exec c { s with pending := q } := by
  simp only [step, h]

theorem step_of_idle {s : State} (h : s.pending = []) : step s = .next s.tick := by
  simp only [step, h]

/-- A step is a tick of an empty queue or the front command on the rest of the queue. -/
theorem step_cases {s t : State} (h : step s = .next t) :
    (s.pending = [] ∧ t = s.tick) ∨
      ∃ c q, s.pending = c :: q ∧ exec c { s with pending := q } = .next t := by
  cases hq : s.pending with
  | nil => exact .inl ⟨rfl, (Host.Outcome.next.inj ((step_of_idle hq).symm.trans h)).symm⟩
  | cons c q => exact .inr ⟨c, q, rfl, (step_of_pending hq).symm.trans h⟩

theorem State.tick_of_nothing_unfetched {s : State} (h : ∀ p ∈ s.host.rings, p.2.unfetched = []) :
    s.tick = s.idle := by
  have hnone : (s.idle.host.rings.filter fun p => !p.2.unfetched.isEmpty) = [] :=
    List.filter_eq_nil_iff.2 fun p hp => by simp [h p hp]
  simp only [State.tick, State.fetchAll, hnone, List.foldl_nil]

/-- Settles O1: `step` looks at the front of the queue alone. -/
theorem stepRunsFront : Obligations.StepRunsFront := by
  unfold Obligations.StepRunsFront
  exact fun c q s => step_of_pending rfl

/-- Settles O2: with nothing to fetch a tick is `State.idle`, and every arm of `exec` ends in a next state. -/
theorem everyStepAnswers : Obligations.EveryStepAnswers := by
  unfold Obligations.EveryStepAnswers
  refine ⟨fun s hq hf => ?_, exec_answers⟩
  rw [step_of_idle hq, State.tick_of_nothing_unfetched hf]
  rfl

/-- Settles O3: a tick and a command both leave the queue they run on. -/
theorem queueIsTheSenders : Obligations.QueueIsTheSenders := by
  unfold Obligations.QueueIsTheSenders
  intro s t h
  obtain ⟨hq, rfl⟩ | ⟨c, q, hq, hexec⟩ := step_cases h
  · obtain ⟨-, hp, -⟩ := State.kernel_parts s.tick_kernel
    rw [hp, hq, List.tail_nil]
  · rw [(exec_keeps_fuses hexec).1, hq, List.tail_cons]

theorem Fuses.keptBy_trans {f g k : Fuses} (hfg : f.keptBy g) (hgk : g.keptBy k) : f.keptBy k := by
  obtain ⟨hr, hd, hl, hi, hn, hle⟩ := hfg
  obtain ⟨hr', hd', hl', hi', hn', hle'⟩ := hgk
  exact ⟨hr'.trans hr, hd'.trans hd, hl'.trans hl, hi'.trans hi, hn'.trans hn, fun i => (hle i).trans (hle' i)⟩

theorem step_keeps_fuses {s t : State} (h : step s = .next t) : s.fuses.keptBy t.fuses := by
  obtain ⟨-, rfl⟩ | ⟨c, q, -, hexec⟩ := step_cases h
  · exact (State.keeps_of_kernel s.tick_kernel).2.2
  · exact (exec_keeps_fuses hexec).2

/-- Settles O4: what a step keeps of the fuses is transitive. -/
theorem fusesSurviveEveryStep : Obligations.FusesSurviveEveryStep := by
  unfold Obligations.FusesSurviveEveryStep
  exact fun f s t hf h => Fuses.keptBy_trans hf (step_keeps_fuses h)

/-- Settles O5: the fuses at reset are those as shipped. -/
theorem fusesAtReset : Obligations.FusesAtReset := by
  unfold Obligations.FusesAtReset
  exact ⟨Fuses.keptBy_refl _, rfl, rfl⟩

/-- Settles O6: the two commands that launch answer without launching where the module may not, and no other command
launches at all. -/
theorem noLaunchWhileHeld : Obligations.NoLaunchWhileHeld := by
  unfold Obligations.NoLaunchWhileHeld
  exact fun c s t hheld h => (exec_keeps_of_mayNotLaunch hheld h).2.1

/-- Settles O7: each register is read off the state at reset. -/
theorem registersAtReset : Obligations.RegistersAtReset := by
  unfold Obligations.RegistersAtReset
  decide

end Sys2Proof.Machine
end

section
/-! Tables, and the frame that replies, events and the copy to the partner share: what they leave as it was. -/

namespace Sys2Proof.Machine

/-! ## Tables -/

theorem Map.get?_set_ne {α : Type} (m : Map α) {k j : Nat} (v : α) (h : j ≠ k) :
    Map.get? (Map.set m k v) j = Map.get? m j := by
  induction m with
  | nil => simp [Map.set, Map.get?, h.symm]
  | cons p r ih =>
    obtain ⟨i, w⟩ := p
    unfold Map.set
    split_ifs with hlt heq
    · simp [Map.get?, h.symm]
    · subst heq
      simp [Map.get?, h.symm]
    · by_cases hi : i = j <;> simp [Map.get?, hi, ih]

theorem Map.get?_set {α : Type} (m : Map α) (k j : Nat) (v : α) :
    Map.get? (Map.set m k v) j = if j = k then some v else Map.get? m j := by
  split_ifs with h
  · rw [h, Map.get?_set_self]
  · exact Map.get?_set_ne m v h

/-! ## The frame of replies, events and host writes -/

/-- The state with the host link and what has left the module blanked. -/
def State.inside (s : State) : State := { s with host := HostLink.reset, out := [] }

@[simp] theorem State.emit_inside (s : State) (o : Output) : (s.emit o).inside = s.inside := rfl

@[simp] theorem State.setFn_inside (s : State) (fn : Nat) (f : FnState) : (s.setFn fn f).inside = s.inside := rfl

@[simp] theorem State.setRing_inside (s : State) (fn ring : Nat) (p : RingPair) :
    (s.setRing fn ring p).inside = s.inside := rfl

/-- What every step of a fold keeps, the fold keeps. -/
theorem foldl_keeps {σ α β : Type} (p : σ → β) (f : σ → α → σ) (l : List α) (s : σ)
    (h : ∀ s x, p (f s x) = p s) : p (l.foldl f s) = p s := by
  induction l generalizing s with
  | nil => rfl
  | cons a l ih => rw [List.foldl_cons, ih, h]

@[simp] theorem State.event_inside (s : State) (fn code object detail : Nat) :
    (s.event fn code object detail).inside = s.inside := by
  unfold State.event
  dsimp only
  split_ifs <;> rfl

@[simp] theorem State.event2_inside (s : State) (tenant code object detail : Nat) :
    (s.event2 tenant code object detail).inside = s.inside := by
  unfold State.event2
  dsimp only
  split_ifs <;> simp

@[simp] theorem State.putReply_inside (s : State) (fn ring : Nat) (r : Reply) :
    (s.putReply fn ring r).inside = s.inside := by
  unfold State.putReply
  dsimp only
  split_ifs <;> rfl

@[simp] theorem State.sendReply_inside (s : State) (fn ring session : Nat) (r : Reply) :
    (s.sendReply fn ring session r).inside = s.inside := by
  unfold State.sendReply
  dsimp only
  split_ifs <;> simp

@[simp] theorem State.retireTag_inside (s : State) (c : CmdRef) : (s.retireTag c).inside = s.inside := by
  unfold State.retireTag
  dsimp only
  split_ifs <;> rfl

@[simp] theorem State.markAccepted_inside (s : State) (c : CmdRef) : (s.markAccepted c).inside = s.inside := by
  unfold State.markAccepted
  dsimp only
  split_ifs <;> rfl

@[simp] theorem State.reply_inside (s : State) (c : CmdRef) (status result0 result1 : Nat) :
    (s.reply c status result0 result1).inside = s.inside := by
  unfold State.reply
  split_ifs <;> simp

@[simp] theorem State.accept_inside (s : State) (c : CmdRef) (result0 result1 : Nat) :
    (s.accept c result0 result1).inside = s.inside := by
  unfold State.accept
  split_ifs <;> simp

@[simp] theorem State.emitPayload_inside (s : State) (fn : Nat) (ws : List (Nat × List Byte)) :
    (s.emitPayload fn ws).inside = s.inside :=
  foldl_keeps State.inside _ _ _ fun _ _ => rfl

@[simp] theorem State.writePayload_inside (s : State) (fn : Nat) (spans : List (Nat × Nat)) (off : Nat)
    (bytes : List Byte) : (s.writePayload fn spans off bytes).inside = s.inside := by
  unfold State.writePayload
  dsimp only
  split_ifs <;> simp

@[simp] theorem State.writeRecord_inside (s : State) (fn base producer : Nat) (place : Nat × Nat × Nat) (r : RingRec) :
    (s.writeRecord fn base producer place r).inside = s.inside := by
  unfold State.writeRecord
  dsimp only
  split_ifs <;> rfl

/-! ## The frame of the copy to the partner and of the counters -/

/-- The state with the host link, what has left the module, the escort, the counters and the free values blanked. -/
def State.trunk (s : State) : State := { s.inside with escort := Escort.reset s.persist, stats := [], free := 0 }

theorem State.trunk_eq_of_inside {s t : State} (h : t.inside = s.inside) : t.trunk = s.trunk := by
  show ({ t.inside with escort := Escort.reset t.inside.persist, stats := [], free := 0 } : State) = _
  rw [h]
  rfl

@[simp] theorem State.event_trunk (s : State) (fn code object detail : Nat) :
    (s.event fn code object detail).trunk = s.trunk := State.trunk_eq_of_inside (s.event_inside ..)

@[simp] theorem State.event2_trunk (s : State) (tenant code object detail : Nat) :
    (s.event2 tenant code object detail).trunk = s.trunk := State.trunk_eq_of_inside (s.event2_inside ..)

@[simp] theorem State.reply_trunk (s : State) (c : CmdRef) (status result0 result1 : Nat) :
    (s.reply c status result0 result1).trunk = s.trunk := State.trunk_eq_of_inside (s.reply_inside ..)

@[simp] theorem State.accept_trunk (s : State) (c : CmdRef) (result0 result1 : Nat) :
    (s.accept c result0 result1).trunk = s.trunk := State.trunk_eq_of_inside (s.accept_inside ..)

@[simp] theorem State.count_trunk (s : State) (sel a b c d off n : Nat) :
    (s.count sel a b c d off n).trunk = s.trunk := by
  unfold State.count
  dsimp only
  split_ifs
  · exact State.event_trunk _ _ _ _ _
  · rfl

@[simp] theorem State.setPair_trunk (s : State) (role health reason : Nat) :
    (s.setPair role health reason).trunk = s.trunk := by
  unfold State.setPair
  split
  · rfl
  · exact State.event_trunk ..

@[simp] theorem State.pairAlone_trunk (s : State) : s.pairAlone.trunk = s.trunk := by
  unfold State.pairAlone
  extract_lets e s₁ s₂ s₃
  have h₂ : s₂.trunk = s₁.trunk := foldl_keeps State.trunk _ _ _ fun _ _ => State.reply_trunk ..
  have h₃ : s₃.trunk = s₂.trunk := by
    dsimp only [s₃]
    split
    · exact State.reply_trunk ..
    · rfl
  rw [State.setPair_trunk, h₃, h₂]
  rfl

@[simp] theorem State.sendRec_trunk (s : State) (r : CopyRec) (bytes : Nat) : (s.sendRec r bytes).trunk = s.trunk := by
  unfold State.sendRec
  dsimp only
  split_ifs
  · rfl
  · exact s.pairAlone_trunk
  · rfl
  · rfl

end Sys2Proof.Machine
end

section
/-! The end of a ledger entry (R225, R229, R240): what it leaves of the launch unit, and the order of SEQUENCE. -/

namespace Sys2Proof.Machine

/-! ## What an outcome does to the launch unit -/

theorem State.mls_of_inside {s t : State} (h : t.inside = s.inside) : t.mls = s.mls := (congrArg State.mls h :)

theorem State.mls_of_trunk {s t : State} (h : t.trunk = s.trunk) : t.mls = s.mls := (congrArg State.mls h :)

/-- The trunk with the action streams blanked: what an outcome record leaves as it was. -/
def State.stem (s : State) : State := { s.trunk with mls := { s.mls with streams := [] } }

theorem State.stem_eq_of_trunk {s t : State} (h : t.trunk = s.trunk) : t.stem = s.stem := by
  unfold State.stem
  rw [h, State.mls_of_trunk h]

@[simp] theorem State.hostConsumer_stem (s : State) (n : Nat) : (s.hostConsumer n).2.stem = s.stem := rfl

@[simp] theorem State.setStream_stem (s : State) (n : Nat) (x : ActionStream) : (s.setStream n x).stem = s.stem := rfl

@[simp] theorem State.count_stem (s : State) (sel a b c d off n : Nat) : (s.count sel a b c d off n).stem = s.stem :=
  State.stem_eq_of_trunk (s.count_trunk ..)

@[simp] theorem State.reply_stem (s : State) (c : CmdRef) (status result0 result1 : Nat) :
    (s.reply c status result0 result1).stem = s.stem := State.stem_eq_of_trunk (s.reply_trunk ..)

@[simp] theorem State.sendRec_stem (s : State) (r : CopyRec) (bytes : Nat) : (s.sendRec r bytes).stem = s.stem :=
  State.stem_eq_of_trunk (s.sendRec_trunk ..)

@[simp] theorem State.writeRecord_stem (s : State) (fn base producer : Nat) (place : Nat × Nat × Nat) (r : RingRec) :
    (s.writeRecord fn base producer place r).stem = s.stem :=
  State.stem_eq_of_trunk (State.trunk_eq_of_inside (s.writeRecord_inside ..))

@[simp] theorem State.writeOutcome_stem (s : State) (e : LedgerEntry) (code : Nat) :
    (s.writeOutcome e code).stem = s.stem := by
  unfold State.writeOutcome
  dsimp only
  split
  · rfl
  · split
    · rfl
    · split
      · simp
      · split <;> simp

/-- A stream and sequence name the entry `e`. -/
def namesEntry (e : LedgerEntry) (stream sequence : Nat) : Bool := stream = e.stream && sequence = e.sequence

theorem namesEntry_iff (e : LedgerEntry) (stream sequence : Nat) :
    namesEntry e stream sequence = true ↔ stream = e.stream ∧ sequence = e.sequence := by
  simp [namesEntry]

/-- The launch unit without an entry: it leaves the ledger, the slots and the queues. -/
def Milestone.dropEntry (m : Milestone) (e : LedgerEntry) (code : Nat) : Milestone :=
  { m with
    ledger := m.ledger.filter fun x => !namesEntry e x.stream x.sequence
    slots := m.slots.filter fun x => !namesEntry e x.2.1 x.2.2
    egress := m.egress.filter fun x => !namesEntry e x.2.1 x.2.2
    launched := if code ≤ 1 then m.launched ++ [(e.stream, e.sequence, e.request)] else m.launched }

/-- The end of an entry drops it; what is written of it touches the stem nowhere. -/
theorem State.endEntry_stem (s : State) (e : LedgerEntry) (code : Nat) :
    (s.endEntry e code).stem = ({ s with mls := s.mls.dropEntry e code } : State).stem := by
  unfold State.endEntry
  simp only [apply_ite State.stem, reply_stem, sendRec_stem, writeOutcome_stem, count_stem, ite_self]
  rfl

theorem State.endEntry_mls (s : State) (e : LedgerEntry) (code : Nat) :
    (s.endEntry e code).mls =
      { s.mls.dropEntry e code with streams := (s.endEntry e code).mls.streams } := by
  have h : { (s.endEntry e code).mls with streams := [] } = { s.mls.dropEntry e code with streams := [] } :=
    (congrArg State.mls (s.endEntry_stem e code) :)
  calc (s.endEntry e code).mls
      = { ({ (s.endEntry e code).mls with streams := [] } : Milestone) with
          streams := (s.endEntry e code).mls.streams } := rfl
    _ = _ := by rw [h]

@[simp] theorem State.endEntry_ledger (s : State) (e : LedgerEntry) (code : Nat) :
    (s.endEntry e code).mls.ledger = s.mls.ledger.filter fun x => !namesEntry e x.stream x.sequence := by
  rw [State.endEntry_mls]
  rfl

@[simp] theorem State.endEntry_slots (s : State) (e : LedgerEntry) (code : Nat) :
    (s.endEntry e code).mls.slots = s.mls.slots.filter fun x => !namesEntry e x.2.1 x.2.2 := by
  rw [State.endEntry_mls]
  rfl

@[simp] theorem State.endEntry_egress (s : State) (e : LedgerEntry) (code : Nat) :
    (s.endEntry e code).mls.egress = s.mls.egress.filter fun x => !namesEntry e x.2.1 x.2.2 := by
  rw [State.endEntry_mls]
  rfl

/-! ## SEQUENCE -/

theorem serialNewer_iff (a b : Nat) :
    serialNewer a b = true ↔ 1 ≤ (a + 2 ^ 32 - b) % 2 ^ 32 ∧ (a + 2 ^ 32 - b) % 2 ^ 32 ≤ 2 ^ 31 - 1 := by
  simp [serialNewer, within]

/-- The SEQUENCE after one in range is in range, is the next number but at the end of the range, and is newer. -/
theorem nextSequence_spec {q : Nat} (hlo : 1 ≤ q) (hhi : q < 2 ^ 32) :
    1 ≤ nextSequence q ∧ nextSequence q < 2 ^ 32 ∧ nextSequence q = (if q = 0xFFFFFFFF then 1 else q + 1) ∧
      serialNewer (nextSequence q) q = true := by
  rw [serialNewer_iff]
  unfold nextSequence
  split_ifs <;> omega

/-- Serial order of two 32-bit numbers is the sign of their difference. -/
theorem serialNewer_toNat_iff (a b : BitVec 32) :
    serialNewer a.toNat b.toNat = true ↔ 1 ≤ (a - b).toNat ∧ (a - b).toNat ≤ 2 ^ 31 - 1 := by
  have hdiff : (a - b).toNat = (a.toNat + 2 ^ 32 - b.toNat) % 2 ^ 32 := by
    rw [BitVec.toNat_sub]
    have hb := b.isLt
    omega
  rw [serialNewer_iff, hdiff]

/-- Settles O14: the end of an entry filters its place from the three lists. -/
theorem outcomesAndSequences : Obligations.OutcomesAndSequences := by
  unfold Obligations.OutcomesAndSequences
  refine ⟨fun s e code => ?_, fun q hlo hhi => nextSequence_spec hlo hhi, serialNewer_toNat_iff⟩
  simp only [State.entry, State.endEntry_ledger, State.endEntry_slots, State.endEntry_egress]
  refine ⟨?_, fun x hx hnamed => ?_, fun x hx hnamed => ?_, fun stream seq hother => ?_⟩
  · simp only [List.find?_filter, List.find?_eq_none]
    intro x _
    simp only [namesEntry, Bool.not_eq_true', Bool.and_eq_false_iff, decide_eq_false_iff_not, Bool.and_eq_true,
      decide_eq_true_eq]
    tauto
  · simpa [(namesEntry_iff e _ _).2 hnamed] using (List.mem_filter.1 hx).2
  · simpa [(namesEntry_iff e _ _).2 hnamed] using (List.mem_filter.1 hx).2
  · rw [List.find?_filter]
    congr 1
    funext x
    by_cases hx : x.stream = stream ∧ x.sequence = seq
    · obtain ⟨rfl, rfl⟩ := hx
      have hkept : namesEntry e x.stream x.sequence = false := by
        rw [Bool.eq_false_iff, ne_eq, namesEntry_iff]
        tauto
      simp [hkept]
    · have hno : (x.stream = stream && x.sequence = seq : Bool) = false := by simpa using hx
      simp [hno]

/-! ## HOLD_n falls (R236) -/

/-- What the sixteen lines' levels are read from. -/
def Milestone.levels (m : Milestone) : Bool × List Pulse × List (Nat × Nat) := (m.hold, m.pulses, m.setLines)

theorem State.endEntry_levels (s : State) (e : LedgerEntry) (code : Nat) :
    (s.endEntry e code).mls.levels = s.mls.levels := by
  rw [State.endEntry_mls]
  rfl

theorem State.mlsRaise_levels (s : State) (bits : Nat) : (s.mlsRaise bits).mls.levels = s.mls.levels := by
  unfold State.mlsRaise
  dsimp only
  split_ifs
  · rfl
  · rw [State.mls_of_trunk (State.event_trunk ..)]
    rfl

theorem State.emitFalls_mls (s : State) (before : List Nat) (t16 : Nat) : (s.emitFalls before t16).mls = s.mls :=
  State.mls_of_inside (foldl_keeps State.inside _ _ _ fun _ _ => rfl)

/-- After a cut no pulse holds a line that was cut, and none of them is set. -/
theorem State.cutLines_levels (s : State) (ls : List Nat) :
    ∃ pulses setLines, (s.cutLines ls).mls.levels = (s.mls.hold, pulses, setLines) ∧
      (∀ p ∈ pulses, ∀ l ∈ ls, l ∉ p.lines) ∧ (∀ x ∈ setLines, x.1 ∉ ls) := by
  unfold State.cutLines
  extract_lets before cut m s₁ s₂
  have hfold : ∀ (l : List Pulse) (t : State),
      (l.foldl (fun s p => s.endEntry p.entry 1) t).mls.levels = t.mls.levels := fun l t =>
    foldl_keeps (fun s : State => s.mls.levels) _ l t fun s p => s.endEntry_levels p.entry 1
  have h₂ : s₂.mls = s₁.mls := s₁.emitFalls_mls before _
  refine ⟨s₁.mls.pulses, s₁.mls.setLines, by rw [hfold, h₂]; rfl, fun p hp l hl => ?_, fun x hx => ?_⟩
  · obtain ⟨hcut, -⟩ := List.mem_filter.1 hp
    obtain ⟨q, -, rfl⟩ := List.mem_map.1 hcut
    by_cases hany : q.lines.any ls.contains = true
    · simp [hany, hl]
    · rw [if_neg hany]
      intro hlq
      exact hany (List.any_eq_true.2 ⟨l, hlq, by simpa using hl⟩)
  · simpa using (List.mem_filter.1 hx).2

/-- Settles O15: the fall of HOLD_n cuts all sixteen lines. -/
theorem holdDropsEveryLine : Obligations.HoldDropsEveryLine := by
  unfold Obligations.HoldDropsEveryLine
  intro s t hpin hexec
  simp only [exec, execHoldAssert, hpin, Bool.not_true, Bool.false_eq_true, if_false, Host.Outcome.next.injEq] at hexec
  subst hexec
  obtain ⟨pulses, setLines, hcut, hpulses, hset⟩ := State.cutLines_levels { s with mls := { s.mls with
    holdPin := false, hold := true, holdRose := none, holdCount := satAdd 16 1 s.mls.holdCount } } (List.range 16)
  have hlevels := (State.mlsRaise_levels _ 0x04).trans hcut
  simp only [Milestone.levels, Prod.mk.injEq] at hlevels
  obtain ⟨hhold, hp, hs⟩ := hlevels
  refine ⟨hhold, fun l hl => ?_⟩
  have hl16 : l ∈ List.range 16 := List.mem_range.2 hl
  simp only [State.lineActive, hp, hs, Bool.or_eq_false_iff, List.any_eq_false, List.contains_iff_mem, decide_eq_true_eq]
  exact ⟨fun p hpm => hpulses p hpm l hl16, fun x hx hxl => hset x hx (hxl ▸ hl16)⟩

end Sys2Proof.Machine
end

section
/-! The error log and the statistics counters (R265, R414). -/

namespace Sys2Proof.Machine

theorem State.mem_of_inside {s t : State} (h : t.inside = s.inside) : t.mem = s.mem :=
  (congrArg State.mem h :)

/-- A full log that has not been read to its oldest entry: one more entry loses one unread. -/
def MemSys.losesUnread (m : MemSys) : Bool :=
  m.log.length ≥ 1024 && m.log.head?.any fun old => m.readMark = 0 || serialNewer old.seq m.readMark

/-- The SEQUENCE of the log entry after the newest. -/
def MemSys.nextLogSeq (m : MemSys) : Nat := if m.logHead = 2 ^ 32 - 1 then 1 else m.logHead + 1

/-- An appended entry changes the log, its head and the overflow counter of the memory system, and no more. -/
theorem State.logAdd_sets_mem (s : State) (kind cls unit tenant : Nat) (raised : Bool) (detail : List Byte) :
    (s.logAdd kind cls unit tenant raised detail).mem = { s.mem with
      logHead := s.mem.nextLogSeq
      log := (if s.mem.log.length ≥ 1024 then s.mem.log.drop 1 else s.mem.log) ++
        [{ seq := s.mem.nextLogSeq, kind := kind, cls := cls, unit := unit, eventRaised := raised, time := s.mls.time,
           rep := 0, tenant := tenant, detail := detail }]
      overflow := if s.mem.losesUnread then min (s.mem.overflow + 1) statMax else s.mem.overflow } := by
  unfold State.logAdd
  extract_lets seq e full lost ovf stuck m s₁
  have hlost : lost = s.mem.losesUnread := by
    dsimp only [lost, full]
    unfold MemSys.losesUnread
    cases s.mem.log <;> simp
  have hmem : (if stuck = true then s₁.event 0 0x0002 0xFFFF (2 ^ 16 * 0x200048) else s₁).mem = s₁.mem := by
    split_ifs
    · exact State.mem_of_inside (State.event_inside ..)
    · rfl
  rw [hmem]
  dsimp only [s₁, ovf]
  rw [hlost]
  rfl

/-- Settles O20: the log's length is at most 1,024, so a full log is one of 1,024 entries. -/
theorem errorLogKeepsOrder : Obligations.ErrorLogKeepsOrder := by
  unfold Obligations.ErrorLogKeepsOrder
  intro s kind cls unit tenant raised detail hlen
  have hfull : s.mem.log.length ≥ 1024 ↔ s.mem.log.length = 1024 := by omega
  simp only [State.logAdd_sets_mem, hfull, List.drop_one]
  refine ⟨rfl, ?_, rfl, ?_, trivial, trivial⟩
  · split_ifs <;> simp <;> omega
  · simp only [MemSys.losesUnread, hfull]
    cases s.mem.log with
    | nil => rfl
    | cons old rest => simp [statMax]

/-! ## Counters -/

theorem State.stats_of_inside {s t : State} (h : t.inside = s.inside) : t.stats = s.stats :=
  (congrArg State.stats h :)

theorem State.count_sets_stats (s : State) (sel a b c d off n : Nat) :
    (s.count sel a b c d off n).stats =
      Map.set s.stats (statKey sel a b c d off) (min (s.stat (statKey sel a b c d off) + n) statMax) := by
  unfold State.count
  dsimp only
  split_ifs
  · exact State.stats_of_inside (State.event_inside ..)
  · rfl

theorem State.countPrescaled_sets_stats (s : State) (sel a b c d off n : Nat) :
    (s.countPrescaled sel a b c d off n).stats =
      Map.set s.stats (statKey sel a b c d off)
        (if (s.stat (statKey sel a b c d off) + n) / 65536 ≥ statMax then prescaledMax
          else s.stat (statKey sel a b c d off) + n) := by
  unfold State.countPrescaled
  dsimp only
  split_ifs
  · exact State.stats_of_inside (State.event_inside ..)
  · rfl
  · exact State.stats_of_inside (State.event_inside ..)
  · rfl

/-- Settles O21: each counter's number stands once in the table. -/
theorem countersStick : Obligations.CountersStick := by
  unfold Obligations.CountersStick
  intro s sel a b c d off n key
  refine ⟨?_, ?_, fun hkey => ⟨?_, ?_⟩⟩
  · rw [State.stat, State.count_sets_stats, Map.get?_set_self]
    rfl
  · rw [State.stat, State.countPrescaled_sets_stats, Map.get?_set_self]
    rfl
  · rw [State.stat, State.count_sets_stats, Map.get?_set_ne _ _ hkey, State.stat]
  · rw [State.stat, State.countPrescaled_sets_stats, Map.get?_set_ne _ _ hkey, State.stat]

end Sys2Proof.Machine
end

section
/-! Data writes (R246, R260, R262): what a write with no flip-mask armed does to the memories and their poison. -/

namespace Sys2Proof.Machine

/-- An unarmed flip-mask meets no write. -/
theorem State.flipMeets_of_unarmed {s : State} (cls unit addr len tenant : Nat) (h : s.mem.flipArm = false) :
    s.flipMeets cls unit addr len tenant = s := by
  simp [State.flipMeets, h]

/-- With no flip-mask armed a data write stores its bytes and takes poison and flips from the codewords it replaces whole. -/
theorem State.memWrite_of_unarmed {s : State} (cls unit addr : Nat) (bytes : List Byte) (tenant : Nat)
    (h : s.mem.flipArm = false) :
    (s.memWrite cls unit addr bytes tenant).mem = { s.mem with
      mem := Map.set s.mem.mem (memKey cls unit) ((s.memory cls unit).writeBytes addr bytes)
      poison := s.mem.poison.filter fun p =>
        !(p.1 = memKey cls unit && (addr ≤ p.2 && p.2 + codewordBytes cls ≤ addr + bytes.length))
      flipped := s.mem.flipped.filter fun f =>
        !(f.1 = memKey cls unit && (addr ≤ f.2.1 && f.2.1 + codewordBytes cls ≤ addr + bytes.length)) } := by
  unfold State.memWrite State.newWords
  dsimp only
  rw [State.flipMeets_of_unarmed]
  · rfl
  · exact h

theorem State.memory_memWrite_self {s : State} (cls unit addr : Nat) (bytes : List Byte) (tenant : Nat)
    (h : s.mem.flipArm = false) :
    (s.memWrite cls unit addr bytes tenant).memory cls unit = (s.memory cls unit).writeBytes addr bytes := by
  rw [State.memory, State.memWrite_of_unarmed _ _ _ _ _ h, Map.get?_set_self, Option.getD_some]

theorem State.memory_memWrite_other {s : State} {c u cls unit : Nat} (addr : Nat) (bytes : List Byte) (tenant : Nat)
    (h : s.mem.flipArm = false) (hkey : memKey c u ≠ memKey cls unit) :
    (s.memWrite cls unit addr bytes tenant).memory c u = s.memory c u := by
  rw [State.memory, State.memWrite_of_unarmed _ _ _ _ _ h, Map.get?_set_ne _ _ hkey, State.memory]

/-- A byte string written reads as itself in its range and as before outside it. -/
theorem Memory.read_writeBytes {m : Memory} (hwf : Memory.wf m = true) (bs : List Byte) (addr a : Nat) :
    Memory.read (m.writeBytes addr bs) a =
      if addr ≤ a ∧ a < addr + bs.length then bs.getD (a - addr) 0 else Memory.read m a := by
  split_ifs with hin
  · obtain ⟨i, rfl⟩ := Nat.exists_eq_add_of_le hin.1
    have hi : i < bs.length := by omega
    rw [Memory.read_writeBytes_in bs m addr i hwf hi, Nat.add_sub_cancel_left, List.getD_eq_getElem _ _ hi]
  · exact Memory.read_writeBytes_other bs m addr a (by omega)

/-- Settles O19: a write with no mask armed is the store of its bytes and the filter of the poison. -/
theorem dataWritesStore : Obligations.DataWritesStore := by
  unfold Obligations.DataWritesStore
  intro s cls unit addr tenant bytes _ _ hwf harm
  refine ⟨fun a => ?_, fun c u _ _ hkey => State.memory_memWrite_other addr bytes tenant harm hkey, fun k w => ?_⟩
  · rw [State.memory_memWrite_self _ _ _ _ _ harm]
    exact Memory.read_writeBytes (s.memory_wf cls unit hwf) bytes addr a
  · simp only [State.memWrite_of_unarmed _ _ _ _ _ harm, List.mem_filter, Bool.not_eq_true', Bool.and_eq_false_iff,
      decide_eq_false_iff_not]
    tauto

end Sys2Proof.Machine
end

section
/-! Who may read a status record (R290, R291, R326). -/

namespace Sys2Proof.Machine

/-! ## The two kinds of record -/

section Owned

variable {α : Type} {o : Option α} {fn : Nat} {owner : α → Nat} {pf : Bool} {r : α → List Byte}

theorem ownedRecord_record {bytes : List Byte} (h : ownedRecord o fn owner pf r = .record bytes) :
    ∃ x, o = some x ∧ (owner x = fn ∨ (fn = 0 ∧ pf = true)) := by
  unfold ownedRecord at h
  split at h
  · cases h
  · rename_i x
    split_ifs at h with hread
    refine ⟨x, rfl, ?_⟩
    simp only [Bool.or_eq_true, decide_eq_true_eq, Bool.and_eq_true] at hread
    tauto

theorem ownedRecord_refuse {status : Nat} (h : ownedRecord o fn owner pf r = .refuse status) :
    status = Status.badParam ∨ status = Status.notPermitted := by
  unfold ownedRecord at h
  split at h
  · cases h; exact .inl rfl
  · split_ifs at h
    cases h; exact .inr rfl

theorem pfRecord_record {ok : Bool} {rec bytes : List Byte} (h : pfRecord fn ok rec = .record bytes) : fn = 0 := by
  unfold pfRecord at h
  split_ifs at h with hfn
  exact not_not.1 hfn

theorem pfRecord_refuse {ok : Bool} {rec : List Byte} {status : Nat} (h : pfRecord fn ok rec = .refuse status) :
    status = Status.badParam ∨ status = Status.notPermitted := by
  unfold pfRecord at h
  split_ifs at h <;> cases h
  · exact .inr rfl
  · exact .inl rfl

end Owned

/-! ## The selectors -/

/-- Every refusal of a selector is BAD_PARAM or NOT_PERMITTED. -/
theorem State.findStatus_refuse {s : State} {fn sel a b c d status : Nat}
    (h : s.findStatus fn sel a b c d = .refuse status) : status = Status.badParam ∨ status = Status.notPermitted := by
  unfold State.findStatus at h
  split at h
  case h_1 | h_2 | h_7 | h_13 | h_14 => exact pfRecord_refuse h
  case h_3 | h_4 | h_5 | h_8 | h_9 | h_10 => exact ownedRecord_refuse h
  case h_15 => cases h; exact .inl rfl
  case h_6 | h_11 | h_12 =>
    repeat' split at h
    all_goals cases h
    all_goals decide

/-- Settles O25: selector by selector, a record is one for the physical function, or one for its object's owner. -/
theorem statusIsReadByItsOwners : Obligations.StatusIsReadByItsOwners := by
  unfold Obligations.StatusIsReadByItsOwners
  refine fun s fn sel a b c d => ⟨fun bytes h => ?_, fun status h => State.findStatus_refuse h⟩
  unfold State.findStatus at h
  split at h
  case h_1 | h_2 | h_7 | h_13 | h_14 => simp [pfRecord_record h]
  case h_3 | h_8 | h_9 | h_10 =>
    obtain ⟨x, hx, hread⟩ := ownedRecord_record h
    simpa [hx] using hread
  case h_4 | h_5 =>
    obtain ⟨x, hx, hread⟩ := ownedRecord_record h
    rw [hx] at hread
    simpa [hx] using hread
  case h_6 =>
    split at h
    · cases h
    · rename_i x hx
      split_ifs at h with hread
      have hown : x.tenant = fn ∨ (fn = 0 ∧ s.profiles x.tenant = true) := by grind
      simpa [hx] using hown
  case h_11 =>
    split at h
    · cases h
    · rename_i x hx
      split_ifs at h with hread
      have hown : x.owner = fn ∨ fn = 0 := by grind
      simpa [hx] using hown
  case h_12 =>
    split_ifs at h with ha hread
    have hown : a ≤ 63 ∧ (fn = 0 ∨ fn = a) := by grind
    simpa using hown
  case h_15 => cases h

end Sys2Proof.Machine
end

section
/-! The checks of a fetched packet in their order (R284, Table 10-17). -/

namespace Sys2Proof.Machine

/-! ## Rings read back -/

theorem Map.set_set {α : Type} (m : Map α) (k : Nat) (v w : α) : Map.set (Map.set m k v) k w = Map.set m k w := by
  induction m with
  | nil => simp [Map.set]
  | cons p r ih =>
    obtain ⟨i, x⟩ := p
    by_cases hlt : k < i
    · simp [Map.set, hlt]
    · by_cases heq : i = k
      · simp [Map.set, heq]
      · simp [Map.set, hlt, heq, ih]

@[simp] theorem State.ring_setRing_self (s : State) (fn ring : Nat) (p : RingPair) :
    (s.setRing fn ring p).ring fn ring = p := by
  simp [State.ring]

theorem State.ring_setRing_ne (s : State) {fn ring g k : Nat} (p : RingPair) (h : ringNo g k ≠ ringNo fn ring) :
    (s.setRing fn ring p).ring g k = s.ring g k := by
  simp [State.ring, Map.get?_set_ne _ _ h]

@[simp] theorem State.setRing_setRing (s : State) (fn ring : Nat) (p q : RingPair) :
    (s.setRing fn ring p).setRing fn ring q = s.setRing fn ring q := by
  simp [State.setRing, Map.set_set]

/-! ## Steps 4 to 9 -/

/-- HELLO, GET_CAPS and GET_ATTESTATION are served without a tenant. -/
def exemptOp (op : Nat) : Prop := op = 0x0001 ∨ op = 0x0002 ∨ op = 0x0604

theorem any_tag_iff {l : List (Nat × Bool)} {tag : Nat} :
    (l.any fun t => t.1 = tag) = true ↔ ¬∀ t ∈ l, t.1 ≠ tag := by
  simp only [List.any_eq_true, decide_eq_true_eq]
  push Not
  rfl

/-- The header's own fields are in range. -/
def hdrFieldsOk (h : Hdr) : Prop :=
  h.inlineLength = 32 ∧ h.rsvdZero = true ∧ h.priority ≤ 7 ∧ (h.payloadLen = 0 ∨ h.payloadAddr % 64 = 0)

section Header

variable {op : Nat} {h : Hdr} {s : State}

theorem headerCheck_of_closed (hopen : ¬((s.ring h.fn h.ring).open_ = true ∨ op = 0x0001)) :
    headerCheck op h s = some (Status.badVersion, false) := by
  simp_all [headerCheck]

variable (hopen : (s.ring h.fn h.ring).open_ = true ∨ op = 0x0001)
include hopen

theorem headerCheck_opens : (!((s.ring h.fn h.ring).open_ || decide (op = 0x0001))) = false := by
  rw [Bool.not_eq_false', Bool.or_eq_true, decide_eq_true_eq]
  exact hopen

theorem headerCheck_of_other_tenant (hmine : h.tenant ≠ h.fn) :
    headerCheck op h s = some (Status.notPermitted, false) := by
  simp only [headerCheck, headerCheck_opens hopen, Bool.false_eq_true, if_false, if_pos hmine]

variable (hmine : h.tenant = h.fn)
include hmine

theorem headerCheck_of_absent (hex : ¬exemptOp op) (ht : Map.get? s.customs.tenants h.fn = none) :
    headerCheck op h s = some (Status.notPermitted, false) := by
  simp only [exemptOp, not_or] at hex
  simp only [headerCheck, headerCheck_opens hopen, hmine]
  simp [hex, ht]

theorem headerCheck_of_revoking (hex : ¬exemptOp op) {t : Tenant} (ht : Map.get? s.customs.tenants h.fn = some t)
    (hstate : t.state = 2) : headerCheck op h s = some (Status.tenantRevoked, false) := by
  simp only [exemptOp, not_or] at hex
  simp only [headerCheck, headerCheck_opens hopen, hmine]
  simp [hex, ht, hstate]

/-- With steps 4 to 6 passed, steps 7 to 9 are left. -/
theorem headerCheck_of_served
    (hserved : exemptOp op ∨ ∃ t, Map.get? s.customs.tenants h.fn = some t ∧ t.state ≠ 2) :
    headerCheck op h s =
      if h.inlineLength ≠ 32 || !h.rsvdZero || h.priority > 7 || (h.payloadLen ≠ 0 && h.payloadAddr % 64 ≠ 0) then
        some (Status.badParam, false)
      else if (s.ring h.fn h.ring).outstanding.any fun t => t.1 = h.tag then some (Status.badParam, true)
      else if pfOnly op && h.fn ≠ 0 then some (Status.notPermitted, false)
      else none := by
  simp only [headerCheck, headerCheck_opens hopen, hmine]
  obtain hex | ⟨t, ht, hstate⟩ := hserved
  · have hex : (decide (op = 0x0001) || decide (op = 0x0002) || decide (op = 0x0604)) = true := by
      simpa [exemptOp, or_assoc] using hex
    simp [hex]
  · simp [ht, hstate]

variable (hserved : exemptOp op ∨ ∃ t, Map.get? s.customs.tenants h.fn = some t ∧ t.state ≠ 2)
include hserved

theorem headerCheck_of_bad_fields (hf : ¬hdrFieldsOk h) : headerCheck op h s = some (Status.badParam, false) := by
  rw [headerCheck_of_served hopen hmine hserved, if_pos]
  simp only [hdrFieldsOk, ← Nat.not_lt] at hf
  simp only [Bool.or_eq_true, Bool.and_eq_true, decide_eq_true_eq, Bool.not_eq_true', ne_eq, ← Bool.not_eq_true]
  tauto

variable (hf : hdrFieldsOk h)
include hf

theorem headerCheck_of_fields_ok :
    headerCheck op h s =
      if (s.ring h.fn h.ring).outstanding.any fun t => t.1 = h.tag then some (Status.badParam, true)
      else if pfOnly op && h.fn ≠ 0 then some (Status.notPermitted, false)
      else none := by
  rw [headerCheck_of_served hopen hmine hserved, if_neg]
  obtain ⟨hlen, hrsvd, hprio, hpay⟩ := hf
  have hprio : ¬h.priority > 7 := Nat.not_lt.2 hprio
  simp only [hlen, hrsvd, hprio, Bool.or_eq_true, Bool.and_eq_true, decide_eq_true_eq, Bool.not_true,
    Bool.false_eq_true, ne_eq]
  tauto

theorem headerCheck_of_duplicate (hdup : ¬∀ t ∈ (s.ring h.fn h.ring).outstanding, t.1 ≠ h.tag) :
    headerCheck op h s = some (Status.badParam, true) := by
  rw [headerCheck_of_fields_ok hopen hmine hserved hf, if_pos (any_tag_iff.2 hdup)]

variable (hfresh : ∀ t ∈ (s.ring h.fn h.ring).outstanding, t.1 ≠ h.tag)
include hfresh

theorem headerCheck_of_pfOnly (hpf : pfOnly op = true) (hfn : h.fn ≠ 0) :
    headerCheck op h s = some (Status.notPermitted, false) := by
  rw [headerCheck_of_fields_ok hopen hmine hserved hf, if_neg (not_not.2 hfresh ∘ any_tag_iff.1),
    if_pos (by simp [hpf, hfn])]

theorem headerCheck_passes (hpf : pfOnly op = false ∨ h.fn = 0) : headerCheck op h s = none := by
  rw [headerCheck_of_fields_ok hopen hmine hserved hf, if_neg (not_not.2 hfresh ∘ any_tag_iff.1),
    if_neg (by simpa [or_iff_not_imp_left] using hpf)]

end Header

/-! ## A fetched packet -/

section Packet

variable {s : State} {fn ring : Nat} {b : List Byte}

theorem State.takePacket_of_bad_crc (hcrc : packetField b 60 4 ≠ crc32c (b.take 60)) :
    s.takePacket fn ring b = (s.setRing fn ring { s.ring fn ring with
      crcFailed := satAdd 16 1 (s.ring fn ring).crcFailed }).failPacket (packetHdr fn ring b) (packetField b 0 2)
        Status.badParam true false := by
  simp only [State.takePacket, if_pos hcrc]

variable (hcrc : packetField b 60 4 = crc32c (b.take 60))
include hcrc

theorem State.takePacket_of_bad_version (hver : packetField b 2 1 ≠ 1) :
    s.takePacket fn ring b =
      s.failPacket (packetHdr fn ring b) (packetField b 0 2) Status.badVersion false false := by
  simp only [State.takePacket, if_neg (not_not.2 hcrc), if_pos hver]

variable (hver : packetField b 2 1 = 1)
include hver

theorem State.takePacket_of_bad_opcode (hop : packetField b 0 2 ∉ opcodes) :
    s.takePacket fn ring b =
      s.failPacket (packetHdr fn ring b) (packetField b 0 2) Status.badOpcode false false := by
  have hop : (!opcodes.contains (packetField b 0 2)) = true := by simpa using hop
  simp only [State.takePacket, if_neg (not_not.2 hcrc), if_neg (not_not.2 hver), if_pos hop]

variable (hop : packetField b 0 2 ∈ opcodes)
include hop

theorem State.takePacket_of_refused {status : Nat} {dup : Bool}
    (hcheck : headerCheck (packetField b 0 2) (packetHdr fn ring b) s = some (status, dup)) :
    s.takePacket fn ring b = s.failPacket (packetHdr fn ring b) (packetField b 0 2) status false dup := by
  have hop : ¬(!opcodes.contains (packetField b 0 2)) = true := by simpa using hop
  simp only [State.takePacket, if_neg (not_not.2 hcrc), if_neg (not_not.2 hver), if_neg hop, hcheck]

theorem State.takePacket_of_passing
    (hcheck : headerCheck (packetField b 0 2) (packetHdr fn ring b) s = none) :
    s.takePacket fn ring b = s.setRing fn ring { s.ring fn ring with
      outstanding := (s.ring fn ring).outstanding ++ [((packetHdr fn ring b).tag, false)]
      fetched := (s.ring fn ring).fetched ++
        [((packetHdr fn ring b).tag, packetField b 0 2, (s.ring fn ring).session)] } := by
  have hop : ¬(!opcodes.contains (packetField b 0 2)) = true := by simpa using hop
  have hmark : s.markStarted (packetHdr fn ring b) = s.setRing fn ring { s.ring fn ring with
      outstanding := (s.ring fn ring).outstanding ++ [((packetHdr fn ring b).tag, false)] } := rfl
  simp only [State.takePacket, if_neg (not_not.2 hcrc), if_neg (not_not.2 hver), if_neg hop, hcheck, hmark,
    State.ring_setRing_self, State.setRing_setRing]

end Packet

/-- The failure of a packet goes to the ring it came on. -/
theorem State.failPacket_eq (s : State) (fn ring : Nat) (b : List Byte) (op status : Nat) (crc dup : Bool) :
    s.failPacket (packetHdr fn ring b) op status crc dup = s.sendReply fn ring (s.ring fn ring).session
      { tag := leNat (slice 4 2 b), status := status, opcode := op, final := true, crcFailed := crc, dupTag := dup,
        dmaError := false, result0 := 0, result1 := 0, signal := bitOf (leNat (slice 3 1 b)) 1 } := rfl

/-- Settles O27: each clause is one branch of `State.takePacket` or of `headerCheck`. -/
theorem packetChecksInOrder : Obligations.PacketChecksInOrder := by
  unfold Obligations.PacketChecksInOrder
  intro s fn ring b h op p fail tenant exempt crcOk versionOk opens mine fieldsOk fresh
  refine ⟨fun hcrc => ?_, fun hcrc hver => State.takePacket_of_bad_version hcrc hver,
    fun hcrc hver hop => State.takePacket_of_bad_opcode hcrc hver hop,
    fun hcrc hver hop hopen => State.takePacket_of_refused hcrc hver hop (headerCheck_of_closed hopen),
    fun hcrc hver hop hopen hmine => State.takePacket_of_refused hcrc hver hop (headerCheck_of_other_tenant hopen hmine),
    fun hcrc hver hop hopen hmine hex => ⟨fun ht => ?_, fun t ht hstate => ?_⟩,
    fun hcrc hver hop hopen hmine hserved => ⟨fun hf => ?_, fun hf hdup => ?_, fun hf hfresh hpf hfn => ?_,
      fun hf hfresh hpf => ?_⟩⟩
  · rw [State.takePacket_of_bad_crc hcrc, State.failPacket_eq, State.ring_setRing_self]
    rfl
  · exact State.takePacket_of_refused hcrc hver hop (headerCheck_of_absent hopen hmine hex ht)
  · exact State.takePacket_of_refused hcrc hver hop (headerCheck_of_revoking hopen hmine hex ht hstate)
  · exact State.takePacket_of_refused hcrc hver hop (headerCheck_of_bad_fields hopen hmine hserved hf)
  · exact State.takePacket_of_refused hcrc hver hop (headerCheck_of_duplicate hopen hmine hserved hf hdup)
  · exact State.takePacket_of_refused hcrc hver hop (headerCheck_of_pfOnly hopen hmine hserved hf hfresh hpf hfn)
  · exact State.takePacket_of_passing hcrc hver hop (headerCheck_passes hopen hmine hserved hf hfresh hpf)

end Sys2Proof.Machine
end

section
/-! The reset of a function (R274): what it leaves of the host link, and that nothing is written for its tenant after it. -/

namespace Sys2Proof.Machine

/-! ## The rings of the function -/

/-- The first `n` ring pairs of a function at their reset. -/
def State.resetRings (s : State) (fn n : Nat) : State :=
  (List.range n).foldl (fun s k => s.setRing fn k (s.ring fn k).afterReset) s

theorem State.resetRings_succ (s : State) (fn n : Nat) :
    s.resetRings fn (n + 1) = (s.resetRings fn n).setRing fn n ((s.resetRings fn n).ring fn n).afterReset := by
  simp [State.resetRings, List.range_succ]

/-- Only the table of rings changes. -/
theorem State.resetRings_frame (s : State) (fn n : Nat) :
    ∃ rings, s.resetRings fn n = { s with host := { s.host with rings := rings } } := by
  induction n with
  | zero => exact ⟨s.host.rings, rfl⟩
  | succ n ih =>
    obtain ⟨rings, h⟩ := ih
    rw [State.resetRings_succ, h]
    exact ⟨_, rfl⟩

theorem State.ring_resetRings_of_not_mem (s : State) (fn n g k : Nat) (h : ∀ j < n, ringNo g k ≠ ringNo fn j) :
    (s.resetRings fn n).ring g k = s.ring g k := by
  induction n with
  | zero => rfl
  | succ n ih =>
    rw [State.resetRings_succ, State.ring_setRing_ne _ _ (h n n.lt_succ_self)]
    exact ih fun j hj => h j (Nat.lt_succ_of_lt hj)

theorem State.ring_resetRings_of_lt (s : State) (fn n k : Nat) (h : k < n) :
    (s.resetRings fn n).ring fn k = (s.ring fn k).afterReset := by
  induction n with
  | zero => exact absurd h k.not_lt_zero
  | succ n ih =>
    rw [State.resetRings_succ]
    by_cases hk : k = n
    · subst hk
      rw [State.ring_setRing_self, State.ring_resetRings_of_not_mem]
      intro j hj
      simp only [ringNo]
      omega
    · rw [State.ring_setRing_ne _ _ (by simp only [ringNo]; omega), ih (by omega)]

/-! ## The function -/

/-- The host link after the reset of a function. -/
def State.resetLink (s : State) (fn : Nat) (stays : Bool) : State :=
  let t := (s.resetRings fn (ringPairs fn)).setFn fn { FnState.reset with present := stays, awaitHello := true }
  { t with host := { t.host with msix := t.host.msix.filter fun p => p.1 / 2 ^ 24 ≠ fn } }

/-- The reset of a function changes its rings, its own state and its vectors, all on the host link. -/
theorem State.resetLink_frame (s : State) (fn : Nat) (stays : Bool) :
    ∃ rings, s.resetLink fn stays = { s with host := { s.host with
      rings := rings
      fns := Map.set s.host.fns fn { FnState.reset with present := stays, awaitHello := true }
      msix := s.host.msix.filter fun p => p.1 / 2 ^ 24 ≠ fn } } := by
  obtain ⟨rings, h⟩ := s.resetRings_frame fn (ringPairs fn)
  unfold State.resetLink
  rw [h]
  exact ⟨rings, rfl⟩

/-- With no untargeted request to cancel, a reset stays on the host link. -/
theorem State.resetFunction_of_no_untargeted {s : State} {fn : Nat} (stays : Bool)
    (h : ∀ r ∈ s.liveReqs, r.tenant = fn → r.route.isSome = true ∨ r.target ≠ 0) :
    s.resetFunction fn stays = s.resetLink fn stays := by
  have hlive : (s.resetLink fn stays).liveReqs = s.liveReqs := by
    obtain ⟨rings, hframe⟩ := s.resetLink_frame fn stays
    rw [hframe]
    rfl
  have hnone : (s.resetLink fn stays).cancelUntargeted fn = s.resetLink fn stays := by
    unfold State.cancelUntargeted
    rw [hlive, List.filter_eq_nil_iff.2, List.foldl_nil]
    intro r hr
    simp only [Bool.and_eq_true, decide_eq_true_eq, not_and, and_imp]
    rintro hten hroute htarget
    obtain hsome | htarget' := h r hr hten
    · rw [Option.isNone_iff_eq_none] at hroute
      simp [hroute] at hsome
    · exact htarget' htarget
  show (if (s.resetLink fn stays).writesRings then (s.resetLink fn stays).cancelUntargeted fn
    else s.resetLink fn stays) = _
  rw [hnone, ite_self]

theorem ringPairs_le (fn : Nat) : ringPairs fn ≤ 8 := by
  unfold ringPairs
  split_ifs <;> omega

theorem State.ring_resetLink (s : State) (fn g k : Nat) (stays : Bool) :
    (s.resetLink fn stays).ring g k = (s.resetRings fn (ringPairs fn)).ring g k := rfl

theorem State.fn_resetLink_self (s : State) (fn : Nat) (stays : Bool) :
    (s.resetLink fn stays).fn fn = { FnState.reset with present := stays, awaitHello := true } := by
  obtain ⟨rings, h⟩ := s.resetLink_frame fn stays
  simp [State.fn, h]

theorem State.fn_resetLink_ne (s : State) {fn g : Nat} (stays : Bool) (hg : g ≠ fn) :
    (s.resetLink fn stays).fn g = s.fn g := by
  obtain ⟨rings, h⟩ := s.resetLink_frame fn stays
  simp [State.fn, h, Map.get?_set_ne _ _ hg]

/-- A function that awaits HELLO has nothing written for its tenant. -/
theorem State.canWriteTenant_of_awaitHello {s : State} {fn : Nat} (h : (s.fn fn).awaitHello = true) :
    s.canWriteTenant fn = false := by
  simp [State.canWriteTenant, h]

theorem State.writePayload_of_awaitHello {s : State} {fn : Nat} (h : (s.fn fn).awaitHello = true)
    (spans : List (Nat × Nat)) (off : Nat) (bytes : List Byte) : s.writePayload fn spans off bytes = s := by
  simp [State.writePayload, State.canWriteTenant_of_awaitHello h, h]

/-- Settles O28: with no request to cancel the reset is `State.resetLink`. -/
theorem resetLeavesTheFunctionSilent : Obligations.ResetLeavesTheFunctionSilent := by
  unfold Obligations.ResetLeavesTheFunctionSilent
  intro s fn stays _ hlive
  rw [State.resetFunction_of_no_untargeted stays hlive]
  obtain ⟨rings, hframe⟩ := s.resetLink_frame fn stays
  have hawait : ((s.resetLink fn stays).fn fn).awaitHello = true := by rw [State.fn_resetLink_self]
  refine ⟨fun k hk => ?_, s.fn_resetLink_self fn stays, fun g k hg hk => ?_, fun g hg => s.fn_resetLink_ne stays hg, ?_,
    State.canWriteTenant_of_awaitHello hawait, State.writePayload_of_awaitHello hawait, ?_, ?_, ?_⟩
  · rw [State.ring_resetLink, State.ring_resetRings_of_lt _ _ _ _ hk]
    rfl
  · rw [State.ring_resetLink, State.ring_resetRings_of_not_mem]
    intro j hj
    have := ringPairs_le fn
    simp only [ringNo]
    omega
  all_goals rw [hframe]

end Sys2Proof.Machine
end

section
/-! Replies and their messages (R278 to R280, R283). -/

namespace Sys2Proof.Machine

/-! ## A reply written at TAIL -/

/-- The ring's message goes out with this reply (R280). -/
def RingPair.SendsNow (p : RingPair) (r : Reply) : Prop :=
  p.coalCount ≤ 1 ∨ p.coalTime = 0 ∨ p.coalCount ≤ p.sinceMsg + 1 ∨ (r.final = true ∧ r.signal = true)

theorem RingPair.sendsNow_iff (p : RingPair) (r : Reply) :
    p.SendsNow r ↔ (p.coalCount ≤ 1 || p.coalTime = 0 || p.sinceMsg + 1 ≥ p.coalCount || (r.final && r.signal)) = true := by
  simp [RingPair.SendsNow, or_assoc]

section Put

variable (s : State) (fn ring : Nat) (r : Reply)

theorem State.putReply_of_now (h : (s.ring fn ring).SendsNow r) :
    s.putReply fn ring r =
      let p := s.ring fn ring
      let tail := (p.rplTail + 1) % 2 ^ p.rplLog2
      ((s.setRing fn ring { p with
        rplTail := tail, phase := if tail = 0 then !p.phase else p.phase, sinceMsg := 0, firstSince := none }).emit
          (.reply fn ring p.rplTail p.phase r s.mls.time)).emit (.msix fn (p.vector % vectors fn)) := by
  simp only [State.putReply, (RingPair.sendsNow_iff _ _).1 h, if_true]
  rfl

theorem State.putReply_of_not_now (h : ¬(s.ring fn ring).SendsNow r) :
    s.putReply fn ring r =
      let p := s.ring fn ring
      let tail := (p.rplTail + 1) % 2 ^ p.rplLog2
      (s.setRing fn ring { p with
        rplTail := tail, phase := if tail = 0 then !p.phase else p.phase, sinceMsg := p.sinceMsg + 1
        firstSince := some (p.firstSince.getD s.mls.uptime) }).emit
          (.reply fn ring p.rplTail p.phase r s.mls.time) := by
  rw [RingPair.sendsNow_iff, Bool.not_eq_true] at h
  simp only [State.putReply, h, Bool.false_eq_true, if_false]
  rfl

end Put

@[simp] theorem State.ring_emit (s : State) (o : Output) (g k : Nat) : (s.emit o).ring g k = s.ring g k := rfl

/-! ## A reply that falls due -/

section Send

variable {s : State} {fn ring session : Nat} (r : Reply)

theorem State.sendReply_of_closed (h : (s.ring fn ring).enable = false ∨ (s.ring fn ring).session ≠ session) :
    s.sendReply fn ring session r = s.setRing fn ring { s.ring fn ring with
      discarded := satAdd 16 1 (s.ring fn ring).discarded } := by
  have h : (!(s.ring fn ring).enable || (s.ring fn ring).session ≠ session : Bool) = true := by simpa using h
  simp only [State.sendReply, h, if_true]

variable (hon : (s.ring fn ring).enable = true) (hsession : (s.ring fn ring).session = session)
include hon hsession

theorem State.sendReply_of_room (hwait : (s.ring fn ring).waiting = []) (hroom : s.replyRoom fn ring = true) :
    s.sendReply fn ring session r = s.putReply fn ring r := by
  simp [State.sendReply, hon, hsession, hwait, hroom]

theorem State.sendReply_of_no_room (h : (s.ring fn ring).waiting ≠ [] ∨ s.replyRoom fn ring = false) :
    s.sendReply fn ring session r = s.setRing fn ring { s.ring fn ring with
      waiting := (s.ring fn ring).waiting ++ [r] } := by
  have h : ¬((s.ring fn ring).waiting.isEmpty && s.replyRoom fn ring) = true := by
    simpa [or_iff_not_imp_left] using h
  simp only [State.sendReply, hon, hsession, Bool.not_true, ne_eq, not_true, decide_false, Bool.or_self,
    Bool.false_eq_true, if_false, if_neg h]

end Send

/-- A reply changes its own ring alone. -/
theorem State.ring_sendReply_ne (s : State) {fn ring g k : Nat} (session : Nat) (r : Reply)
    (h : ringNo g k ≠ ringNo fn ring) : (s.sendReply fn ring session r).ring g k = s.ring g k := by
  have hput : (s.putReply fn ring r).ring g k = s.ring g k := by
    by_cases hnow : (s.ring fn ring).SendsNow r
    · rw [State.putReply_of_now _ _ _ _ hnow]
      exact State.ring_setRing_ne s _ h
    · rw [State.putReply_of_not_now _ _ _ _ hnow]
      exact State.ring_setRing_ne s _ h
  unfold State.sendReply
  dsimp only
  split_ifs
  · exact State.ring_setRing_ne s _ h
  · exact hput
  · exact State.ring_setRing_ne s _ h

/-- Settles O31: a reply is discarded, kept waiting, or written with or without its message. -/
theorem repliesAndMessages : Obligations.RepliesAndMessages := by
  unfold Obligations.RepliesAndMessages
  intro s fn ring session r p t tail now message
  refine ⟨fun hon hses hwait hroom => ?_, fun hon hses hno => State.sendReply_of_no_room r hon hses hno,
    fun hclosed => State.sendReply_of_closed r hclosed, fun g k hne => s.ring_sendReply_ne session r hne⟩
  have ht : t = s.putReply fn ring r := State.sendReply_of_room r hon hses hwait hroom
  by_cases hnow : p.SendsNow r
  · have hput := s.putReply_of_now fn ring r hnow
    have hring : t.ring fn ring = { p with
        rplTail := tail, phase := if tail = 0 then !p.phase else p.phase, sinceMsg := 0, firstSince := none } := by
      rw [ht, hput]
      simp only [State.ring_emit, State.ring_setRing_self]
      rfl
    have hout : t.out = s.out ++ .reply fn ring p.rplTail p.phase r s.mls.time :: message := by
      rw [ht, hput]
      simp [p, message]
    rw [hring]
    exact ⟨rfl, rfl, fun _ => ⟨hout, rfl, rfl⟩, fun hnot => absurd hnow hnot⟩
  · have hput := s.putReply_of_not_now fn ring r hnow
    have hring : t.ring fn ring = { p with
        rplTail := tail, phase := if tail = 0 then !p.phase else p.phase, sinceMsg := p.sinceMsg + 1
        firstSince := some (p.firstSince.getD s.mls.uptime) } := by
      rw [ht, hput]
      simp only [State.ring_emit, State.ring_setRing_self]
      rfl
    have hout : t.out = s.out ++ [.reply fn ring p.rplTail p.phase r s.mls.time] := by
      rw [ht, hput]
      simp [p]
    rw [hring]
    exact ⟨rfl, rfl, fun hyes => absurd hyes hnow, fun _ => ⟨hout, rfl, rfl⟩⟩

end Sys2Proof.Machine
end

section
/-! The registers of BAR0 read back (R276, Tables 10-2 to 10-14). -/

namespace Sys2Proof.Machine

/-! ## Bits -/

theorem bitOf_eq_testBit (x i : Nat) : bitOf x i = x.testBit i := by
  rw [bitOf, Nat.testBit_eq_decide_div_mod_eq, Nat.shiftRight_eq_div_pow]

/-- A number by its bit `i`, the bits above it and those below it. -/
theorem eq_high_add_low_of_testBit {x i : Nat} (h : x.testBit i = true) :
    x = 2 ^ (i + 1) * (x / 2 ^ (i + 1)) + (2 ^ i + x % 2 ^ i) := by
  rw [Nat.testBit_eq_decide_div_mod_eq, decide_eq_true_eq] at h
  have hhigh : x / 2 ^ i / 2 = x / 2 ^ (i + 1) := by rw [Nat.div_div_eq_div_mul, ← pow_succ]
  have hlow := Nat.div_add_mod x (2 ^ i)
  have hbit := Nat.div_add_mod (x / 2 ^ i) 2
  rw [h, hhigh] at hbit
  rw [← hbit] at hlow
  generalize x / 2 ^ (i + 1) = a at hlow ⊢
  rw [pow_succ]
  linarith

theorem bitOf_clearBit (x i j : Nat) : bitOf (clearBit x i) j = (bitOf x j && !decide (j = i)) := by
  unfold clearBit
  simp only [bitOf_eq_testBit]
  split_ifs with hi
  · have hlow : x % 2 ^ i < 2 ^ i := Nat.mod_lt _ (by positivity)
    have hone : 2 ^ i + x % 2 ^ i < 2 ^ (i + 1) := by rw [pow_succ]; omega
    have hx := eq_high_add_low_of_testBit hi
    have hsub : x - 2 ^ i = 2 ^ (i + 1) * (x / 2 ^ (i + 1)) + x % 2 ^ i := by omega
    rw [hsub, Nat.testBit_two_pow_mul_add _ (by omega)]
    conv_rhs => rw [hx, Nat.testBit_two_pow_mul_add _ hone]
    obtain hlt | rfl | hgt := Nat.lt_trichotomy j i
    · simp [Nat.lt_succ_of_lt hlt, Nat.testBit_two_pow_add_gt hlt, hlt.ne]
    · simp [Nat.testBit_lt_two_pow hlow]
    · simp [Nat.not_lt.2 (Nat.succ_le_of_lt hgt), hgt.ne']
  · obtain rfl | hne := eq_or_ne j i
    · simp [hi]
    · simp [hne]

theorem bitOf_foldl_clearBit (l : List Nat) (m x j : Nat) :
    bitOf (l.foldl (fun a i => if bitOf m i then clearBit a i else a) x) j =
      (bitOf x j && !(decide (j ∈ l) && bitOf m j)) := by
  induction l generalizing x with
  | nil => simp
  | cons i l ih =>
    rw [List.foldl_cons, ih]
    by_cases hji : j = i
    · subst hji
      by_cases hm : bitOf m j <;> simp [hm, bitOf_clearBit]
    · by_cases hm : bitOf m i <;> simp [hm, hji, bitOf_clearBit]

/-- A W1C register keeps the bits that the written value does not name. -/
theorem bitOf_clearBits (w x m j : Nat) : bitOf (clearBits w x m) j = (bitOf x j && !(decide (j < w) && bitOf m j)) := by
  simp [clearBits, bitOf_foldl_clearBit]

/-! ## Places -/

theorem regPlace_flipMask {i : Nat} (hi : i < 9) : regPlace 0 (0x200010 + 4 * i) = some (5, 0x10 + 4 * i) := by
  interval_cases i <;> rfl

theorem regPlace_vf_msix {fn k : Nat} (hfn : 0 < fn) (hk : k < 16) :
    regPlace fn (0x8000 + 4 * k) = some (3, 4 * k) := by
  simp only [regPlace, if_neg hfn.ne']
  rw [if_neg (by omega), if_neg (by omega), if_neg (by omega), if_pos (by simp [within]; omega),
    Nat.add_sub_cancel_left]

theorem regPlace_ring {ring off : Nat} (hring : ring < 8) (hoff : off < 64) :
    regPlace 0 (0x20000 + 64 * ring + off) = some (2, 64 * ring + off) := by
  simp only [regPlace, if_true]
  rw [if_neg (by omega), if_neg (by omega), if_pos (by omega), Nat.add_assoc, Nat.add_sub_cancel_left]

/-! ## A narrow register -/

/-- A 32-bit register that is no half of a wide one. -/
theorem State.reg32_of_narrow {s : State} {fn off b o : Nat} (hp : regPlace fn off = some (b, o))
    (hw : s.wideReg fn b (o - o % 8) = none) : s.reg32 fn off = s.narrowReg fn b o := by
  simp only [State.reg32, hp, hw]

theorem State.write32_ecc {s : State} {off o : Nat} (hp : regPlace 0 off = some (5, o)) (v : Nat) :
    s.write32 0 off v = s.writeEccReg o v := by
  simp only [State.write32, hp]

theorem State.write32_ring {s : State} {off o : Nat} (hp : regPlace 0 off = some (2, o)) (v : Nat) :
    s.write32 0 off v = s.writeRingReg 0 (o / 64) (o % 64) v := by
  simp only [State.write32, hp]

theorem State.write32_unassigned {s : State} {fn off : Nat} (hp : regPlace fn off = none) (v : Nat) :
    s.write32 fn off v = s ∧ s.reg32 fn off = 0 := by
  simp only [State.write32, State.reg32, hp, and_self]

/-- The W1C registers of the Milestone, power and escort blocks keep the bits not written. -/
theorem State.w1c_reads_back (s : State) (v i : Nat) :
    bitOf ((s.write32 0 0x300018 v).reg32 0 0x300018) i = (bitOf s.mls.events i && !(decide (i < 9) && bitOf v i)) ∧
    bitOf ((s.write32 0 0x400020 v).reg32 0 0x400020) i = (bitOf s.power.events i && !(decide (i < 7) && bitOf v i)) ∧
    bitOf ((s.write32 0 0x500018 v).reg32 0 0x500018) i =
      (bitOf s.escort.events i && !(decide (i < 6) && bitOf v i)) :=
  ⟨bitOf_clearBits 9 s.mls.events v i, bitOf_clearBits 7 s.power.events v i, bitOf_clearBits 6 s.escort.events v i⟩

/-- The read-only registers that stand here ignore a write. -/
theorem State.write32_read_only (s : State) (v : Nat) {off : Nat}
    (h : off ∈ [0, 4, 0x10000, 0x20020, 0x20024, 0x200040, 0x200048, 0x20004C, 0x300000, 0x300004, 0x300008, 0x30000C,
      0x30001C, 0x400000, 0x400008, 0x40000C, 0x400010, 0x400014, 0x400018, 0x40001C, 0x500000, 0x500008, 0x500010,
      0x500014]) : s.write32 0 off v = s := by
  simp only [List.mem_cons, List.not_mem_nil, or_false] at h
  obtain rfl | rfl | rfl | rfl | rfl | rfl | rfl | rfl | rfl | rfl | rfl | rfl | rfl | rfl | rfl | rfl | rfl | rfl | rfl |
    rfl | rfl | rfl | rfl | rfl := h
  all_goals rfl

/-! ## The bases of a ring -/

/-- The bases of an enabled ring stay. -/
theorem State.write32_base_of_enabled {s : State} {ring off : Nat} (v : Nat) (hring : ring < 8) (hoff : off < 16)
    (hon : (s.ring 0 ring).enable = true) : s.write32 0 (0x20000 + 64 * ring + off) v = s := by
  rw [State.write32_ring (regPlace_ring hring (by omega)), show (64 * ring + off) / 64 = ring by omega,
    show (64 * ring + off) % 64 = off by omega]
  interval_cases off <;> simp [State.writeRingReg, hon]

/-- A base of a disabled ring takes the multiples of 4,096 written to its low half. -/
theorem State.write32_base_low {s : State} {ring : Nat} (v : Nat) (hring : ring < 8)
    (hoff : (s.ring 0 ring).enable = false) :
    s.write32 0 (0x20000 + 64 * ring) v = s.setRing 0 ring { s.ring 0 ring with
      cmdBase := setHalf ((s.ring 0 ring).cmdBase * 4096) false v / 4096 } := by
  have hp := regPlace_ring hring (off := 0) (by omega)
  simp only [Nat.add_zero] at hp
  rw [State.write32_ring hp, show 64 * ring / 64 = ring by omega, show 64 * ring % 64 = 0 by omega]
  simp [State.writeRingReg, hoff]

theorem State.reg32_base_low (s : State) {ring : Nat} (hring : ring < 8) :
    s.reg32 0 (0x20000 + 64 * ring) = (s.ring 0 ring).cmdBase * 4096 % 2 ^ 32 := by
  have hp := regPlace_ring hring (off := 0) (by omega)
  simp only [Nat.add_zero] at hp
  have h8 : 64 * ring % 8 = 0 := by omega
  have h64 : 64 * ring % 64 = 0 := by omega
  have hdiv : 64 * ring / 64 = ring := by omega
  simp only [State.reg32, hp, State.wideReg, h8, Nat.sub_zero, h64, hdiv, if_true]

/-- Settles O30: each register's write is read back by the same place. -/
theorem registersReadBack : Obligations.RegistersReadBack := by
  unfold Obligations.RegistersReadBack
  refine ⟨fun s v => rfl, fun s i v hi hlen => ?_, fun s fn k v hfn _ hk => ?_, State.w1c_reads_back,
    fun s v off h => s.write32_read_only v h, fun s fn off v hp => State.write32_unassigned hp v,
    fun s ring off v hring hoff hon => State.write32_base_of_enabled v hring hoff hon, fun s ring v hring hoff => ?_⟩
  · rw [State.write32_ecc (regPlace_flipMask hi)]
    interval_cases i <;> simp [State.reg32, regPlace, State.wideReg, State.narrowReg, State.writeEccReg, within, hlen]
  · have hp : regPlace fn (0x8000 + 4 * k) = some (3, 4 * k) := regPlace_vf_msix hfn hk
    rw [State.reg32_of_narrow hp rfl]
    simp [State.write32, hp, State.narrowReg]
  · rw [State.write32_base_low _ hring hoff, State.reg32_base_low _ hring, State.ring_setRing_self]
    simp only [setHalf, Bool.false_eq_true, if_false]
    omega

end Sys2Proof.Machine
end

section
/-! Digits, converter codes, checksum cells and weight cells (R32 to R44). -/

namespace Sys2Proof.Machine

/-! ## Rounding and conversion -/

/-- A quotient rounded to nearest is within half a unit of the exact one. -/
theorem rheDiv_near (n : Int) {d : Nat} (hd : 0 < d) : 2 * (n - d * rheDiv n d).natAbs ≤ d := by
  have hmod := Int.emod_add_mul_ediv n d
  have hlo := Int.emod_nonneg n (b := d) (by omega)
  have hhi := Int.emod_lt_of_pos n (b := d) (by omega)
  unfold rheDiv
  dsimp only
  split_ifs with hdown
  · simp only [Bool.or_eq_true, decide_eq_true_eq, Bool.and_eq_true] at hdown
    omega
  · simp only [Bool.or_eq_true, decide_eq_true_eq, Bool.and_eq_true, not_or] at hdown
    rw [mul_add, mul_one]
    omega

/-- A quotient rounded to nearest lies between the whole bounds of the exact one. -/
theorem rheDiv_bounds {n l h : Int} {d : Nat} (hd : 0 < d) (hl : l * d ≤ n) (hh : n ≤ h * d) :
    l ≤ rheDiv n d ∧ rheDiv n d ≤ h := by
  have hd' : (0 : Int) < d := by exact_mod_cast hd
  have hmod := Int.emod_add_mul_ediv n d
  have hlo := Int.emod_nonneg n hd'.ne'
  have hql : l ≤ n / d := (Int.le_ediv_iff_mul_le hd').2 hl
  have hqh : n / d ≤ h := Int.ediv_le_of_le_mul hd' hh
  unfold rheDiv
  dsimp only
  split_ifs with hdown
  · exact ⟨hql, hqh⟩
  · refine ⟨by omega, ?_⟩
    by_contra hgt
    have hq : n / d = h := by omega
    rw [hq, mul_comm] at hmod
    have hr : n % d = 0 := by omega
    simp [hr, hd] at hdown

theorem lsb2_pos (step : Nat) : 0 < lsb2 step := by
  unfold lsb2
  by_cases h : step < 8
  · interval_cases step <;> decide
  · rw [List.getD_eq_default _ _ (by simpa using h)]
    decide

theorem convert_bounds (p err : Int) (step : Nat) : -512 ≤ convert p step err ∧ convert p step err ≤ 511 := by
  unfold convert clampInt
  dsimp only
  split_ifs <;> omega

/-- An error-free conversion inside the full scale is the rounded quotient. -/
theorem convert_of_inside {p : Int} {step : Nat} (hlo : -512 * (lsb2 step : Int) ≤ 2 * p)
    (hhi : 2 * p ≤ 511 * (lsb2 step : Int)) : convert p step 0 = rheDiv (2 * p) (lsb2 step) := by
  obtain ⟨hl, hh⟩ := rheDiv_bounds (lsb2_pos step) hlo hhi
  simp only [convert, if_neg (not_lt.2 hlo), if_neg (not_lt.2 hhi), clampInt, add_zero, min_eq_right hh, max_eq_right hl]

theorem convert_near {p : Int} {step : Nat} (hlo : -512 * (lsb2 step : Int) ≤ 2 * p)
    (hhi : 2 * p ≤ 511 * (lsb2 step : Int)) :
    2 * (2 * p - (lsb2 step : Int) * convert p step 0).natAbs ≤ lsb2 step := by
  rw [convert_of_inside hlo hhi]
  exact rheDiv_near (2 * p) (lsb2_pos step)

/-- A column of four codes gathers their four errors by weight: 64 + 16 + 4 + 1 of half an LSB each. -/
theorem columnInt_near (p : Nat → Int) (step : Nat)
    (h : ∀ k, k < 4 → -512 * (lsb2 step : Int) ≤ 2 * p k ∧ 2 * p k ≤ 511 * (lsb2 step : Int)) :
    2 * (columnInt step (convert (p 3) step 0) (convert (p 2) step 0) (convert (p 1) step 0) (convert (p 0) step 0) -
      2 * (64 * p 3 + 16 * p 2 + 4 * p 1 + p 0)).natAbs ≤ 85 * lsb2 step := by
  have hnear := fun k hk => convert_near (h k hk).1 (h k hk).2
  have h0 := hnear 0 (by omega)
  have h1 := hnear 1 (by omega)
  have h2 := hnear 2 (by omega)
  have h3 := hnear 3 (by omega)
  rw [columnInt, mul_add, mul_add, mul_add, mul_left_comm _ (64 : Int), mul_left_comm _ (16 : Int),
    mul_left_comm _ (4 : Int)]
  omega

/-! ## Digits and cells -/

theorem digit_spec {x : Int} (hlo : -128 ≤ x) (hhi : x ≤ 127) :
    64 * digit x 3 + 16 * digit x 2 + 4 * digit x 1 + digit x 0 = x ∧ -2 ≤ digit x 3 ∧ digit x 3 ≤ 1 ∧
      ∀ k, k < 3 → 0 ≤ digit x k ∧ digit x k ≤ 3 := by
  have hd : ∀ k < 3, digit x k = ((twos 8 x / 4 ^ k % 4 : Nat) : Int) := by
    intro k hk
    have h3 : ¬k = 3 := by omega
    simp [digit, h3]
  refine ⟨?_, ?_, ?_, fun k hk => ?_⟩
  · have hu : (twos 8 x : Int) = x % 256 := Int.toNat_of_nonneg (Int.emod_nonneg x (by decide))
    rw [hd 0 (by omega), hd 1 (by omega), hd 2 (by omega)]
    simp only [digit, decide_true, Bool.true_and, decide_eq_true_eq, Nat.reducePow]
    split_ifs <;> omega
  · simp only [digit, decide_true, Bool.true_and, decide_eq_true_eq]
    split_ifs <;> omega
  · simp only [digit, decide_true, Bool.true_and, decide_eq_true_eq]
    split_ifs <;> omega
  · rw [hd k hk]
    omega

theorem cellValue_bounds (c : Nat) : -8 ≤ cellValue c ∧ cellValue c ≤ 7 := by
  unfold cellValue
  split_ifs <;> omega

/-- A cell written with its top bit inverted reads 8 less than the value. -/
theorem cellValue_xor_eight {c : Nat} (h : c < 16) : cellValue (Nat.xor c 8) = (c : Int) - 8 := by
  interval_cases c <;> decide

theorem checksumTriple_sum {r : Int} (hlo : -2048 ≤ r) (hhi : r ≤ 2047) :
    256 * cellValue (checksumTriple r).1 + 16 * cellValue (checksumTriple r).2.1 +
      cellValue (checksumTriple r).2.2 + 136 = r := by
  simp only [checksumTriple]
  rw [cellValue_xor_eight (Nat.mod_lt _ (by omega)), cellValue_xor_eight (Nat.mod_lt _ (by omega))]
  simp only [cellValue, twos]
  split_ifs <;> omega

/-- Settles O36. -/
theorem digitsCodesAndChecksums : Obligations.DigitsCodesAndChecksums := by
  unfold Obligations.DigitsCodesAndChecksums
  refine ⟨fun x => digit_spec, convert_bounds, fun p step => convert_near, fun r => checksumTriple_sum, fun w c hc => ?_,
    columnInt_near⟩
  obtain ⟨n, -, rfl⟩ := List.mem_map.1 hc
  exact cellValue_bounds _

end Sys2Proof.Machine
end

section
/-! PROOF. What a verification emits and keeps, and how the draft depth moves. Settles O48. -/

namespace Sys2Proof.Machine

/-- The tokens of a verification are the drafts it matched and one token that no draft is (R166). -/
theorem verifyFrom_tokens (t : TemplateRec) (seed n j : Nat) (counts : Map Nat) (drafts : List Nat)
    (logits : List (List F32)) :
    let v := verifyFrom t seed n counts drafts logits j
    v.matched ≤ drafts.length ∧ ∃ last, v.tokens = drafts.take v.matched ++ [last] ∧
      ∀ d, drafts[v.matched]? = some d → last ≠ d := by
  induction drafts generalizing counts logits j with
  | nil => exact ⟨Nat.le_refl _, _, rfl, by simp⟩
  | cons d rest ih =>
    obtain ⟨hle, last, htok, hlast⟩ := ih (j + 1) (countToken counts d) logits.tail
    by_cases hd : (samplePosition t counts (logits.headD []) (sampleU seed n j)).1 = d
    · rw [verifyFrom]
      simp only [hd, if_true]
      exact ⟨Nat.succ_le_succ hle, last, by simp [htok], fun e he => hlast e (by simpa using he)⟩
    · rw [verifyFrom]
      simp only [hd, if_false]
      exact ⟨Nat.zero_le _, _, rfl, fun e he => by simp at he; exact he ▸ hd⟩

/-- What is taken through the first element with `f`: an initial part, with `f` false before its last element and, where
something was left, true of it. -/
theorem takeThrough_spec {α : Type} (f : α → Bool) (l : List α) :
    takeThrough f l <+: l ∧ (∀ x ∈ (takeThrough f l).dropLast, f x = false) ∧
    ((takeThrough f l).length < l.length → ∃ x, (takeThrough f l).getLast? = some x ∧ f x = true) := by
  induction l with
  | nil => exact ⟨List.prefix_refl _, by simp [takeThrough], by simp [takeThrough]⟩
  | cons x rest ih =>
    obtain ⟨hpre, hbefore, hlast⟩ := ih
    cases hf : f x
    · simp only [takeThrough, hf, Bool.false_eq_true, if_false]
      refine ⟨List.cons_prefix_cons.mpr ⟨rfl, hpre⟩, fun y hy => ?_, fun hlen => ?_⟩
      · cases htail : takeThrough f rest with
        | nil => simp [htail] at hy
        | cons z zs =>
          rw [htail, List.dropLast_cons_cons, List.mem_cons, ← htail] at hy
          exact hy.elim (fun h => h ▸ hf) (hbefore y)
      · obtain ⟨y, hy, hfy⟩ := hlast (by simpa using hlen)
        exact ⟨y, by rw [List.getLast?_cons, hy]; rfl, hfy⟩
    · simp only [takeThrough, hf, if_true]
      exact ⟨by simp, by simp, fun _ => ⟨x, rfl, hf⟩⟩

/-- Tokens kept: the first of those emitted, within the room, with the stop token at most in the last place (R158). -/
theorem keepTokens_spec (room stop : Nat) (l : List Nat) :
    let k := keepTokens room stop l
    k.length ≤ room ∧ k <+: l ∧ (stop ≠ 0xFFFFFFFF → stop ∉ k.dropLast) ∧
    (k.length < min room l.length → k.getLast? = some stop ∧ stop ≠ 0xFFFFFFFF) := by
  obtain ⟨hpre, hbefore, hlast⟩ :=
    takeThrough_spec (fun t => stop ≠ 0xFFFFFFFF && t = stop) (l.take room)
  refine ⟨hpre.length_le.trans (List.length_take_le _ _), hpre.trans (List.take_prefix _ _),
    fun hstop hmem => ?_, fun hlen => ?_⟩
  · have := hbefore stop hmem
    simp [hstop] at this
  · obtain ⟨x, hx, hfx⟩ := hlast (by rwa [List.length_take])
    obtain ⟨hstop, rfl⟩ : stop ≠ 0xFFFFFFFF ∧ x = stop := by simpa using hfx
    exact ⟨hx, hstop⟩

/-- The depth moves by at most one, up after full acceptance and down after none (R168). -/
theorem nextDepth_moves (depth d m zr fr limit zl fl : Nat) :
    let x := (nextDepth depth d m zr fr limit zl fl).1
    x ≤ depth + 1 ∧ depth ≤ x + 1 ∧ (depth < x → depth < limit ∧ m = d ∧ fl ≤ fr + 1) ∧
    (x < depth → 0 < d ∧ m = 0 ∧ zl ≤ zr + 1) := by
  unfold nextDepth
  dsimp only
  split
  · next h =>
    obtain ⟨hd, hm⟩ : 0 < d ∧ m = 0 := by simpa using h
    split <;> dsimp only <;> omega
  · split
    · split
      · split <;> dsimp only <;> omega
      · dsimp only; omega
    · dsimp only; omega

/-- Settles O48: each of the three parts is its function's own lemma. -/
theorem verificationAndDepth : Obligations.VerificationAndDepth :=
  ⟨verifyFrom_tokens, keepTokens_spec, nextDepth_moves⟩

end Sys2Proof.Machine
end

section
/-! PROOF. The ranges that an allocation of bays gives (R86, R87). Settles O40. -/

namespace Sys2Proof.Machine

/-- The ranges of two bays do not meet, or they share no slice. -/
def BaysApart (a b : Bay) : Prop :=
  masksMeet a.sliceMask b.sliceMask = true → a.start + a.share ≤ b.start ∨ b.start + b.share ≤ a.start

theorem masksMeet_comm (a b : Nat) : masksMeet a b = masksMeet b a := by
  simp only [masksMeet, Bool.and_comm]

theorem BaysApart.symm {a b : Bay} (h : BaysApart a b) : BaysApart b a := fun hm =>
  (h (masksMeet_comm b.sliceMask a.sliceMask ▸ hm)).symm

/-- A range that meets that of no bay on its slices is apart from it. -/
theorem baysApart_of_not_meets {a b : Bay}
    (h : (masksMeet a.sliceMask b.sliceMask && rangesMeet a.start a.share b) = false) : BaysApart a b := by
  intro hm
  simp only [hm, rangesMeet, Bool.true_and, Bool.and_eq_false_iff, decide_eq_false_iff_not] at h
  omega

/-- A start that was found fits below the top and meets no placed bay on its slices. -/
theorem firstFit_fits {placed : List Bay} {mask k top start fuel st : Nat}
    (h : firstFit placed mask k top start fuel = some st) :
    st + k ≤ top ∧ ∀ b ∈ placed, (masksMeet mask b.sliceMask && rangesMeet st k b) = false := by
  induction fuel generalizing start with
  | zero => cases h
  | succ n ih =>
    rw [firstFit] at h
    split at h
    · cases h
    · split at h
      · exact ih h
      · next htop hmeet =>
        cases h
        exact ⟨by omega, by simpa using hmeet⟩

/-- What allocation makes of one numbered bay: its start alone may move, and not where its range is fixed. -/
def Reallocated (p q : Nat × Bay) : Prop :=
  q.1 = p.1 ∧ q.2 = { p.2 with start := q.2.start } ∧ (Bay.fixedRange p.2 = true → q = p)

theorem Reallocated.refl (p : Nat × Bay) : Reallocated p p := ⟨rfl, rfl, fun _ => rfl⟩

theorem Reallocated.fixedRange_eq {p q : Nat × Bay} (h : Reallocated p q) :
    Bay.fixedRange q.2 = Bay.fixedRange p.2 := by
  obtain ⟨-, hq, -⟩ := h
  rw [hq]
  rfl

/-- A bay whose range may move was placed: below the top, and apart from the bays given. -/
def PlacedAmong (top : Nat) (placed : List Bay) (b : Bay) : Prop :=
  Bay.fixedRange b = false → b.start + b.share ≤ top ∧ ∀ c ∈ placed, BaysApart b c

/-- Two bays whose ranges may move are apart. -/
def MovableApart (a b : Bay) : Prop :=
  Bay.fixedRange a = false → Bay.fixedRange b = false → BaysApart a b

/-- Allocation keeps each bay but for its start, and places those that may move apart from each other and from the
bays given. -/
theorem placeBays_spec {top : Nat} {placed : List Bay} {l m : Map Bay} (h : placeBays top placed l = some m) :
    List.Forall₂ Reallocated l m ∧ (∀ q ∈ m, PlacedAmong top placed q.2) ∧
    m.Pairwise fun p q => MovableApart p.2 q.2 := by
  induction l generalizing placed m with
  | nil => cases h; exact ⟨.nil, by simp, .nil⟩
  | cons p rest ih =>
    rw [placeBays] at h
    split at h
    · next hfixed =>
      obtain ⟨m', hm', rfl⟩ := Option.map_eq_some_iff.mp h
      obtain ⟨hall, hplaced, hpair⟩ := ih hm'
      have habsurd : ∀ {P : Prop}, Bay.fixedRange p.2 = false → P := fun hf => by simp [hfixed] at hf
      exact ⟨.cons (Reallocated.refl _) hall, List.forall_mem_cons.mpr ⟨fun hf => habsurd hf, hplaced⟩,
        .cons (fun _ _ hf => habsurd hf) hpair⟩
    · next hfixed =>
      split at h
      · cases h
      · next st hfit =>
        obtain ⟨m', hm', rfl⟩ := Option.map_eq_some_iff.mp h
        obtain ⟨hall, hplaced, hpair⟩ := ih hm'
        obtain ⟨htop, hmeets⟩ := firstFit_fits hfit
        refine ⟨.cons ⟨rfl, rfl, fun hf => absurd hf hfixed⟩ hall, List.forall_mem_cons.mpr
          ⟨fun _ => ⟨htop, fun c hc => baysApart_of_not_meets (hmeets c hc)⟩, fun q hq hmov => ?_⟩,
          .cons (fun q hq _ hmov => ?_) hpair⟩
        · obtain ⟨hend, hapart⟩ := hplaced q hq hmov
          exact ⟨hend, fun c hc => hapart c (List.mem_cons_of_mem _ hc)⟩
        · exact ((hplaced q hq hmov).2 _ List.mem_cons_self).symm

/-- Ranges that may not move end below the top and are apart. -/
theorem fixedFit_spec {l : Map Bay} {top : Nat} (h : fixedFit l top = true) {p : Nat × Bay} (hp : p ∈ l)
    (hfixed : Bay.fixedRange p.2 = true) :
    p.2.start + p.2.share ≤ top ∧
    ∀ q ∈ l, Bay.fixedRange q.2 = true → q.1 ≠ p.1 → BaysApart p.2 q.2 := by
  have hall := List.all_eq_true.mp h p (List.mem_filter.mpr ⟨hp, hfixed⟩)
  simp only [Bool.and_eq_true, decide_eq_true_eq, Bool.not_eq_true', List.any_eq_false] at hall
  obtain ⟨htop, hmeets⟩ := hall
  refine ⟨htop, fun q hq hqf hne => baysApart_of_not_meets ?_⟩
  have := hmeets q (List.mem_filter.mpr ⟨hq, hqf⟩)
  simpa [hne] using this

/-- An allocation that answers keeps the bays but for their starts, with every range below the top and apart from
the others. -/
theorem allocateBays_spec {l m : Map Bay} {top : Nat} (h : allocateBays l top = some m) :
    List.Forall₂ Reallocated l m ∧ (∀ p ∈ m, p.2.start + p.2.share ≤ top) ∧
    (∀ p ∈ m, ∀ q ∈ m, p.1 ≠ q.1 → BaysApart p.2 q.2) ∧ sharesFit l = true := by
  unfold allocateBays at h
  split at h
  · cases h
  next hfit =>
  obtain ⟨hshares, hfixedFit⟩ : sharesFit l = true ∧ fixedFit l top = true := by simpa using hfit
  obtain ⟨hall, hplaced, hpair⟩ := placeBays_spec h
  have hold : ∀ q ∈ m, Bay.fixedRange q.2 = true → q ∈ l := fun q hq hf => by
    obtain ⟨i, hi, rfl⟩ := List.getElem_of_mem hq
    have hil : i < l.length := hall.length_eq ▸ hi
    have hre := List.forall₂_iff_get.mp hall |>.2 i hil hi
    have heq := hre.2.2 (hre.fixedRange_eq ▸ hf)
    simp only [List.get_eq_getElem] at heq
    exact heq ▸ List.getElem_mem hil
  have hmixed : ∀ p ∈ m, ∀ q ∈ m, Bay.fixedRange p.2 = false → Bay.fixedRange q.2 = true → BaysApart p.2 q.2 :=
    fun p hp q hq hpf hqf => (hplaced p hp hpf).2 _
      (List.mem_map.mpr ⟨q, List.mem_filter.mpr ⟨hold q hq hqf, hqf⟩, rfl⟩)
  refine ⟨hall, fun p hp => ?_, fun p hp q hq hne => ?_, hshares⟩
  · cases hpf : Bay.fixedRange p.2
    · exact (hplaced p hp hpf).1
    · exact (fixedFit_spec hfixedFit (hold p hp hpf) hpf).1
  · cases hpf : Bay.fixedRange p.2 <;> cases hqf : Bay.fixedRange q.2
    · have : Std.Symm fun a b : Nat × Bay => MovableApart a.2 b.2 := ⟨fun _ _ hab hb ha => (hab ha hb).symm⟩
      exact hpair.forall hp hq (fun heq => hne (congrArg Prod.fst heq)) hpf hqf
    · exact hmixed p hp q hq hpf hqf
    · exact (hmixed q hq p hp hqf hpf).symm
    · exact (fixedFit_spec hfixedFit (hold p hp hpf) hpf).2 q (hold q hq hqf) hqf hne.symm

/-- A reallocation keeps the shares on every slice. -/
theorem shares_reallocated {l m : Map Bay} (h : List.Forall₂ Reallocated l m) (i : Nat) :
    (m.filter fun p => bitOf p.2.sliceMask i).map (·.2.share) =
      (l.filter fun p => bitOf p.2.sliceMask i).map (·.2.share) := by
  induction h with
  | nil => rfl
  | @cons p q _ _ hpq _ ih =>
    obtain ⟨-, hq, -⟩ := hpq
    have hmask : q.2.sliceMask = p.2.sliceMask := by rw [hq]
    have hshare : q.2.share = p.2.share := by rw [hq]
    simp only [List.filter_cons, hmask]
    split
    · simp [hshare, ih]
    · exact ih

/-- Settles O40, from what `allocateBays_spec` says of an allocation. -/
theorem baysNeverMeet : Obligations.BaysNeverMeet := by
  intro l m top _ h
  obtain ⟨hall, htop, hapart, hshares⟩ := allocateBays_spec h
  refine ⟨?_, fun i p q hp hq => ?_, htop, hapart, fun i hi => ?_⟩
  · rw [← List.forall₂_eq_eq_eq, List.forall₂_map_left_iff, List.forall₂_map_right_iff]
    exact hall.flip.imp fun _ _ hpq => hpq.1
  · obtain ⟨hil, rfl⟩ := List.getElem?_eq_some_iff.mp hp
    obtain ⟨him, rfl⟩ := List.getElem?_eq_some_iff.mp hq
    exact (List.forall₂_iff_get.mp hall |>.2 i hil him).2
  · rw [shares_reallocated hall]
    exact of_decide_eq_true (List.all_eq_true.mp hshares i (List.mem_range.mpr hi))

end Sys2Proof.Machine
end

section
/-! PROOF. The order of candidates, the step a request would take, the limits of a convoy and its order (R153 to R156).
Settles O47. -/

namespace Sys2Proof.Machine

/-- What decides between two ranks, as one key that is compared from left to right (R156): group, key, priority
descending, creation. -/
def Rank.sortKey (a : Rank) : Nat ×ₗ Int ×ₗ Natᵒᵈ ×ₗ Nat :=
  toLex (a.group, toLex (a.key, toLex (OrderDual.toDual a.req.priority, a.req.order)))

/-- One rank goes before another exactly when its key is the lower. -/
theorem Rank.before_iff (a b : Rank) : a.before b = true ↔ a.sortKey < b.sortKey := by
  simp only [Rank.before, Rank.sortKey, Prod.Lex.toLex_lt_toLex, OrderDual.toDual_lt_toDual, OrderDual.toDual_inj]
  split_ifs with hgroup hkey hpri <;> simp_all

/-- Insertion of a rank adds it and nothing else. -/
theorem insertRank_perm (x : Rank) (l : List Rank) : (insertRank x l).Perm (x :: l) := by
  induction l with
  | nil => exact .refl _
  | cons y r ih =>
    rw [insertRank]
    split
    · exact .refl _
    · exact (ih.cons y).trans (.swap x y r)

/-- Insertion keeps a list of ranks in order. -/
theorem insertRank_sorted (x : Rank) {l : List Rank} (h : l.Pairwise fun a b => a.sortKey ≤ b.sortKey) :
    (insertRank x l).Pairwise fun a b => a.sortKey ≤ b.sortKey := by
  induction l with
  | nil => exact List.pairwise_singleton _ _
  | cons y r ih =>
    obtain ⟨hy, hr⟩ := List.pairwise_cons.mp h
    rw [insertRank]
    split
    · next hbefore =>
      have hxy := ((x.before_iff y).mp hbefore).le
      exact List.pairwise_cons.mpr ⟨List.forall_mem_cons.mpr ⟨hxy, fun z hz => hxy.trans (hy z hz)⟩, h⟩
    · next hbefore =>
      have hyx := not_lt.mp (mt (x.before_iff y).mpr hbefore)
      refine List.pairwise_cons.mpr ⟨fun z hz => ?_, ih hr⟩
      exact (List.mem_cons.mp ((insertRank_perm x r).mem_iff.mp hz)).elim (fun heq => heq ▸ hyx) (hy z)

/-- Insertion of a member adds it and nothing else. -/
theorem insertMember_perm (m : Member) (l : List Member) : (insertMember m l).Perm (m :: l) := by
  induction l with
  | nil => exact .refl _
  | cons x r ih =>
    rw [insertMember]
    split
    · exact .refl _
    · exact (ih.cons x).trans (.swap m x r)

/-- Insertion keeps a list of members in ascending bucket bounds. -/
theorem insertMember_sorted (m : Member) {l : List Member} (h : l.Pairwise fun a b => a.bound ≤ b.bound) :
    (insertMember m l).Pairwise fun a b => a.bound ≤ b.bound := by
  induction l with
  | nil => exact List.pairwise_singleton _ _
  | cons x r ih =>
    obtain ⟨hx, hr⟩ := List.pairwise_cons.mp h
    rw [insertMember]
    split
    · next hlt =>
      exact List.pairwise_cons.mpr ⟨List.forall_mem_cons.mpr ⟨hlt.le, fun z hz => hlt.le.trans (hx z hz)⟩, h⟩
    · next hlt =>
      refine List.pairwise_cons.mpr ⟨fun z hz => ?_, ih hr⟩
      exact (List.mem_cons.mp ((insertMember_perm m r).mem_iff.mp hz)).elim (fun heq => heq ▸ not_lt.mp hlt) (hx z)

/-- A list built by insertions that add their element alone and keep the order holds what was inserted, in order. -/
theorem foldl_insert_spec {α : Type} {ins : α → List α → List α} {R : α → α → Prop}
    (hperm : ∀ x l, (ins x l).Perm (x :: l)) (hsorted : ∀ x l, l.Pairwise R → (ins x l).Pairwise R) (l : List α) :
    (l.foldl (fun acc x => ins x acc) []).Perm l ∧ (l.foldl (fun acc x => ins x acc) []).Pairwise R := by
  induction l using List.reverseRecOn with
  | nil => exact ⟨.refl _, .nil⟩
  | append_singleton rest x ih =>
    rw [List.foldl_append]
    exact ⟨(hperm x _).trans ((ih.1.cons x).trans (List.perm_append_singleton x rest).symm), hsorted x _ ih.2⟩

/-- A planned step fits the room, the history and what the request has left (R129, R156, R167). -/
theorem State.plan_fits {s : State} {p : PolicyParams} {room : Nat} {r : Req} {m : Member}
    (h : s.plan p room r = some m) :
    m.request = r.id ∧ m.q ≤ room ∧ s.committedLength r + m.q ≤ s.historyLimit r ∧
    1 ≤ m.q ∧
    (r.prefill = [] → m.prefill = false ∧ m.q ≤ max 1 r.left ∧ m.q ≤ r.drafts.length + 1) ∧
    (r.prefill ≠ [] → m.prefill = true ∧ m.q ≤ p.prefillChunk ∧ (m.samples = true ↔ m.q = r.prefill.length)) := by
  unfold State.plan at h
  dsimp only at h
  split at h
  · cases h
  next hlen =>
  split at h
  · next hprefill =>
    have hne : r.prefill ≠ [] := List.ne_nil_of_length_pos hprefill
    split at h
    · cases h
    · cases h
      exact ⟨rfl, by dsimp only; omega, by dsimp only; omega, by dsimp only; omega, fun hnil => absurd hnil hne,
        fun _ => ⟨rfl, by dsimp only; omega, by simp⟩⟩
  · next hprefill =>
    have hnil : r.prefill = [] := List.eq_nil_of_length_eq_zero (by omega)
    split at h
    · cases h
    · cases h
      exact ⟨rfl, by dsimp only; omega, by dsimp only; omega, by dsimp only; omega,
        fun _ => ⟨rfl, by dsimp only; omega, by dsimp only; omega⟩, fun hne => absurd hnil hne⟩

/-- Admission keeps within the requests and the positions allowed, and takes each candidate at most once (R156). -/
theorem State.admitAll_limits (s : State) (n : Nat) (p : PolicyParams) (rs : List Rank) (acc : List Member)
    (room : Nat) (hacc : acc.length ≤ p.maxRequests) :
    let ms := (s.admitAll n p rs acc room).1
    ms.length ≤ p.maxRequests ∧ (ms.map (·.q)).sum ≤ (acc.map (·.q)).sum + room ∧
    ms.length ≤ acc.length + rs.length := by
  induction rs generalizing s acc room with
  | nil => exact ⟨hacc, Nat.le_add_right _ _, Nat.le_refl _⟩
  | cons x rest ih =>
    have hpassed : ∀ t : State, let ms := (t.admitAll n p rest acc room).1
        ms.length ≤ p.maxRequests ∧ (ms.map (·.q)).sum ≤ (acc.map (·.q)).sum + room ∧
        ms.length ≤ acc.length + (x :: rest).length := fun t => by
      obtain ⟨hreq, hsum, hlen⟩ := ih t acc room hacc
      exact ⟨hreq, hsum, by rw [List.length_cons]; omega⟩
    rw [State.admitAll]
    split
    · exact hpassed _
    next m hplan =>
    split
    · exact hpassed _
    next hroom =>
    split
    · next t _ =>
      obtain ⟨hreq, hsum, hlen⟩ := ih (if x.group = 0 then t.count 0x0003 n 0 0 0 88 1 else t) (acc ++ [m])
        (room - m.q) (by simp; omega)
      have hq := (State.plan_fits hplan).2.1
      refine ⟨hreq, hsum.trans ?_, hlen.trans ?_⟩
      · simp; omega
      · simp; omega
    · exact hpassed _

/-- Settles O47: the two sorts by insertion, the planned step and the limits of admission. -/
theorem admissionOrder : Obligations.AdmissionOrder := by
  refine ⟨fun l => ?_, fun s p room r m => State.plan_fits, fun s n p rs => ?_, fun ms => ?_⟩
  · obtain ⟨hperm, hsorted⟩ := foldl_insert_spec insertRank_perm (fun x l => insertRank_sorted x) l
    exact ⟨hperm, hsorted.imp fun {a b} hab =>
      Bool.eq_false_iff.mpr (mt (b.before_iff a).mp hab.not_gt)⟩
  · simpa using s.admitAll_limits n p rs [] p.maxTokens (Nat.zero_le _)
  · exact foldl_insert_spec insertMember_perm (fun x l => insertMember_sorted x) ms

end Sys2Proof.Machine
end

section
/-! PROOF. The replay window of an SRTP stream and the box filter (R174, R199, R200). Settles O52. -/

namespace Sys2Proof.Machine

/-- No element of a list is above its maximum. -/
theorem le_foldl_max {l : List Nat} {j : Nat} (h : j ∈ l) : j ≤ l.foldl max 0 := by
  rw [List.foldl_eq_foldr]
  exact List.le_max_of_le h le_rfl

/-- The maximum of a list stands in it, where it is not 0. -/
theorem foldl_max_mem {l : List Nat} (h : l.foldl max 0 ≠ 0) : l.foldl max 0 ∈ l := by
  induction l using List.reverseRecOn with
  | nil => exact absurd rfl h
  | append_singleton rest x ih =>
    rw [List.foldl_append] at h ⊢
    simp only [List.foldl_cons, List.foldl_nil] at h ⊢
    rcases le_total (rest.foldl max 0) x with hle | hle
    · simp [max_eq_right hle]
    · rw [max_eq_left hle] at h ⊢
      exact List.mem_append_left _ (ih h)

/-- An index seen is not new. -/
theorem replayFresh_seen_self (replay : List Nat) {i : Int} (h : replayFresh replay i = true) :
    replayFresh (replaySeen replay i.toNat) i = false := by
  simp only [replayFresh, Bool.and_eq_true, decide_eq_true_eq] at h
  have hmem : i.toNat ∈ replaySeen replay i.toNat := by
    simp only [replaySeen, List.mem_filter, List.mem_cons_self, true_and, decide_eq_true_eq]
    omega
  simp [replayFresh, hmem]

/-- An index of the window before is not new either: it is still in the window, or 128 behind its highest (R174). -/
theorem replayFresh_seen_of_mem {replay : List Nat} {i j : Nat} (h : j ∈ replay) :
    replayFresh (replaySeen replay i) j = false := by
  by_cases hin : max (replay.foldl max 0) i < j + 128
  · have hmem : j ∈ replaySeen replay i := by
      simpa [replaySeen, h] using hin
    simp [replayFresh, hmem]
  · have htop : max (replay.foldl max 0) i ∈ i :: replay := by
      rcases le_total (replay.foldl max 0) i with hle | hle
      · simp [max_eq_right hle]
      · rw [max_eq_left hle] at hin ⊢
        exact List.mem_cons_of_mem _ (foldl_max_mem (by omega))
    have hkept : max (replay.foldl max 0) i ∈ replaySeen replay i := by
      simp only [replaySeen, List.mem_filter, htop, true_and, decide_eq_true_eq]
      omega
    have hle := le_foldl_max hkept
    have hold : ¬ (((replaySeen replay i).foldl max 0 : Nat) : Int) < (j : Int) + 128 := by omega
    simp [replayFresh, hold]

/-- The replay window of a stream, where it is open. -/
def State.replayOf (s : State) (n : Nat) : Option (List Nat) := (s.vstream n).map (·.replay)

theorem State.replayOf_setVstream (s : State) (n : Nat) (x : VStream) :
    (s.setVstream n x).replayOf n = some x.replay := by
  simp [State.replayOf, State.vstream, State.setVstream]

theorem State.replayOf_countStream (s : State) (n off k m : Nat) :
    (s.countStream n off k).replayOf m = s.replayOf m := by
  unfold State.countStream
  split
  · rfl
  · have hvideo : (s.count 0x0005 0 0 n 0 off k).video = s.video := (congrArg State.video (s.count_trunk _ _ _ _ _ _ _) :)
    simp only [State.replayOf, State.vstream, hvideo]

/-- An access unit handed on leaves the replay window of its stream. -/
theorem State.replayOf_handOn (s : State) (n i : Nat) : (s.handOn n i).replayOf n = s.replayOf n := by
  unfold State.handOn
  split
  · rfl
  next x hx =>
  split
  · rfl
  · dsimp only
    rw [State.replayOf_countStream, State.replayOf_countStream]
    refine (State.replayOf_setVstream s n _).trans ?_
    rw [State.replayOf, hx]
    rfl

theorem State.replayOf_handComplete (s : State) (n fuel : Nat) :
    (s.handComplete n fuel).replayOf n = s.replayOf n := by
  induction fuel generalizing s with
  | zero => rfl
  | succ k ih =>
    unfold State.handComplete
    split
    · next hk _ =>
      cases hk
      split
      · rw [ih, State.replayOf_handOn]
      · rfl
    · rfl

/-- Reassembly leaves the replay window of its stream. -/
theorem State.replayOf_reassemble {s : State} {n : Nat} {x : VStream} (h : s.vstream n = some x) (p : RtpPacket) :
    (s.reassemble n x p).replayOf n = some x.replay := by
  have hs : s.replayOf n = some x.replay := by rw [State.replayOf, h]; rfl
  unfold State.reassemble
  dsimp only
  split
  · rw [State.replayOf_countStream, hs]
  split
  · split
    · exact hs
    · split
      · exact hs
      · rw [State.replayOf_handComplete, State.replayOf_setVstream]
  · have ht : ∀ t : State, t = (if x.units.length ≥ 2 then s.handOn n 0 else s) → t.replayOf n = some x.replay := by
      rintro t rfl
      split
      · rw [State.replayOf_handOn, hs]
      · exact hs
    generalize (if x.units.length ≥ 2 then s.handOn n 0 else s) = t at ht
    have ht := ht t rfl
    split
    · exact ht
    · next y hy =>
      rw [State.replayOf_handComplete, State.replayOf_setVstream]
      rw [State.replayOf, hy] at ht
      exact ht

/-- A packet of an SRTP stream that holds leaves its index in the stream's replay window (R174). -/
theorem replayOf_rtpPacket {s t : State} {p : RtpPacket} {n : Nat} {x : VStream}
    (hmatch : s.matchStream p.port p.udpPort p.ssrc p.vlan = some (n, x)) (hruns : s.videoRuns = true)
    (hsrtp : x.params.srtp = true) (hok : s.srtpOk n x (srtpIndex x.replay p.seq) p.body p.tag = true)
    (hexec : execRtpPacket p s = .next t) :
    t.replayOf n = some (replaySeen x.replay (srtpIndex x.replay p.seq).toNat) := by
  simp only [execRtpPacket, hmatch, hruns, hsrtp, hok, Bool.not_true, Bool.and_false, Bool.false_eq_true, if_false,
    if_true] at hexec
  split at hexec
  · cases hexec
    rw [State.replayOf_countStream, State.replayOf_setVstream]
  · cases hexec
    exact State.replayOf_reassemble (by simp [State.vstream, State.setVstream]) _

theorem insertBox_perm (x : BoxRec) (l : List BoxRec) : (insertBox x l).Perm (x :: l) := by
  induction l with
  | nil => exact .refl _
  | cons y r ih =>
    rw [insertBox]
    split
    · exact (ih.cons y).trans (.swap x y r)
    · exact .refl _

/-- Two boxes, the first kept earlier, do not overlap beyond IOU_MAX where they are compared (R200). -/
def BoxesApart (d : DetHead) (a b : BoxRec) : Prop :=
  ((!d.classAware || a.cls = b.cls) && F32.lt d.iouMax (iou a b)) = false

/-- Suppression keeps at most 256 of the boxes, no two of them overlapping beyond the limit (R200). -/
theorem suppress_spec (d : DetHead) (l kept : List BoxRec) (hlen : kept.length ≤ 256)
    (hapart : kept.Pairwise (BoxesApart d)) :
    (suppress d l kept).length ≤ 256 ∧ (∀ b ∈ suppress d l kept, b ∈ kept ∨ b ∈ l) ∧
    (suppress d l kept).Pairwise (BoxesApart d) := by
  induction l generalizing kept with
  | nil => exact ⟨hlen, fun _ => .inl, hapart⟩
  | cons x r ih =>
    rw [suppress]
    split
    · exact ⟨hlen, fun _ => .inl, hapart⟩
    next hroom =>
    split
    · obtain ⟨hl, hmem, hpair⟩ := ih kept hlen hapart
      exact ⟨hl, fun b hb => (hmem b hb).imp_right (List.mem_cons_of_mem _), hpair⟩
    · next hfree =>
      have hx : ∀ k ∈ kept, BoxesApart d k x := by simpa [BoxesApart] using hfree
      obtain ⟨hl, hmem, hpair⟩ := ih (kept ++ [x]) (by simp; omega)
        (List.pairwise_append.mpr ⟨hapart, List.pairwise_singleton _ _, by simpa using hx⟩)
      refine ⟨hl, fun b hb => ?_, hpair⟩
      have := hmem b hb
      simp only [List.mem_append, List.mem_cons] at this ⊢
      tauto

/-- The box filter keeps few, valid and scored candidates that are apart, and counts the invalid ones (R199, R200). -/
theorem boxFilter_spec (d : DetHead) (flags frame : Nat) (raw : List RawCandidate) :
    let f := boxFilter d flags frame raw
    let all := ((candPlaces d).zip raw).zipIdx.map fun p => candidateOf flags frame p.2 p.1.1 p.1.2
    f.1.length ≤ 256 ∧ (∀ b ∈ f.1, b ∈ all ∧ boxValid b = true ∧ F32.le d.scoreMin b.score = true) ∧
    f.1.Pairwise (BoxesApart d) ∧ f.2.2 = (all.filter fun b => !boxValid b).length := by
  intro f all
  let scored := (all.filter boxValid).filter fun b => F32.le d.scoreMin b.score
  let sorted := scored.foldl (fun a b => insertBox b a) []
  have hsorted : sorted.Perm scored :=
    (foldl_insert_spec (R := fun _ _ => True) insertBox_perm
      (fun _ _ _ => List.pairwise_of_forall fun _ _ => trivial) scored).1
  obtain ⟨hlen, hmem, hpair⟩ := suppress_spec d (sorted.take 4096) [] (Nat.zero_le _) .nil
  refine ⟨hlen, fun b hb => ?_, hpair, ?_⟩
  · have htake : b ∈ sorted.take 4096 := (hmem b hb).resolve_left (List.not_mem_nil)
    have hb := hsorted.mem_iff.mp (List.mem_of_mem_take htake)
    simp only [scored, List.mem_filter] at hb
    exact ⟨hb.1.1, hb.1.2, hb.2⟩
  · have := List.length_eq_length_filter_add (l := all) boxValid
    change all.length - (all.filter boxValid).length = _
    omega

/-- Settles O52, by the replay window after a packet and the box filter's own lemma. -/
theorem replaysAndBoxes : Obligations.ReplaysAndBoxes := by
  refine ⟨fun s t p n x y hmatch hruns hsrtp hok hexec hy => ?_, boxFilter_spec⟩
  have hwindow := replayOf_rtpPacket hmatch hruns hsrtp hok hexec
  rw [State.replayOf, hy] at hwindow
  have hreplay : y.replay = _ := Option.some.inj hwindow
  simp only [State.srtpOk, Bool.and_eq_true] at hok
  rw [hreplay]
  exact ⟨replayFresh_seen_self _ hok.1, fun j hj => replayFresh_seen_of_mem hj⟩

end Sys2Proof.Machine
end

section
/-! PROOF. The frame of the operations on page frames: references, allocation and the return to the pool touch the frame
tables, the memories' bytes and the flash record of retired frames alone (R122 to R131, R248, R268). -/

namespace Sys2Proof.Machine

theorem Map.get?_erase_self {α : Type} (m : Map α) (k : Nat) : Map.get? (Map.erase m k) k = none := by
  induction m with
  | nil => rfl
  | cons p r ih =>
    obtain ⟨i, v⟩ := p
    by_cases h : i = k
    · simpa [Map.erase, h] using ih
    · simpa [Map.erase, Map.get?, h] using ih

theorem Map.get?_erase_ne {α : Type} (m : Map α) {k j : Nat} (h : j ≠ k) :
    Map.get? (Map.erase m k) j = Map.get? m j := by
  induction m with
  | nil => rfl
  | cons p r ih =>
    obtain ⟨i, v⟩ := p
    by_cases hi : i = k
    · have hj : i ≠ j := fun e => h (e.symm.trans hi)
      simpa [Map.erase, Map.get?, hi, hi ▸ hj] using ih
    · simp only [Map.erase, List.filter_cons, bne_iff_ne, ne_eq, hi, not_false_eq_true, if_true, Map.get?]
      split
      · rfl
      · exact ih

theorem Map.get?_modify {α : Type} (m : Map α) (k j : Nat) (f : α → α) :
    Map.get? (Map.modify m k f) j = if j = k then (Map.get? m j).map f else Map.get? m j := by
  induction m with
  | nil => simp [Map.modify, Map.get?]
  | cons p r ih =>
    obtain ⟨i, v⟩ := p
    by_cases hi : i = k <;> by_cases hij : i = j <;> simp_all [Map.modify, Map.get?]

/-! ## The frame tables -/

/-- The state with the frame tables blanked: frame records, families, free context IDs and divided frames. -/
def State.offTables (s : State) : State :=
  { s with ctxs := { s.ctxs with frames := [], families := [], freedIds := [], tableFrames := [], nextId := 0 } }

/-- The state with the frame tables, the bytes of the memories, the flash record of retired frames and what `State.trunk`
blanks blanked. -/
def State.offPool (s : State) : State :=
  { s.trunk.offTables with
    mem := { s.mem with mem := [], poison := [], flipped := [] },
    persist := { s.persist with retiredFrames := [] } }

theorem State.offPool_eq_of_trunk {s t : State} (h : t.trunk = s.trunk) : t.offPool = s.offPool := by
  show ({ t.trunk.offTables with
    mem := { t.trunk.mem with mem := [], poison := [], flipped := [] },
    persist := { t.trunk.persist with retiredFrames := [] } } : State) = _
  rw [h]
  rfl

@[simp] theorem State.addRefs_offTables (s : State) (pages : List Nat) : (s.addRefs pages).offTables = s.offTables :=
  foldl_keeps State.offTables _ _ _ fun _ _ => rfl

@[simp] theorem State.joinFamily_offTables (s : State) (root : Nat) : (s.joinFamily root).offTables = s.offTables := rfl

theorem State.allocFrame_offTables {s t : State} {tenant tier st family page : Nat}
    (h : s.allocFrame tenant tier st family = some (page, t)) : t.offTables = s.offTables := by
  unfold State.allocFrame at h
  split at h
  · cases h
  · obtain ⟨p, -, hp⟩ := Option.map_eq_some_iff.mp h
    cases hp
    rfl

theorem State.tableRoom_offTables {s t : State} {tenant : Nat} (h : s.tableRoom tenant = some t) :
    t.offTables = s.offTables := by
  unfold State.tableRoom at h
  split at h
  · cases h; rfl
  · obtain ⟨⟨page, t'⟩, hr, rfl⟩ := Option.map_eq_some_iff.mp h
    exact (State.allocFrame_offTables hr :)

@[simp] theorem State.takeCtxId_offTables (s : State) : s.takeCtxId.2.offTables = s.offTables := by
  unfold State.takeCtxId
  split <;> rfl

/-! ## Frames given up -/

@[simp] theorem State.zeroRange_offPool (s : State) (cls unit addr len : Nat) :
    (s.zeroRange cls unit addr len).offPool = s.offPool := rfl

@[simp] theorem State.recordRetired_offPool (s : State) (page : Nat) : (s.recordRetired page).offPool = s.offPool := by
  unfold State.recordRetired
  split <;> rfl

@[simp] theorem State.freeNow_offPool (s : State) (page : Nat) : (s.freeNow page).offPool = s.offPool := by
  unfold State.freeNow
  split
  · rfl
  · dsimp only
    split
    · rw [State.recordRetired_offPool]; rfl
    · rfl

@[simp] theorem State.freeFrames_offPool (s : State) (pages : List Nat) : (s.freeFrames pages).offPool = s.offPool :=
  foldl_keeps State.offPool _ _ _ fun _ _ => State.freeNow_offPool _ _

@[simp] theorem State.dropRefs_offPool (s : State) (pages : List Nat) : (s.dropRefs pages).offPool = s.offPool := by
  refine foldl_keeps State.offPool _ _ _ fun t page => ?_
  unfold State.dropRef
  split
  · rfl
  · split_ifs
    · rfl
    · exact t.freeNow_offPool page
    · rfl

@[simp] theorem State.leaveFamily_offPool (s : State) (root : Nat) : (s.leaveFamily root).offPool = s.offPool := by
  unfold State.leaveFamily
  dsimp only
  split
  · have hfreed : ∀ l : List Nat, (l.foldl State.freeNow s).offPool = s.offPool := fun l =>
      foldl_keeps State.offPool _ _ _ fun _ _ => State.freeNow_offPool _ _
    split <;> exact hfreed _
  · rfl

end Sys2Proof.Machine
end

section
/-! PROOF. What a started command has changed already, a created request, a cancelled one and a forked context (R125,
R135, R143 to R149, R160). Settles O44, O46 and O49. -/

namespace Sys2Proof.Machine

@[simp] theorem State.markStarted_trunk (s : State) (h : Hdr) : (s.markStarted h).trunk = s.trunk := rfl

/-- A command's start touches the host link and the copy to the partner alone. -/
@[simp] theorem State.started_trunk (s : State) (op : Nat) (h : Hdr) : (s.started op h).trunk = s.trunk := by
  unfold State.started
  split
  · rw [State.sendRec_trunk, State.markStarted_trunk]
  · rfl

/-! ## Reports and the end of a request -/

/-- The state that reports of requests leave: what `State.offPool` leaves, without the producer indices of rings. -/
def State.offReports (s : State) : State := { s.offPool with reqs := { s.reqs with rings := [] } }

theorem State.offReports_eq_of_offPool {s t : State} (h : t.offPool = s.offPool) : t.offReports = s.offReports := by
  show ({ t.offPool with reqs := { t.offPool.reqs with rings := [] } } : State) = _
  rw [h]
  rfl

theorem State.offReports_eq_of_trunk {s t : State} (h : t.trunk = s.trunk) : t.offReports = s.offReports :=
  State.offReports_eq_of_offPool (State.offPool_eq_of_trunk h)

@[simp] theorem State.count_offReports (s : State) (sel a b c d off n : Nat) :
    (s.count sel a b c d off n).offReports = s.offReports := State.offReports_eq_of_trunk (s.count_trunk ..)

@[simp] theorem State.reply_offReports (s : State) (c : CmdRef) (status result0 result1 : Nat) :
    (s.reply c status result0 result1).offReports = s.offReports := State.offReports_eq_of_trunk (s.reply_trunk ..)

@[simp] theorem State.writeRecord_offReports (s : State) (fn base producer : Nat) (place : Nat × Nat × Nat)
    (r : RingRec) : (s.writeRecord fn base producer place r).offReports = s.offReports :=
  State.offReports_eq_of_trunk (State.trunk_eq_of_inside (s.writeRecord_inside ..))

@[simp] theorem State.writeReport_offReports (s : State) (r : Req) (route status tLaunch16 sequence : Nat)
    (tokens : List Nat) : (s.writeReport r route status tLaunch16 sequence tokens).offReports = s.offReports := by
  unfold State.writeReport
  split
  · rfl
  · dsimp only
    split
    · rw [State.count_offReports]; rfl
    · split
      · rw [State.count_offReports]; rfl
      · rw [State.writeRecord_offReports]; rfl

/-- A request's end is, but for reports, counters and the host link, the return of what it holds and of its slot. -/
theorem State.endReq_offReports (s : State) (r : Req) (status tLaunch16 sequence : Nat) (tokens : List Nat) :
    (s.endReq r status tLaunch16 sequence tokens).offReports = ((s.releaseReq r status).returnSlot r).offReports := by
  have hcounted : ∀ t : State, (if status = Status.late then t.count 0x0003 r.bay 0 0 0 32 1
      else if status = Status.cancelled then t.count 0x0003 r.bay 0 0 0 40 1 else t).offReports = t.offReports := by
    intro t
    split_ifs
    · exact t.count_offReports ..
    · exact t.count_offReports ..
    · rfl
  unfold State.endReq
  extract_lets t u
  have hu : u.offReports = t.offReports := hcounted t
  split
  · rw [State.writeReport_offReports]
    split
    · rw [State.count_offReports, hu]
    · exact hu
  · split
    · rw [State.reply_offReports, hu]
    · exact hu

/-- A convoy of a bay in flight, planned or waiting for its commit. -/
def Bay.hasConvoy (b : Bay) (c : Convoy) : Prop := some c ∈ b.stages ∨ c ∈ b.planned ∨ c ∈ b.commits

/-- No convoy of a bay commits a request. -/
def Bay.commitsNone (b : Bay) (id : Nat) : Prop := ∀ c, b.hasConvoy c → id ∉ c.mask

/-- Taken out of every mask, a request is committed by no convoy of its bay. -/
theorem commitsNone_unmask {s : State} {r : Req} {b : Bay} (h : (s.unmask r).bay r.bay = some b) :
    b.commitsNone r.id := by
  simp only [State.unmask, State.modBay, State.bay, Map.get?_modify, if_true] at h
  obtain ⟨b', -, rfl⟩ := Option.map_eq_some_iff.mp h
  intro c hc
  simp only [Bay.hasConvoy, Bay.mapConvoys, List.mem_map, Option.map_eq_some_iff] at hc
  rcases hc with ⟨-, -, c', -, rfl⟩ | ⟨c', -, rfl⟩ | ⟨c', -, rfl⟩ <;> simp

/-- A change of convoys that leaves their masks leaves what they commit. -/
theorem commitsNone_mapConvoys {b : Bay} {id : Nat} {f : Convoy → Convoy} (hf : ∀ c, (f c).mask = c.mask)
    (h : b.commitsNone id) : (b.mapConvoys f).commitsNone id := by
  intro c hc
  simp only [Bay.hasConvoy, Bay.mapConvoys, List.mem_map, Option.map_eq_some_iff] at hc
  rcases hc with ⟨x, hx, c', rfl, rfl⟩ | ⟨c', hc', rfl⟩ | hc
  · rw [hf]; exact h c' (.inl hx)
  · rw [hf]; exact h c' (.inr (.inl hc'))
  · exact h c (.inr (.inr hc))

/-- What a cancelled request holds is given up on the bay's convoys and the frame pool alone: its tails stay with the
convoy in flight (R160). -/
theorem State.releaseReq_cancelled (s : State) (r : Req) {status : Nat} (hcancel : isCancel status = true) :
    ∃ f : Convoy → Convoy, (∀ c, (f c).mask = c.mask) ∧
      ((s.releaseReq r status).offPool = s.offPool ∨
        (s.releaseReq r status).offPool = (s.modBay r.bay fun b => b.mapConvoys f).offPool) := by
  refine ⟨fun c => if c.members.any (fun m => m.request = r.id) then { c with tails := c.tails ++ r.tails ++ r.scatTails }
    else c, fun c => by dsimp only; split <;> rfl, ?_⟩
  unfold State.releaseReq
  simp only [hcancel, Bool.true_or, if_true]
  by_cases hflight : r.state = 1
  · right
    simp only [hflight, decide_true, if_true]
    split <;> simp
  · left
    simp only [hflight, decide_false, if_false]
    split <;> simp

/-- A cancelled request leaves, but for the frame pool and reports, its slot returned and its bay's convoys with other
tails in their hands at most. -/
theorem State.cancelReq_offReports (s : State) (r : Req) {status : Nat} (hcancel : isCancel status = true) :
    ∃ f : Convoy → Convoy, (∀ c, (f c).mask = c.mask) ∧
      ((s.cancelReq r status).offReports = ((s.unmask r).returnSlot r).offReports ∨
        (s.cancelReq r status).offReports =
          (((s.unmask r).modBay r.bay fun b => b.mapConvoys f).returnSlot r).offReports) := by
  obtain ⟨f, hf, hrel⟩ := (s.unmask r).releaseReq_cancelled r hcancel
  have hreturn : ∀ t : State, ((s.unmask r).releaseReq r status).offPool = t.offPool →
      (s.cancelReq r status).offReports = (t.returnSlot r).offReports := fun t ht =>
    ((s.unmask r).endReq_offReports r status 0 0 []).trans
      (State.offReports_eq_of_offPool (congrArg (fun u : State => u.returnSlot r) ht))
  exact ⟨f, hf, hrel.imp (hreturn _) (hreturn _)⟩

/-- The requests in their slots, the launches, the log and one bay, as they stand beside the frame pool and reports. -/
theorem State.offReports_fields {s t : State} (h : t.offReports = s.offReports) :
    t.reqs.slot = s.reqs.slot ∧ t.reqs.freed = s.reqs.freed ∧ t.reqs.reuse = s.reqs.reuse ∧ t.mls = s.mls ∧
    t.mem.log = s.mem.log ∧ t.bays = s.bays :=
  ⟨(congrArg (fun u : State => u.reqs.slot) h :), (congrArg (fun u : State => u.reqs.freed) h :),
    (congrArg (fun u : State => u.reqs.reuse) h :), (congrArg State.mls h :),
    (congrArg (fun u : State => u.mem.log) h :), (congrArg State.bays h :)⟩

/-- The request of an ID depends on the slots alone. -/
theorem State.request_eq_of_slot {s t : State} (h : t.reqs.slot = s.reqs.slot) (id : Nat) :
    t.request id = s.request id := by
  unfold State.request
  rw [h]

theorem State.id_of_request {s : State} {id : Nat} {r : Req} (h : s.request id = some r) : r.id = id := by
  unfold State.request at h
  split at h
  · split at h
    · next hid => cases h; exact hid
    · cases h
  · cases h

/-- Settles O49: the request's slot returns and its bay's masks lose it. -/
theorem cancelledRequestIsGone : Obligations.CancelledRequestIsGone := by
  intro s id r hr t
  obtain rfl := State.id_of_request hr
  obtain ⟨f, hf, hend⟩ := s.cancelReq_offReports r (status := Status.cancelled) rfl
  have hfields : ∃ u : State, t.offReports = (u.returnSlot r).offReports ∧ u.reqs = s.reqs ∧ u.mls = s.mls ∧
      u.mem = s.mem ∧ ∀ b, u.bay r.bay = some b → b.commitsNone r.id := by
    rcases hend with hend | hend
    · exact ⟨_, hend, rfl, rfl, rfl, fun b hb => commitsNone_unmask hb⟩
    · refine ⟨_, hend, rfl, rfl, rfl, fun b hb => ?_⟩
      simp only [State.modBay, State.bay, Map.get?_modify, if_true] at hb
      obtain ⟨b', hb', rfl⟩ := Option.map_eq_some_iff.mp hb
      exact commitsNone_mapConvoys hf (commitsNone_unmask hb')
  obtain ⟨u, hu, hreqs, hmls, hmem, hmasks⟩ := hfields
  obtain ⟨hslot, hfreed, hreuse, hm, hlog, hbays⟩ := State.offReports_fields hu
  refine ⟨?_, ?_, ?_, fun j q hne hq => ?_, fun n b c hn hb hc => ?_, hm.trans hmls, hlog.trans (by rw [← hmem]; rfl)⟩
  · rw [State.request_eq_of_slot hslot]
    simp [State.request, State.returnSlot, Map.get?_erase_self]
  · rw [hfreed, ← hreqs]; rfl
  · rw [hreuse, ← hreqs]; exact Map.get?_set_self _ _ _
  · rw [State.request_eq_of_slot hslot]
    simp only [State.request, State.returnSlot, Map.get?_erase_ne _ hne, hreqs] at hq ⊢
    exact hq
  · subst hn
    exact hmasks b (by rw [← hb, State.bay, State.bay, hbays]; rfl) c hc

/-! ## A created request -/

/-- A slot taken leaves the requests in theirs, the count of creations and everything beside the requests. -/
theorem State.takeSlot_spec (s : State) :
    s.takeSlot.2.reqs.slot = s.reqs.slot ∧ s.takeSlot.2.reqs.created = s.reqs.created ∧
    s.takeSlot.2.mls = s.mls ∧ s.takeSlot.2.ctxs = s.ctxs := by
  unfold State.takeSlot
  split
  · exact ⟨rfl, rfl, rfl, rfl⟩
  · dsimp only
    split <;> exact ⟨rfl, rfl, rfl, rfl⟩

/-- The request that a creation makes of what it is given. -/
def NewReq.Makes (n : NewReq) (r : Req) : Prop :=
  r.tenant = n.tenant ∧ r.context = n.context ∧ r.template = n.template ∧ r.bay = n.tmpl.bay ∧ r.nAct = n.nAct ∧
  r.target = n.target ∧ r.stream = n.stream ∧ r.track = n.track ∧ r.priority = n.priority ∧ r.prefill = n.prefill ∧
  (∀ x, n.seed = some x → r.seed = x) ∧ r.state = 0 ∧ r.sampled = [] ∧ r.steps = 0

/-- A creation sets one request, in the slot taken, and counts it (R143, R146). -/
theorem State.createReq_spec (s : State) (n : NewReq) :
    (s.createReq n).1 = s.takeSlot.1 ∧
    ∃ r, n.Makes r ∧ r.id = s.takeSlot.1 ∧ (r.branch.isSome = (n.branch && (s.ctx n.context).isSome)) ∧
      (s.createReq n).2.reqs.slot = Map.set s.reqs.slot (slotOf s.takeSlot.1) r ∧
      (s.createReq n).2.reqs.created = s.reqs.created + 1 ∧ (s.createReq n).2.mls = s.mls := by
  obtain ⟨hslot, hcreated, hmls, hctxs⟩ := s.takeSlot_spec
  unfold State.createReq
  generalize s.takeSlot = slotAndState at hslot hcreated hmls hctxs ⊢
  obtain ⟨id, t⟩ := slotAndState
  dsimp -zeta only
  extract_lets x branch u bale maxDepth r
  have hu : u.offTables = t.offTables := by
    dsimp only [u]
    generalize branch = taken
    cases taken with
    | none => rfl
    | some b => rw [State.joinFamily_offTables, State.addRefs_offTables]
  have hreqs : u.reqs = t.reqs := (congrArg State.reqs hu :)
  have humls : u.mls = t.mls := (congrArg State.mls hu :)
  refine ⟨rfl, r, ⟨rfl, rfl, rfl, rfl, rfl, rfl, rfl, rfl, rfl, rfl, fun y hy => ?_, rfl, rfl, rfl⟩, rfl, ?_, ?_, ?_, ?_⟩
  · simp [r, hy]
  · have hx : x = s.ctx n.context := by
      show t.ctx n.context = _
      rw [State.ctx, hctxs]; rfl
    cases hbranch : n.branch <;> simp [r, branch, hbranch, hx]
  · show Map.set u.reqs.slot _ r = _
    rw [hreqs, hslot]
  · show u.reqs.created + 1 = _
    rw [hreqs, hcreated]
  · exact humls.trans hmls

/-- The submission that a SUBMIT_REQUEST of a header makes. -/
def submissionOf (h : Hdr) (p : SubmitParams) (inputs : List (Nat × Nat)) : Submission :=
  { p := p, inputs := inputs, tenant := h.fn, priority := h.priority, spans := payloadSpans h }

/-- A submission that no rule refuses, that need not wait and that finds a slot is created and accepted (R143, R149). -/
theorem State.submit_created {s : State} {q : Submission} {x : Ctx} {t : Template} (c : CmdRef)
    (href : submitRefusal q x t.body s = none) (hwait : q.p.branch = false ∨ (x.state ≠ 3 ∧ x.flush = none))
    (hfree : s.slotFree = true) :
    s.submit q c x t = (s.createReq (submitNew q t c s)).2.accept c (s.createReq (submitNew q t c s)).1 0 := by
  have hnowait : (q.p.branch && (decide (x.state = 3) || x.flush.isSome)) = false := by
    rcases hwait with hw | ⟨hstate, hflush⟩
    · simp [hw]
    · simp [hstate, hflush]
  simp only [State.submit, href, hnowait, hfree, Bool.not_true, Bool.false_eq_true, if_false]

/-- A started SUBMIT_REQUEST on the sender's own context and template. -/
theorem exec_submit {h : Hdr} {p : SubmitParams} {inputs : List (Nat × Nat)} {s : State} {x : Ctx}
    {tm : Template} (hstart : startable 0x0202 h s = true) (hx : (s.started 0x0202 h).ctx p.context = some x)
    (htm : Map.get? (s.started 0x0202 h).reqs.templates p.template = some tm) (hxt : x.tenant = h.fn)
    (htt : tm.tenant = h.fn) :
    exec (.submitRequest h p inputs) s =
      .next ((s.started 0x0202 h).submit (submissionOf h p inputs) (cmdRef 0x0202 h s) x tm) := by
  refine congrArg Host.Outcome.next ((State.cmd_started s _ h _ hstart).trans ?_)
  simp only [State.doSubmit, hx, htm, hxt, htt, ne_eq, not_true_eq_false, decide_false, Bool.or_false,
    Bool.false_eq_true, if_false]
  rfl

/-- Settles O46, from what a creation makes. -/
theorem submittedRequest : Obligations.SubmittedRequest := by
  intro h p inputs s t x tm hstart b q hx htm hxt htt href hwait hfree hexec
  have ht := Host.Outcome.next.inj (hexec.symm.trans (exec_submit hstart hx htm hxt htt))
  have ht := ht.trans (State.submit_created (cmdRef 0x0202 h s) href hwait hfree)
  obtain ⟨-, r, hmakes, hrid, hbranch, hslot, hcreated, hmls⟩ :=
    b.createReq_spec (submitNew q tm (cmdRef 0x0202 h s) b)
  generalize cmdRef 0x0202 h s = c at ht hmakes hbranch hslot hcreated hmls
  have htrunk : t.trunk = (b.createReq (submitNew q tm c b)).2.trunk := ht ▸ State.accept_trunk ..
  have hb : b.trunk = s.trunk := s.started_trunk _ _
  have hreqs : t.reqs = (b.createReq (submitNew q tm c b)).2.reqs := (congrArg State.reqs htrunk :)
  have hbreqs : b.reqs = s.reqs := (congrArg State.reqs hb :)
  have hslots : t.reqs.slot = Map.set b.reqs.slot (slotOf b.takeSlot.1) r := hreqs ▸ hslot
  obtain ⟨htenant, hcontext, htemplate, hbay, hn, htarget, hstream, htrack, hpriority, hprefill, hseed, hstate,
    hsampled, hsteps⟩ := hmakes
  refine ⟨⟨r, ?_, htenant, hcontext, htemplate, hbay, hn, htarget, hstream, htrack, hpriority, hprefill,
    hseed p.seed rfl, ?_, hstate, hsampled, hsteps⟩, ?_, ?_, fun id r' hne hr' => ?_⟩
  · simp only [State.request, hslots, Map.get?_set_self, if_pos hrid]
  · rw [hbranch, show b.ctx (submitNew q tm c b).context = some x from hx]
    exact Bool.and_true _
  · rw [hreqs, hcreated, hbreqs]
  · exact ((congrArg State.mls htrunk :).trans hmls).trans (congrArg State.mls hb :)
  · simp only [State.request, hslots, Map.get?_set_ne _ _ hne, hbreqs]
    exact hr'

/-! ## A forked context -/

/-- The context that a fork at a position makes of its parent (R135). -/
def forkChild (x : Ctx) (position : Nat) : Ctx :=
  { Ctx.fresh x.tenant x.limit x.family with
    length := position, geometry := x.geometry, writer := x.writer,
    pages := x.pages.map fun l => l.take (ceilDiv position (geomNpf x.geometry)), kinds := x.kinds.take position }

/-- A fork that finds room sets the child under the ID taken, and no byte of a memory (R135). -/
theorem State.forkNow_child {s r : State} {c : CmdRef} {position : Nat} {x : Ctx} (hpos : position ≤ x.length)
    (hfull : s.ctxFull = false) (hroom : s.tableRoom x.tenant = some r) :
    (s.forkNow c position x).ctxs.ctx = Map.set s.ctxs.ctx r.takeCtxId.1 (forkChild x position) ∧
    (s.forkNow c position x).mem = s.mem := by
  simp only [State.forkNow, not_lt.mpr hpos, hfull, hroom, if_false, Bool.false_eq_true]
  have hrefs : ((r.takeCtxId.2.addRefs (forkChild x position).pages.flatten)).offTables = s.offTables :=
    (State.addRefs_offTables _ _).trans (r.takeCtxId_offTables.trans (State.tableRoom_offTables hroom))
  have hctx := (congrArg (fun u : State => u.ctxs.ctx) hrefs :)
  constructor
  · refine (congrArg (fun u : State => u.ctxs.ctx) (State.reply_trunk _ c Status.done _ 0) :).trans ?_
    exact congrArg (fun m => Map.set m r.takeCtxId.1 (forkChild x position)) hctx
  · exact (congrArg State.mem (State.reply_trunk _ c Status.done _ 0) :).trans (congrArg State.mem hrefs :)

/-- A fork of a started command on an open context without a flush. -/
theorem exec_fork_now {h : Hdr} {n position : Nat} {s : State} {x : Ctx} (hstart : startable 0x0207 h s = true)
    (hx : (s.started 0x0207 h).ctx n = some x) (hown : x.tenant = h.fn) (hstate : x.state = 0)
    (hflush : x.flush = none) :
    exec (.forkContext h n position) s =
      .next ((s.started 0x0207 h).forkNow (cmdRef 0x0207 h s) position x) := by
  refine congrArg Host.Outcome.next ((State.cmd_started s _ h _ hstart).trans ?_)
  simp [hx, hown, hstate, hflush, State.onCtx, State.doFork]

/-- A fork beyond the parent's length changes no context (R135). -/
theorem State.forkNow_ctxs_of_beyond {s : State} {c : CmdRef} {position : Nat} {x : Ctx} (hpos : x.length < position) :
    (s.forkNow c position x).ctxs = s.ctxs := by
  unfold State.forkNow
  rw [if_pos hpos]
  exact (congrArg State.ctxs (State.reply_trunk s c Status.badParam 0 0) :)

/-- Settles O44: the fork's child is set under the ID taken, and no other context. -/
theorem forkSharesItsPages : Obligations.ForkSharesItsPages := by
  intro s r t h n position x hstart b hx hown hstate hflush hexec
  have ht := Host.Outcome.next.inj (hexec.symm.trans (exec_fork_now hstart hx hown hstate hflush))
  have hb : b.trunk = s.trunk := s.started_trunk _ _
  have hctxs : b.ctxs = s.ctxs := (congrArg State.ctxs hb :)
  refine ⟨fun hpos hfull hroom => ?_, fun hpos m => ?_⟩
  · obtain ⟨hchild, hmem⟩ := State.forkNow_child (c := cmdRef 0x0207 h s) hpos hfull hroom
    refine ⟨forkChild x position, ?_, rfl, rfl, rfl, rfl, rfl, rfl, rfl, rfl, fun m hm => ?_, ?_⟩
    · simp only [State.ctx, ht, b, hchild, Map.get?_set_self]
    · simp only [State.ctx, ht, b, hchild, Map.get?_set_ne _ _ hm]
      exact congrArg (fun y : Contexts => Map.get? y.ctx m) hctxs
    · rw [ht]
      exact congrArg MemSys.mem (hmem.trans (congrArg State.mem hb :))
  · simp only [State.ctx, ht, State.forkNow_ctxs_of_beyond hpos]
    exact congrArg (fun y : Contexts => Map.get? y.ctx m) hctxs

end Sys2Proof.Machine
end

section
/-! PROOF. What a seating that is not refused names, a discard of a bale in use, and AUTO_SWAP (R97, R100, R103).
Settles O41. -/

namespace Sys2Proof.Machine

/-- A seating that no rule refuses names a staged bale that fits its bay (R97). -/
theorem State.seatRefusal_none {s : State} {bay : Bay} {handle : Nat} (h : s.seatRefusal bay handle = none) :
    ∃ g, s.stagedBale handle = some g ∧ g.tenant = bay.owner ∧ g.bale.kind = bay.kind ∧
      g.bale.slices = bay.slices.length ∧ g.bale.perString ≤ bay.share ∧ g.poisoned = false ∧ g.tier ≠ 2 := by
  unfold State.seatRefusal at h
  split at h
  · cases h
  next g hg =>
  split at h
  · cases h
  next htenant =>
  split at h
  · cases h
  next hkind =>
  split at h
  · cases h
  next hspace =>
  split at h
  · cases h
  next hpoison =>
  split at h
  · cases h
  next htier =>
  simp only [Bool.or_eq_true, decide_eq_true_eq, not_or, not_not, not_lt] at hspace
  exact ⟨g, hg, not_not.mp htenant, not_not.mp hkind, hspace.1.1, hspace.1.2, by simpa using hpoison, htier⟩

/-- A discard of a handle in use discards nothing (R100). -/
theorem unseatBaleDiscardRun_staged_of_inUse {s : State} {handle : Nat} (h : Hdr) (delete : Bool) (c : CmdRef)
    (huse : s.handleInUse handle none = true) :
    (unseatBaleDiscardRun h handle true delete c s).bays.staged = s.bays.staged := by
  have hreply : ∀ status, (s.reply c status 0 0).bays = s.bays := fun status =>
    (congrArg State.bays (s.reply_trunk c status 0 0) :)
  unfold unseatBaleDiscardRun
  split
  · rw [hreply]
  · split_ifs
    · rw [hreply]
    · rfl
    · rw [State.runDiscard, huse]
      exact congrArg Bays.staged (hreply _)

theorem State.bay_setBay_self (s : State) (n : Nat) (b : Bay) : (s.setBay n b).bay n = some b :=
  Map.get?_set_self _ _ _

/-- An automatic swap stays at the front of its bay's list until its boundary (R103). -/
theorem State.settleJobs_of_auto {s : State} {n fuel : Nat} {b : Bay} {j : SeatJob} {rest : List SeatJob}
    (hb : s.bay n = some b) (hjobs : b.jobs = j :: rest) (hauto : j.auto = true) : s.settleJobs n fuel = s := by
  cases fuel with
  | zero => rfl
  | succ k => simp [State.settleJobs, hb, hjobs, hauto]

/-- AUTO_SWAP leaves what its bay has seated. -/
theorem execAutoSwap_seated {s t : State} {n : Nat} {bay : Bay} (hb : s.bay n = some bay)
    (h : execAutoSwap n s = .next t) : ∃ b, t.bay n = some b ∧ b.seated = bay.seated ∧ b.bale = bay.bale := by
  simp only [execAutoSwap, hb] at h
  split at h
  · cases h
    exact ⟨bay, hb, rfl, rfl⟩
  next hquiet =>
  split at h
  · next handle _ =>
    obtain rfl := Host.Outcome.next.inj h
    have hjobs : bay.jobs = [] := by
      simp only [Bool.or_eq_true, not_or] at hquiet
      simpa using hquiet.1.1.1.2
    simp only [State.addJob, hb, hjobs, List.isEmpty_nil, if_true, List.nil_append]
    rw [State.settleJobs_of_auto (State.bay_setBay_self _ _ _) rfl rfl]
    exact ⟨_, State.bay_setBay_self _ _ _, rfl, rfl⟩
  · cases h
    exact ⟨bay, hb, rfl, rfl⟩

/-- Settles O41. -/
theorem seatingRefusals : Obligations.SeatingRefusals := by
  refine ⟨fun s bay handle => State.seatRefusal_none, fun s t h handle delete hstart huse hexec => ?_,
    fun s t n bay hb hexec => execAutoSwap_seated hb hexec⟩
  have ht := Host.Outcome.next.inj
    (hexec.symm.trans (congrArg Host.Outcome.next (State.cmd_started s 0x0103 h _ hstart)))
  rw [ht, unseatBaleDiscardRun_staged_of_inUse h delete _ huse]
  exact congrArg Bays.staged (congrArg State.bays (s.started_trunk 0x0103 h) :)

end Sys2Proof.Machine
end

section
/-! PROOF. What the removal of a tenant leaves, and the counter of a consent (R327, R329, R330). Settles O54. -/

namespace Sys2Proof.Machine

theorem Map.mem_erase {α : Type} {m : Map α} {k : Nat} {p : Nat × α} :
    p ∈ Map.erase m k ↔ p ∈ m ∧ p.1 ≠ k := by
  simp [Map.erase]

/-! ## The requests of the tenant -/

theorem insertByOrder_perm (r : Req) (l : List Req) : (insertByOrder r l).Perm (r :: l) := by
  induction l with
  | nil => exact .refl _
  | cons x t ih =>
    rw [insertByOrder]
    split
    · exact .refl _
    · exact (ih.cons x).trans (.swap r x t)

/-- The live requests are those in the slots. -/
theorem State.mem_liveReqs {s : State} {r : Req} : r ∈ s.liveReqs ↔ ∃ p ∈ s.reqs.slot, p.2 = r := by
  have hperm := (foldl_insert_spec (R := fun _ _ => True) insertByOrder_perm
    (fun _ _ _ => List.pairwise_of_forall fun _ _ => trivial) (s.reqs.slot.map (·.2))).1
  rw [List.foldl_map] at hperm
  rw [State.liveReqs, hperm.mem_iff, List.mem_map]

/-- A cancelled request's slot is empty, and no other slot changes. -/
theorem State.cancelReq_slot (s : State) (r : Req) {status : Nat} (hcancel : isCancel status = true) :
    (s.cancelReq r status).reqs.slot = Map.erase s.reqs.slot (slotOf r.id) := by
  obtain ⟨f, -, hend⟩ := s.cancelReq_offReports r hcancel
  rcases hend with hend | hend
  · exact (State.offReports_fields hend).1
  · exact (State.offReports_fields hend).1

/-- A fold whose steps each erase one number of a table leaves of it what has none of those numbers. -/
theorem mem_foldl_erase {σ α β : Type} (table : σ → Map α) (key : β → Nat) {f : σ → β → σ}
    (hstep : ∀ s x, table (f s x) = Map.erase (table s) (key x)) {l : List β} {s : σ} {p : Nat × α}
    (h : p ∈ table (l.foldl f s)) : p ∈ table s ∧ ∀ x ∈ l, p.1 ≠ key x := by
  induction l generalizing s with
  | nil => exact ⟨h, by simp⟩
  | cons x rest ih =>
    obtain ⟨hmem, hne⟩ := ih h
    rw [hstep, Map.mem_erase] at hmem
    exact ⟨hmem.1, List.forall_mem_cons.mpr ⟨hmem.2, hne⟩⟩

/-- With every request in the slot of its ID, none of a tenant is left once all of them are cancelled. -/
theorem tenant_of_slot_cancelAll {status : Nat} (hcancel : isCancel status = true) {s : State} {t : Nat}
    (hplaced : ∀ p ∈ s.reqs.slot, p.1 = slotOf p.2.id) {p : Nat × Req}
    (h : p ∈ ((s.liveReqs.filter fun r => r.tenant = t).foldl (fun s r => s.cancelReq r status) s).reqs.slot) :
    p.2.tenant ≠ t := by
  obtain ⟨hmem, hne⟩ := mem_foldl_erase (fun u : State => u.reqs.slot) (fun r : Req => slotOf r.id)
    (fun u r => u.cancelReq_slot r hcancel) h
  intro htenant
  exact hne p.2 (List.mem_filter.mpr ⟨State.mem_liveReqs.mpr ⟨p, hmem, rfl⟩, by simpa using htenant⟩) (hplaced p hmem)

/-! ## The tenant's objects -/

/-- The state without the contexts and the video engine, and without what `State.offPool` blanks. -/
def State.offObjects (s : State) : State :=
  { s.offPool with ctxs := { s.offPool.ctxs with ctx := [] }, video := Video.reset }

theorem State.offObjects_eq_of_offPool {s t : State} (h : t.offPool = s.offPool) : t.offObjects = s.offObjects := by
  unfold State.offObjects
  rw [h]

@[simp] theorem State.clearRecord_offPool (s : State) (sel a b c d : Nat) :
    (s.clearRecord sel a b c d).offPool = s.offPool := rfl

theorem State.freeStream_offObjects (s : State) (n : Nat) : (s.freeStream n).offObjects = s.offObjects := by
  unfold State.freeStream
  split
  · rfl
  · dsimp only
    rw [State.offObjects_eq_of_offPool (State.dropRefs_offPool _ _)]
    rfl

/-- One context closed, whatever it waits for (R330). -/
def State.closeContext (s : State) (p : Nat × Ctx) : State :=
  let s := (s.releaseCtx p.2).1
  let s : State := { s with ctxs := { s.ctxs with
    ctx := Map.erase s.ctxs.ctx p.1,
    freedIds := if p.2.family = p.1 then s.ctxs.freedIds else s.ctxs.freedIds ++ [p.1] } }
  (s.leaveFamily p.2.family).clearRecord 0x0004 0 0 p.1 0

theorem State.closeContexts_eq (s : State) (t : Nat) :
    s.closeContexts t = (s.ctxs.ctx.filter fun p => p.2.tenant = t).foldl State.closeContext s := rfl

/-- A closed context leaves the table, and beside the contexts and the frame pool nothing changes (R130, R330). -/
theorem State.closeContext_offPool (s : State) (p : Nat × Ctx) :
    (s.closeContext p).offPool = ({ s with ctxs := { s.ctxs with ctx := Map.erase s.ctxs.ctx p.1 } } : State).offPool := by
  unfold State.closeContext
  extract_lets u v
  have hu : u.offPool = s.offPool := s.dropRefs_offPool _
  rw [State.clearRecord_offPool, State.leaveFamily_offPool]
  exact (congrArg (fun w : State => { w with ctxs := { w.ctxs with ctx := Map.erase w.ctxs.ctx p.1 } }) hu :)

/-- The contexts of a tenant are gone once they are closed. -/
theorem State.tenant_of_closeContexts {s : State} {t : Nat} {p : Nat × Ctx}
    (h : p ∈ (s.closeContexts t).ctxs.ctx) : p.2.tenant ≠ t := by
  rw [State.closeContexts_eq] at h
  obtain ⟨hmem, hne⟩ := mem_foldl_erase (f := State.closeContext) (fun u : State => u.ctxs.ctx) (fun p : Nat × Ctx => p.1)
    (fun u p => (congrArg (fun v : State => v.ctxs.ctx) (u.closeContext_offPool p) :)) h
  exact fun htenant => hne p (List.mem_filter.mpr ⟨hmem, by simpa using htenant⟩) rfl

theorem State.closeContexts_offObjects (s : State) (t : Nat) : (s.closeContexts t).offObjects = s.offObjects := by
  rw [State.closeContexts_eq]
  exact foldl_keeps State.offObjects _ _ _ fun u p =>
    (State.offObjects_eq_of_offPool (u.closeContext_offPool p)).trans rfl

/-- Nothing of a tenant stands among the routes, templates, tracks and action streams of a state. -/
def State.OwnsNothing (s : State) (t : Nat) : Prop :=
  (∀ p ∈ s.reqs.routes, p.2.tenant ≠ t) ∧ (∀ p ∈ s.reqs.templates, p.2.tenant ≠ t) ∧
  (∀ p ∈ s.mls.tracks, p.2.tenant ≠ t) ∧ (∀ p ∈ s.mls.streams, p.2.tenant ≠ t)

theorem State.dropObjects_ownsNothing (s : State) (t : Nat) : (s.dropObjects t).OwnsNothing t := by
  refine ⟨fun p hp => ?_, fun p hp => ?_, fun p hp => ?_, fun p hp => ?_⟩ <;>
    exact of_decide_eq_true (List.mem_filter.mp hp).2

theorem State.dropObjects_slot (s : State) (t : Nat) : (s.dropObjects t).reqs.slot = s.reqs.slot :=
  (congrArg (fun u : State => u.reqs.slot) (foldl_keeps State.offObjects (fun (v : State) (p : Nat × VStream) =>
    v.freeStream p.1) (s.video.streams.filter fun p => p.2.tenant = t) s fun v _ => v.freeStream_offObjects _) :)

/-! ## The removal -/

theorem State.checkPort_spec (s : State) :
    s.checkPort.customs.tenants = s.customs.tenants ∧ s.checkPort.customs.slots = s.customs.slots ∧
    s.checkPort.reqs = s.reqs ∧ s.checkPort.mls = s.mls ∧ s.checkPort.ctxs = s.ctxs := by
  unfold State.checkPort
  dsimp only
  split
  · exact ⟨rfl, rfl, rfl, rfl, rfl⟩
  · have h := State.event_inside
      ({ s with customs := { s.customs with servicePort := s.portMayOpen } } : State) 0 0x0605 0 (bit s.portMayOpen)
    exact ⟨(congrArg (fun u : State => u.customs.tenants) h :), (congrArg (fun u : State => u.customs.slots) h :),
      (congrArg State.reqs h :), (congrArg State.mls h :), (congrArg State.ctxs h :)⟩

theorem State.sendMarker_trunk (s : State) (r : CopyRec) : (s.sendMarker r).trunk = s.trunk := by
  unfold State.sendMarker
  split_ifs
  · rfl
  · exact s.sendRec_trunk r 16
  · rfl

theorem State.dropFlip_sets_mem (s : State) (t : Nat) : s.dropFlip t = { s with mem := (s.dropFlip t).mem } := by
  unfold State.dropFlip
  split <;> rfl

theorem State.tenant_setTenant_self (s : State) (t : Nat) (x : Tenant) : (s.setTenant t x).tenant t = some x :=
  Map.get?_set_self _ _ _

theorem State.keySlot_setKeySlot_self (s : State) (n : Nat) (k : KeySlot) : (s.setKeySlot n k).keySlot n = k := by
  simp [State.keySlot, State.setKeySlot]

/-- The objects of a tenant deleted and its contexts closed: none is left, and the requests stand as before (R330). -/
theorem State.closeObjects_spec (s : State) (t : Nat) (keep : Bool) :
    let u := ((s.dropObjects t).closeContexts t).dropLibrary t keep
    u.OwnsNothing t ∧ (∀ p ∈ u.ctxs.ctx, p.2.tenant ≠ t) ∧ u.reqs.slot = s.reqs.slot := by
  intro u
  have hclosed := (s.dropObjects t).closeContexts_offObjects t
  have hreqs : u.reqs = (s.dropObjects t).reqs := (congrArg State.reqs hclosed :)
  have hmls : u.mls = (s.dropObjects t).mls := (congrArg State.mls hclosed :)
  refine ⟨?_, fun p hp => State.tenant_of_closeContexts hp, by rw [hreqs, State.dropObjects_slot]⟩
  unfold State.OwnsNothing
  rw [hreqs, hmls]
  exact s.dropObjects_ownsNothing t

/-- What the removal of a tenant leaves of it (R329, R330). -/
theorem State.removeTenant_spec {s : State} {t : Nat} {x : Tenant} (ref : Option CmdRef) (keep : Bool)
    (hx : s.tenant t = some x) (hplaced : ∀ p ∈ s.reqs.slot, p.1 = slotOf p.2.id) :
    let u := s.removeTenant t ref keep
    (∃ removal, u.tenant t = some { x with
      state := 2, publicKey := none, consent := 0, job := none, oldJob := none, removal := removal }) ∧
    (u.keySlot x.slot).state = 3 ∧ (u.keySlot x.slot).pageKey = 0 ∧ (∀ p ∈ u.reqs.slot, p.2.tenant ≠ t) ∧
    (∀ p ∈ u.ctxs.ctx, p.2.tenant ≠ t) ∧ u.OwnsNothing t := by
  simp -zeta only [State.removeTenant, hx]
  extract_lets _ revoking _ slotRevoking waiting cancelled replied ended sent marker marked unflipped closed _ idle last
  have hcancelled : ∀ p ∈ cancelled.reqs.slot, p.2.tenant ≠ t := fun p hp =>
    tenant_of_slot_cancelAll (s := slotRevoking) rfl hplaced hp
  clear_value cancelled
  have hreplied : replied.reqs = cancelled.reqs :=
    foldl_keeps State.reqs _ _ _ fun u c => (congrArg State.reqs (State.reply_trunk u c _ 0 0) :)
  clear_value replied
  have hended : ended.reqs = replied.reqs :=
    foldl_keeps State.reqs _ _ _ fun u e => (congrArg State.reqs (State.endEntry_stem u e 8) :)
  clear_value ended
  have hmarked : marked.reqs = ended.reqs := (congrArg State.reqs (State.sendMarker_trunk ended (.revoke t)) :)
  clear_value marked
  have hflip : unflipped.reqs = marked.reqs := (congrArg State.reqs (marked.dropFlip_sets_mem t) :)
  clear_value unflipped
  obtain ⟨howns, hctx, hslot⟩ : closed.OwnsNothing t ∧ (∀ p ∈ closed.ctxs.ctx, p.2.tenant ≠ t) ∧
      closed.reqs.slot = unflipped.reqs.slot := unflipped.closeObjects_spec t keep
  clear_value closed
  have hslots : closed.reqs.slot = cancelled.reqs.slot := by rw [hslot, hflip, hmarked, hended, hreplied]
  obtain ⟨htenants, hkeySlots, hreqs, hmls, hctxs⟩ :=
    (last.setKeySlot x.slot { last.keySlot x.slot with state := 3, pageKey := 0 }).checkPort_spec
  have htenant : last.tenant t = some _ := State.tenant_setTenant_self idle t _
  refine ⟨⟨_, (congrArg (fun m => Map.get? m t) htenants).trans htenant⟩, ?_, ?_, fun p hp => hcancelled p ?_,
    fun p hp => hctx p ?_, ?_⟩
  · rw [State.keySlot, hkeySlots]
    exact congrArg KeySlot.state (State.keySlot_setKeySlot_self _ _ _)
  · rw [State.keySlot, hkeySlots]
    exact congrArg KeySlot.pageKey (State.keySlot_setKeySlot_self _ _ _)
  · rw [hreqs] at hp
    exact hslots ▸ hp
  · rw [hctxs] at hp
    exact hp
  · unfold State.OwnsNothing
    rw [hreqs, hmls]
    exact howns

/-! ## Consent -/

theorem State.applyConsent_tenant (s : State) (t flags counter : Nat) (x : Tenant) :
    (s.applyConsent t flags counter x).tenant t = some { x with consent := flags, consentCounter := counter } := by
  have hflip : ∀ u : State, (u.dropFlip t).customs = u.customs := fun u =>
    (congrArg State.customs (u.dropFlip_sets_mem t) :)
  have hevent : ∀ (u : State) (code o d : Nat), (u.event2 t code o d).customs = u.customs := fun u code o d =>
    (congrArg State.customs (u.event2_inside t code o d) :)
  rw [State.applyConsent, State.tenant, (State.checkPort_spec _).1, hevent]
  split
  · rw [hflip]
    exact State.tenant_setTenant_self _ _ _
  · exact State.tenant_setTenant_self _ _ _

/-- A SET_CONSENT leaves a tenant's flags and counter, or applies flags under a higher counter (R327). -/
theorem setConsentRun_counter {h : Hdr} {payload : List Byte} {c : CmdRef} {s : State} {x y : Tenant}
    (hx : s.tenant h.fn = some x) (hy : (setConsentRun h payload c s).tenant h.fn = some y) :
    y = x ∨ x.consentCounter < y.consentCounter := by
  have hkept : ∀ u : State, u.trunk = s.trunk → u.tenant h.fn = some y → y = x := fun u hu hy' => by
    have hcustoms : u.customs = s.customs := (congrArg State.customs hu :)
    rw [State.tenant, hcustoms] at hy'
    exact Option.some.inj (hy'.symm.trans hx)
  simp only [setConsentRun, hx] at hy
  split at hy
  · exact .inl (hkept _ (State.reply_trunk ..) hy)
  split at hy
  · exact .inl (hkept _ ((State.reply_trunk ..).trans (State.count_trunk ..)) hy)
  split at hy
  · exact .inl (hkept _ ((State.reply_trunk ..).trans (State.count_trunk ..)) hy)
  split at hy
  · exact .inl (hkept _ (State.reply_trunk ..) hy)
  next hnewer =>
  right
  have hcustoms : ∀ (u : State) (status r0 r1 : Nat), (u.reply c status r0 r1).customs = u.customs :=
    fun u status r0 r1 => (congrArg State.customs (u.reply_trunk c status r0 r1) :)
  rw [State.tenant, hcustoms, ← State.tenant, State.applyConsent_tenant] at hy
  obtain rfl := Option.some.inj hy
  exact not_le.mp hnewer

/-- A request set stands in the slot of its ID. -/
theorem setReq_placed {s : State} (r : Req) (hplaced : ∀ p ∈ s.reqs.slot, p.1 = slotOf p.2.id) :
    ∀ p ∈ (s.setReq r).reqs.slot, p.1 = slotOf p.2.id := by
  intro p hp
  rcases Map.mem_set hp with hp | rfl
  · exact hplaced p hp
  · rfl

/-- Settles O54: the removal by its own lemma, the consent by the cases of SET_CONSENT. -/
theorem removedTenantHasNoKeys : Obligations.RemovedTenantHasNoKeys := by
  refine ⟨?_, fun h payload s t x y hstart hx hexec hy => ?_,
    fun s r => setReq_placed r, rfl⟩
  · intro s t x ref keep hx hplaced u
    obtain ⟨⟨removal, htenant⟩, hstate, hkey, hreqs, hctx, hroutes, htemplates, htracks, hstreams⟩ :=
      State.removeTenant_spec ref keep hx hplaced
    exact ⟨⟨_, htenant, rfl, rfl, rfl, rfl, rfl, rfl⟩, hstate, hkey, hreqs,
      fun n c hc => hctx (n, c) (Map.mem_of_get? hc), hroutes, htemplates, htracks, hstreams⟩
  · have ht := Host.Outcome.next.inj
      (hexec.symm.trans (congrArg Host.Outcome.next (State.cmd_started s 0x0605 h _ hstart)))
    have hcustoms : (s.started 0x0605 h).customs = s.customs := (congrArg State.customs (s.started_trunk 0x0605 h) :)
    have hx' : (s.started 0x0605 h).tenant h.fn = some x := by rw [State.tenant, hcustoms]; exact hx
    exact (setConsentRun_counter hx' (ht ▸ hy)).imp (fun heq => ⟨by rw [heq], by rw [heq]⟩) id

end Sys2Proof.Machine
end

section
/-! PROOF. The takeover of an escort, and the fence of an active by a higher epoch (R353, R356). Settles O57. -/

namespace Sys2Proof.Machine

/-! ## What the pair's own operations leave -/

theorem State.escort_of_inside {s t : State} (h : t.inside = s.inside) : t.escort = s.escort :=
  (congrArg State.escort h :)

theorem State.event_escort (s : State) (fn code object detail : Nat) :
    (s.event fn code object detail).escort = s.escort := State.escort_of_inside (s.event_inside ..)

theorem State.reply_escort (s : State) (c : CmdRef) (status r0 r1 : Nat) :
    (s.reply c status r0 r1).escort = s.escort := State.escort_of_inside (s.reply_inside ..)

theorem State.count_escort (s : State) (sel a b c d off n : Nat) : (s.count sel a b c d off n).escort = s.escort := by
  unfold State.count
  dsimp only
  split_ifs
  · rw [State.event_escort]
  · rfl

/-- A pair set to a role and health keeps the rest of the escort but for the event bits raised. -/
theorem State.setPair_escort (s : State) (role health reason : Nat) :
    ∃ events, (s.setPair role health reason).escort =
      { s.escort with role := role, health := health, events := events } := by
  unfold State.setPair
  split
  · next h =>
    simp only [Bool.and_eq_true, decide_eq_true_eq] at h
    obtain ⟨rfl, rfl⟩ := h
    exact ⟨s.escort.events, rfl⟩
  · dsimp only
    rw [State.event_escort]
    exact ⟨_, rfl⟩

/-- A pair that is ALONE has stopped its copy, at the epoch it had. -/
theorem State.pairAlone_escort (s : State) :
    s.pairAlone.escort.copying = false ∧ s.pairAlone.escort.epoch = s.escort.epoch ∧
    s.pairAlone.escort.role = s.escort.role := by
  unfold State.pairAlone
  extract_lets e s₁ s₂ s₃
  have h₂ : s₂.escort = s₁.escort := foldl_keeps State.escort _ _ _ fun t _ => t.reply_escort ..
  have h₃ : s₃.escort = s₂.escort := by
    dsimp only [s₃]
    split
    · exact State.reply_escort ..
    · rfl
  obtain ⟨events, h⟩ := s₃.setPair_escort s₃.escort.role 3 0
  rw [h, h₃, h₂]
  exact ⟨rfl, rfl, rfl⟩

/-- The counts of renewal restart in the action streams alone. -/
theorem State.recountAll_sets_streams (s : State) (tenant : Option Nat) :
    ∃ streams, s.recountAll tenant = { s with mls := { s.mls with streams := streams } } := by
  unfold State.recountAll
  generalize ((s.mls.streams.filter fun p => tenant.all fun t => p.2.tenant = t).map (·.1)) = l
  induction l generalizing s with
  | nil => exact ⟨s.mls.streams, rfl⟩
  | cons n rest ih =>
    obtain ⟨streams, h⟩ := ih (s.recount n)
    exact ⟨streams, h⟩

/-- An epoch set stands in the pair's state and in flash; beside them only the renewal counts of streams change. -/
theorem State.setEpoch_sets (s : State) (n : Nat) :
    ∃ streams, s.setEpoch n = { s with
      mls := { s.mls with streams := streams }, escort := { s.escort with epoch := n },
      persist := { s.persist with epoch := n } } := State.recountAll_sets_streams _ none

/-! ## The takeover -/

/-- An escort on its way to ACTIVE: the epoch raised, the records of a convoy not ended discarded, and the requests it
carried back between steps (Table 12-7). -/
def State.promoted (s : State) : State :=
  let s := s.setEpoch (s.escort.epoch + 1)
  { s with
    escort := { s.escort with
      copying := false, copyStopped := false, held := [], toApply := [], retention := [], uncovered := [], job := none,
      shadow := none, leavingSeen := false },
    reqs := { s.reqs with slot := s.reqs.slot.map fun p =>
      if p.2.state = 1 then (p.1, { p.2 with state := 2 }) else p } }

theorem State.promoted_spec (s : State) :
    s.promoted.escort.epoch = s.escort.epoch + 1 ∧ s.promoted.persist.epoch = s.escort.epoch + 1 ∧
    s.promoted.escort.held = [] ∧ s.promoted.escort.copying = false ∧ (∀ p ∈ s.promoted.reqs.slot, p.2.state ≠ 1) ∧
    s.promoted.mls.ledger = s.mls.ledger ∧ s.promoted.mls.tracks = s.mls.tracks ∧
    s.promoted.mls.time = s.mls.time ∧ s.promoted.ctxs = s.ctxs ∧ s.promoted.mem = s.mem := by
  obtain ⟨streams, hepoch⟩ := s.setEpoch_sets (s.escort.epoch + 1)
  unfold State.promoted
  rw [hepoch]
  refine ⟨rfl, rfl, rfl, rfl, fun p hp => ?_, rfl, rfl, rfl, rfl, rfl⟩
  obtain ⟨q, -, rfl⟩ := List.mem_map.mp hp
  split
  · simp
  · next hstate => exact hstate

/-- A takeover makes the pair ACTIVE and ALONE, and reports it: beside the pair's own state nothing else changes. -/
theorem State.takeOver_spec (s : State) :
    (∃ events, s.takeOver.escort = { s.promoted.escort with role := 1, health := 3, events := events }) ∧
    s.takeOver.trunk = s.promoted.trunk := by
  unfold State.takeOver
  refine ⟨?_, ?_⟩
  · obtain ⟨events, hpair⟩ := s.promoted.setPair_escort 1 3 0
    rw [State.event_escort, State.count_escort]
    exact ⟨_, congrArg (fun e : Escort => { e with events := e.events + newBits 6 e.events 4 }) hpair⟩
  · rw [State.event_trunk, State.count_trunk]
    exact s.promoted.setPair_trunk 1 3 0

/-! ## The fence by a higher epoch -/

/-- What the launch unit holds beside its action streams. -/
def State.launchUnit (s : State) : Milestone := { s.mls with streams := [] }

theorem State.launchUnit_of_stem {s t : State} (h : t.stem = s.stem) : t.launchUnit = s.launchUnit :=
  (congrArg State.mls h :)

theorem State.launchUnit_of_trunk {s t : State} (h : t.trunk = s.trunk) : t.launchUnit = s.launchUnit :=
  State.launchUnit_of_stem (State.stem_eq_of_trunk h)

/-- The state without the requests' slots and the bays, and without what `State.offPool` blanks. -/
def State.offConvoys (s : State) : State :=
  { s.offPool with reqs := { s.reqs with slot := [] }, bays := { s.bays with bay := [] } }

theorem State.offConvoys_eq_of_offPool {s t : State} (h : t.offPool = s.offPool) : t.offConvoys = s.offConvoys :=
  (congrArg (fun u : State =>
    { u with reqs := { u.reqs with slot := [] }, bays := { u.bays with bay := [] } }) h :)

theorem State.revertReq_offConvoys (s : State) (r : Req) : (s.revertReq r).offConvoys = s.offConvoys := by
  have hfreed : (s.freeFrames (r.tails ++ r.reserved)).offConvoys = s.offConvoys :=
    State.offConvoys_eq_of_offPool (s.freeFrames_offPool _)
  unfold State.revertReq
  dsimp only
  split <;> exact hfreed

/-- Abandoned convoys change the requests, the bays and the frame pool alone (R83). -/
theorem State.abandonConvoys_offConvoys (s : State) (n : Nat) : (s.abandonConvoys n).offConvoys = s.offConvoys := by
  unfold State.abandonConvoys
  split
  · rfl
  · refine (State.offConvoys_eq_of_offPool (State.freeFrames_offPool _ _)).trans
      (foldl_keeps State.offConvoys _ _ _ fun t i => ?_)
    split
    · split
      · exact t.revertReq_offConvoys _
      · rfl
    · rfl

theorem State.abandonConvoys_mls (s : State) (n : Nat) : (s.abandonConvoys n).mls = s.mls :=
  (congrArg State.mls (s.abandonConvoys_offConvoys n) :)

/-- What bars the lines and the egress: the reasons of FENCED and the egress closed. -/
def Milestone.fences (m : Milestone) : Bool × Bool × Bool × Bool :=
  (m.fenceBreakout, m.fenceSelf, m.fenceLeave, m.egressClosed)

theorem State.endEntry_fences (s : State) (e : LedgerEntry) (code : Nat) :
    (s.endEntry e code).mls.fences = s.mls.fences := by
  rw [State.endEntry_mls]
  rfl

theorem State.mlsRaise_fences (s : State) (bits : Nat) : (s.mlsRaise bits).mls.fences = s.mls.fences := by
  unfold State.mlsRaise
  dsimp only
  split_ifs
  · rfl
  · rw [State.mls_of_trunk (State.event_trunk ..)]
    rfl

theorem State.cutLines_fences (s : State) (ls : List Nat) : (s.cutLines ls).mls.fences = s.mls.fences := by
  unfold State.cutLines
  extract_lets before cut _ cutState fallen
  have hfold : ∀ (l : List Pulse) (t : State),
      (l.foldl (fun s p => s.endEntry p.entry 1) t).mls.fences = t.mls.fences := fun l t =>
    foldl_keeps (fun s : State => s.mls.fences) _ l t fun s p => s.endEntry_fences p.entry 1
  rw [hfold, cutState.emitFalls_mls]
  rfl

theorem State.lineActive_of_levels {s t : State} (h : t.mls.levels = s.mls.levels) (l : Nat) :
    t.lineActive l = s.lineActive l := by
  simp only [Milestone.levels, Prod.mk.injEq] at h
  obtain ⟨-, hpulses, hset⟩ := h
  rw [State.lineActive, State.lineActive, hpulses, hset]

/-- After a cut of all sixteen lines none is at its active level. -/
theorem State.cutLines_lineActive (s : State) {l : Nat} (hl : l < 16) :
    (s.cutLines (List.range 16)).lineActive l = false := by
  obtain ⟨pulses, setLines, hcut, hpulses, hset⟩ := s.cutLines_levels (List.range 16)
  simp only [Milestone.levels, Prod.mk.injEq] at hcut
  obtain ⟨-, hp, hs⟩ := hcut
  have hl16 : l ∈ List.range 16 := List.mem_range.2 hl
  simp only [State.lineActive, hp, hs, Bool.or_eq_false_iff, List.any_eq_false, List.contains_iff_mem,
    decide_eq_true_eq]
  exact ⟨fun p hpm => hpulses p hpm l hl16, fun x hx hxl => hset x hx (hxl ▸ hl16)⟩

/-- The leaving fence set fences every line, and a line is active after it only under an earlier fence. -/
theorem State.setFences_leave (s : State) (brk self : Bool) :
    (s.setFences brk self true).mls.fenceLeave = true ∧
    ((s.linesFenced = true → ∀ l < 16, s.lineActive l = false) →
      ∀ l < 16, (s.setFences brk self true).lineActive l = false) := by
  have hfenced : ({ s with mls := { s.mls with
      fenceBreakout := brk, fenceSelf := self, fenceLeave := true } } : State).linesFenced = true := by
    simp [State.linesFenced]
  unfold State.setFences
  dsimp only
  simp only [hfenced]
  split
  · next hold => exact ⟨rfl, fun hquiet => hquiet hold.symm⟩
  · refine ⟨?_, fun _ l hl => ?_⟩
    · have hfences := (State.mlsRaise_fences _ 0x40).trans (State.cutLines_fences ({ s with mls := { s.mls with
        fenceBreakout := brk, fenceSelf := self, fenceLeave := true } } : State) (List.range 16))
      exact (congrArg (fun f => f.2.2.1) hfences :)
    · exact (State.lineActive_of_levels (State.mlsRaise_levels _ 0x40) l).trans (State.cutLines_lineActive _ hl)

/-- A ledger that is discarded keeps the entries whose pulse is in progress alone; lines and fences stay. -/
theorem State.discardLedger_spec (s : State) :
    s.discardLedger.mls.levels = s.mls.levels ∧ s.discardLedger.mls.fences = s.mls.fences ∧
    ∀ e ∈ s.discardLedger.mls.ledger, s.inPulse e = true := by
  unfold State.discardLedger
  refine ⟨foldl_keeps (fun t : State => t.mls.levels) _ _ _ fun t e => t.endEntry_levels e 7,
    foldl_keeps (fun t : State => t.mls.fences) _ _ _ fun t e => t.endEntry_fences e 7, fun e he => ?_⟩
  have hkept : ∀ (l : List LedgerEntry) (t : State),
      e ∈ (l.foldl (fun t x => t.endEntry x 7) t).mls.ledger → e ∈ t.mls.ledger ∧ e ∉ l := by
    intro l
    induction l with
    | nil => exact fun t ht => ⟨ht, List.not_mem_nil⟩
    | cons x rest ih =>
      intro t ht
      obtain ⟨hmem, hrest⟩ := ih _ ht
      rw [State.endEntry_ledger, List.mem_filter] at hmem
      refine ⟨hmem.1, fun hin => (List.mem_cons.mp hin).elim (fun heq => ?_) hrest⟩
      subst heq
      simp [namesEntry] at hmem
  obtain ⟨hmem, hnot⟩ := hkept _ s he
  by_contra hpulse
  exact hnot (List.mem_filter.mpr ⟨hmem, by simpa using hpulse⟩)

theorem State.inPulse_of_levels {s t : State} (h : t.mls.levels = s.mls.levels) (e : LedgerEntry) :
    t.inPulse e = s.inPulse e := by
  simp only [Milestone.levels, Prod.mk.injEq] at h
  rw [State.inPulse, State.inPulse, h.2.1]

/-- The last steps of the fence: the pair ALONE and DETACHED at the epoch seen, and reported. -/
def State.detachAt (s : State) (seen path : Nat) : State :=
  (((s.pairAlone.setPair 4 3 0).setEpoch seen).escRaise 8).event 0 0x0703 seen path

theorem State.detachAt_spec (s : State) (seen path : Nat) :
    (s.detachAt seen path).escort.role = 4 ∧ (s.detachAt seen path).escort.epoch = seen ∧
    (s.detachAt seen path).persist.epoch = seen ∧ (s.detachAt seen path).escort.copying = false ∧
    (s.detachAt seen path).launchUnit = s.launchUnit := by
  obtain ⟨hcopying, -, -⟩ := s.pairAlone_escort
  have htrunk : (s.pairAlone.setPair 4 3 0).trunk = s.trunk := (State.setPair_trunk ..).trans s.pairAlone_trunk
  obtain ⟨events, hpair⟩ := s.pairAlone.setPair_escort 4 3 0
  obtain ⟨streams, hepoch⟩ := (s.pairAlone.setPair 4 3 0).setEpoch_sets seen
  unfold State.detachAt
  generalize s.pairAlone.setPair 4 3 0 = detached at htrunk hpair hepoch
  have hunit : (detached.setEpoch seen).launchUnit = s.launchUnit := by
    rw [hepoch, ← State.launchUnit_of_trunk htrunk]
    rfl
  have hescort : (detached.setEpoch seen).escort = { detached.escort with epoch := seen } := by rw [hepoch]
  have hpersist : (detached.setEpoch seen).persist.epoch = seen := by rw [hepoch]
  generalize detached.setEpoch seen = fenced at hunit hescort hpersist
  have hevent := State.event_inside (fenced.escRaise 8) 0 0x0703 seen path
  have hlast : ((fenced.escRaise 8).event 0 0x0703 seen path).persist = fenced.persist :=
    (congrArg State.persist hevent :)
  have hunitLast : ((fenced.escRaise 8).event 0 0x0703 seen path).launchUnit = fenced.launchUnit :=
    (State.launchUnit_of_trunk (State.trunk_eq_of_inside hevent)).trans rfl
  rw [State.event_escort, hlast, hunitLast]
  simp only [State.escRaise, hescort, hpair]
  exact ⟨trivial, trivial, hpersist, hcopying, hunit⟩

/-- The first steps of the fence: the lines fenced, the egress closed, the ledger and the convoys dropped. -/
def State.fencedOff (s : State) : State :=
  let s := s.setFences s.mls.fenceBreakout s.mls.fenceSelf true
  let s : State := { s with mls := { s.mls with egressClosed := true } }
  let s := s.discardLedger
  (s.bays.bay.map (·.1)).foldl State.abandonConvoys s

theorem State.fencedOff_spec (s : State) :
    s.fencedOff.mls.egressClosed = true ∧ s.fencedOff.mls.fenceLeave = true ∧
    ((s.linesFenced = true → ∀ l < 16, s.lineActive l = false) → ∀ l < 16, s.fencedOff.lineActive l = false) ∧
    (∀ e ∈ s.fencedOff.mls.ledger, s.fencedOff.inPulse e = true) := by
  obtain ⟨hleave, hactive⟩ := s.setFences_leave s.mls.fenceBreakout s.mls.fenceSelf
  unfold State.fencedOff
  generalize s.setFences s.mls.fenceBreakout s.mls.fenceSelf true = fenced at hleave hactive
  extract_lets _ _ closed discarded
  obtain ⟨hlevels, hfences, hledger⟩ := closed.discardLedger_spec
  have hmls : ((discarded.bays.bay.map (·.1)).foldl State.abandonConvoys discarded).mls = discarded.mls :=
    foldl_keeps State.mls _ _ _ fun t n => t.abandonConvoys_mls n
  have hlevelsEnd := (congrArg Milestone.levels hmls).trans hlevels
  have hfencesEnd := (congrArg Milestone.fences hmls).trans hfences
  refine ⟨congrArg (fun f => f.2.2.2) hfencesEnd, (congrArg (fun f => f.2.2.1) hfencesEnd).trans hleave,
    fun hquiet l hl => (State.lineActive_of_levels hlevelsEnd l).trans (hactive hquiet l hl), fun e he => ?_⟩
  rw [hmls] at he
  rw [State.inPulse_of_levels hlevelsEnd]
  exact hledger e he

/-- An active that has seen a higher epoch: DETACHED at that epoch, its lines fenced and its ledger dropped (R356). -/
theorem State.fenceByEpoch_spec (s : State) (seen path : Nat) :
    let t := s.fenceByEpoch seen path
    t.escort.role = 4 ∧ t.escort.epoch = seen ∧ t.persist.epoch = seen ∧ t.escort.copying = false ∧
    t.mls.egressClosed = true ∧ t.linesFenced = true ∧
    ((s.linesFenced = true → ∀ l < 16, s.lineActive l = false) → ∀ l < 16, t.lineActive l = false) ∧
    (∀ e ∈ t.mls.ledger, t.inPulse e = true) := by
  obtain ⟨hegress, hleave, hactive, hledger⟩ := s.fencedOff_spec
  obtain ⟨hrole, hepoch, hpersist, hcopying, hunit⟩ := s.fencedOff.detachAt_spec seen path
  have hsteps : s.fenceByEpoch seen path = s.fencedOff.detachAt seen path := rfl
  rw [hsteps]
  generalize s.fencedOff.detachAt seen path = t at hrole hepoch hpersist hcopying hunit
  have hlevels : t.mls.levels = s.fencedOff.mls.levels := (congrArg Milestone.levels hunit :)
  have hfences : t.mls.fences = s.fencedOff.mls.fences := (congrArg Milestone.fences hunit :)
  have hleaveEnd : t.mls.fenceLeave = true := (congrArg (fun f => f.2.2.1) hfences).trans hleave
  refine ⟨hrole, hepoch, hpersist, hcopying, (congrArg (fun f => f.2.2.2) hfences :).trans hegress,
    by simp [State.linesFenced, hleaveEnd],
    fun hquiet l hl => (State.lineActive_of_levels hlevels l).trans (hactive hquiet l hl), fun e he => ?_⟩
  rw [State.inPulse_of_levels hlevels]
  exact hledger e ((congrArg Milestone.ledger hunit :) ▸ he)

/-- Settles O57: the takeover and the fence by epoch, with no launch in either. -/
theorem takeoverAndFences : Obligations.TakeoverAndFences := by
  refine ⟨fun s hrole hdead hepoch => ?_, fun s seen path hrole hjob hseen => ?_⟩
  · have hexec : exec .deadDeclaration s = .next s.takeOver := by
      simp [exec, execDeadDeclaration, hrole, hdead, hepoch]
    obtain ⟨⟨events, hescort⟩, htrunk⟩ := s.takeOver_spec
    obtain ⟨hep, hpe, hheld, hcopy, hstate, hledger, htracks, htime, hctxs, hmem⟩ := s.promoted_spec
    have hreqs : s.takeOver.reqs = s.promoted.reqs := (congrArg State.reqs htrunk :)
    have hmls : s.takeOver.mls = s.promoted.mls := State.mls_of_trunk htrunk
    have hlaunches : s.takeOver.launches = s.launches :=
      (congrArg (fun k => k.2.2) (execDeadDeclaration_kernel s s.takeOver hexec) :)
    refine ⟨s.takeOver, hexec, by rw [hescort], by rw [hescort], by rw [hescort]; exact hep,
      (congrArg (fun u : State => u.persist.epoch) htrunk :).trans hpe, by rw [hescort]; exact hheld,
      by rw [hescort]; exact hcopy, by rw [hreqs]; exact hstate, by rw [hmls, hledger], by rw [hmls, htracks],
      by rw [hmls, htime], (congrArg State.ctxs htrunk :).trans hctxs, (congrArg State.mem htrunk :).trans hmem,
      hlaunches⟩
  · intro t
    have ht : t = s.fenceByEpoch seen path := by
      show s.seeEpoch seen path = _
      unfold State.seeEpoch
      simp only [hseen, hrole, if_true]
    have hlaunches : t.launches = s.launches := (congrArg (fun k => k.2.2) (s.seeEpoch_kernel seen path) :)
    obtain ⟨hrole', hepoch, hpersist, hcopy, hegress, hfenced, hactive, hledger⟩ := s.fenceByEpoch_spec seen path
    rw [← ht] at hrole' hepoch hpersist hcopy hegress hfenced hactive hledger
    exact ⟨hrole', hepoch, hpersist, hcopy, hegress, hfenced, hactive, hledger, .inr (.inr hrole'), hlaunches⟩

end Sys2Proof.Machine
end

section
/-! PROOF. A data firing whose checksum agrees (R38 to R47, R58, R72, R73): it touches the counters and its own core
alone, beside the storing or reading of its input group. Settles O35. -/

namespace Sys2Proof.Machine

/-- The state without one core, the counters, the host link and what has left the module. -/
def State.besideCore (s : State) (n : Nat) : State :=
  { s with host := HostLink.reset, out := [], stats := [], cores := { s.cores with core := Map.erase s.cores.core n } }

theorem State.besideCore_eq_of_inside {s t : State} (h : t.inside = s.inside) (n : Nat) :
    t.besideCore n = s.besideCore n :=
  (congrArg (fun u : State => { u with stats := [], cores := { u.cores with core := Map.erase u.cores.core n } }) h :)

@[simp] theorem State.count_besideCore (s : State) (sel a b c d off n m : Nat) :
    (s.count sel a b c d off n).besideCore m = s.besideCore m := by
  unfold State.count
  dsimp only
  split_ifs
  · rw [State.besideCore_eq_of_inside (State.event_inside ..)]
    rfl
  · rfl

@[simp] theorem State.countPrescaled_besideCore (s : State) (sel a b c d off n m : Nat) :
    (s.countPrescaled sel a b c d off n).besideCore m = s.besideCore m := by
  unfold State.countPrescaled
  extract_lets key old sum new t
  split_ifs
  · exact State.besideCore_eq_of_inside (t.event_inside ..) m
  · rfl

theorem Map.erase_set {α : Type} (m : Map α) (k : Nat) (v : α) : Map.erase (Map.set m k v) k = Map.erase m k := by
  induction m with
  | nil => simp [Map.set, Map.erase]
  | cons p r ih =>
    obtain ⟨i, w⟩ := p
    by_cases hlt : k < i
    · simp [Map.set, Map.erase, hlt]
    · by_cases heq : i = k
      · simp [Map.set, Map.erase, heq]
      · simp only [Map.erase] at ih
        simp [Map.set, Map.erase, hlt, heq, ih]

@[simp] theorem State.setCore_besideCore (s : State) (n : Nat) (c : Core) :
    (s.setCore n c).besideCore n = s.besideCore n := by
  simp only [State.setCore, State.besideCore, Map.erase_set]

@[simp] theorem State.countFp_besideCore (s : State) (core sat flu m : Nat) :
    (s.countFp core sat flu).besideCore m = s.besideCore m := by
  simp [State.countFp]

@[simp] theorem State.noteFirings_besideCore (s : State) (core n : Nat) :
    (s.noteFirings core n).besideCore core = s.besideCore core := State.setCore_besideCore ..

@[simp] theorem State.countFiring_besideCore (s : State) (core string position : Nat) (calibration : Bool) :
    (s.countFiring core string position calibration).besideCore core = s.besideCore core := by
  unfold State.countFiring
  dsimp only
  split_ifs <;> simp

@[simp] theorem State.countSegment_besideCore (s : State) (f : Firing) (position : Nat) :
    (s.countSegment f position).besideCore f.core = s.besideCore f.core := by
  unfold State.countSegment
  dsimp only
  split_ifs <;> simp

@[simp] theorem State.noteWarm_besideCore (s : State) (f : Firing) :
    (s.noteWarm f).besideCore f.core = s.besideCore f.core := by
  unfold State.noteWarm
  split_ifs <;> simp

@[simp] theorem State.countSaturated_besideCore (s : State) (f : Firing) (n : Nat) :
    (s.countSaturated f n).besideCore f.core = s.besideCore f.core := by
  unfold State.countSaturated
  dsimp only
  split_ifs <;> simp

@[simp] theorem State.scaleFiring_besideCore (s : State) (core string position : Nat) (y xs : List Int) (emax m : Nat) :
    (s.scaleFiring core string position y xs emax).2.besideCore m = s.besideCore m := by
  unfold State.scaleFiring
  dsimp only
  split_ifs <;> simp

@[simp] theorem State.addSum_besideCore (s : State) (core : Nat) (x : RowSum) :
    (s.addSum core x).besideCore core = s.besideCore core := by
  unfold State.addSum
  simp

@[simp] theorem State.queueData_besideCore (s : State) (core ticket : Nat) (t : Option TileRef) (r : Option (List F32)) :
    (s.queueData core ticket t r).besideCore core = s.besideCore core := by
  unfold State.queueData
  split
  · exact State.addSum_besideCore ..
  · rfl

/-! ## What a firing reads -/

/-- A firing, its array and its tolerance are read from what lies beside the core. -/
theorem State.fire_of_besideCore {s t : State} {n : Nat} (h : t.besideCore n = s.besideCore n)
    (core string position : Nat) (xs : List Int) (ticket : Nat) :
    t.fire core string position xs ticket = s.fire core string position xs ticket :=
  (congrArg (fun u : State => u.fire core string position xs ticket) h :)

theorem State.array_of_besideCore {s t : State} {n : Nat} (h : t.besideCore n = s.besideCore n)
    (core string position : Nat) : t.array core string position = s.array core string position :=
  (congrArg (fun u : State => u.array core string position) h :)

theorem State.tolerance_of_besideCore {s t : State} {n : Nat} (h : t.besideCore n = s.besideCore n) (bay : Nat) :
    t.tolerance bay = s.tolerance bay := (congrArg (fun u : State => u.tolerance bay) h :)

theorem State.core_of_besideCore {s t : State} {n m : Nat} (h : t.besideCore n = s.besideCore n) (hne : m ≠ n) :
    t.core m = s.core m := by
  have hcore := (congrArg (fun u : State => u.cores.core) h :)
  have hget : Map.get? (Map.erase t.cores.core n) m = Map.get? (Map.erase s.cores.core n) m :=
    congrArg (fun c => Map.get? c m) hcore
  rw [Map.get?_erase_ne _ hne, Map.get?_erase_ne _ hne] at hget
  rw [State.core, State.core, hget]

/-! ## ARRAY_FIRINGS -/

/-- The counter ARRAY_FIRINGS of a core (R58). -/
def firingsKey (core : Nat) : Nat := statKey 0x0001 core 0 0 0 8

/-- A counter of another offset is another counter. -/
theorem firingsKey_ne {core sel a b c d off : Nat} (h : off % 65536 ≠ 8) : firingsKey core ≠ statKey sel a b c d off := by
  unfold firingsKey statKey
  omega

/-- The firings a core has counted. -/
def State.firings (s : State) (core : Nat) : Nat := s.stat (firingsKey core)

theorem State.firings_count (s : State) (core sel a b c d n : Nat) {off : Nat} (h : off % 65536 ≠ 8) :
    (s.count sel a b c d off n).firings core = s.firings core :=
  ((countersStick s sel a b c d off n (firingsKey core)).2.2 (firingsKey_ne h)).1

theorem State.firings_countPrescaled (s : State) (core sel a b c d n : Nat) {off : Nat} (h : off % 65536 ≠ 8) :
    (s.countPrescaled sel a b c d off n).firings core = s.firings core :=
  ((countersStick s sel a b c d off n (firingsKey core)).2.2 (firingsKey_ne h)).2

theorem State.firings_countFp (s : State) (core c sat flu : Nat) :
    (s.countFp c sat flu).firings core = s.firings core := by
  rw [State.countFp, State.firings_count _ _ _ _ _ _ _ _ (by decide), State.firings_count _ _ _ _ _ _ _ _ (by decide)]

/-- A firing counts itself once, where its counter has not stuck (R58, R415). -/
theorem State.firings_countFiring {s : State} {core : Nat} (string position : Nat) (calibration : Bool)
    (h : s.firings core + 1 < 2 ^ 64 - 65536) :
    (s.countFiring core string position calibration).firings core = s.firings core + 1 := by
  unfold State.countFiring
  extract_lets now noted _ slotted counted
  have hslotted : slotted.firings core = s.firings core := rfl
  have hcounted : counted.firings core = s.firings core + 1 := by
    have := (countersStick slotted 0x0001 core 0 0 0 8 1 0).2.1
    have hsmall : ¬ (slotted.firings core + 1) / 65536 ≥ 2 ^ 48 - 1 := by omega
    rw [← hslotted]
    exact this.trans (if_neg hsmall)
  split_ifs
  · rw [State.firings_count _ _ _ _ _ _ _ _ (by decide), hcounted]
  · exact hcounted

theorem State.firings_countSaturated (s : State) (core : Nat) (f : Firing) (n : Nat) :
    (s.countSaturated f n).firings core = s.firings core := by
  unfold State.countSaturated
  dsimp only
  split_ifs
  · rfl
  · rw [State.firings_countPrescaled _ _ _ _ _ _ _ _ (by decide),
      State.firings_countPrescaled _ _ _ _ _ _ _ _ (by decide)]
  · rw [State.firings_countPrescaled _ _ _ _ _ _ _ _ (by decide)]

theorem State.firings_noteWarm (s : State) (core : Nat) (f : Firing) : (s.noteWarm f).firings core = s.firings core := by
  unfold State.noteWarm
  split_ifs <;> rfl

theorem State.firings_scaleFiring (s : State) (m core string position : Nat) (y xs : List Int) (emax : Nat) :
    (s.scaleFiring core string position y xs emax).2.firings m = s.firings m := by
  unfold State.scaleFiring
  dsimp only
  split_ifs
  · rw [State.firings_countFp]
  · rw [State.firings_count _ _ _ _ _ _ _ _ (by decide), State.firings_countFp]

theorem State.firings_queueData (s : State) (m core ticket : Nat) (t : Option TileRef) (r : Option (List F32)) :
    (s.queueData core ticket t r).firings m = s.firings m := by
  unfold State.queueData
  split
  · unfold State.queueTile State.addSum
    exact State.firings_countFp ..
  · rfl

theorem State.firings_countSegment {s : State} {f : Firing} (position : Nat)
    (h : s.firings f.core + 1 < 2 ^ 64 - 65536) :
    (s.countSegment f position).firings f.core = s.firings f.core + 1 := by
  unfold State.countSegment
  dsimp only
  split_ifs
  · rw [State.firings_countPrescaled _ _ _ _ _ _ _ _ (by decide), State.firings_countFiring _ _ _ h]
  · exact State.firings_countFiring _ _ _ h

/-! ## The firing -/

/-- A firing on aligned activations whose checksum agrees, of an array without a suspect word (R41 to R46, R73). -/
theorem State.fireAligned_agreeing {s : State} {f : Firing} {xs : List Int} (tile : Option TileRef) (emax : Nat)
    (hdis : (s.fire f.core f.string f.position xs s.free).dis ≤ checkThreshold (s.tolerance f.bay))
    (hword : (s.array f.core f.string f.position).wordSuspect = false) :
    (s.fireAligned f tile xs emax).besideCore f.core = ({ s with free := s.free + 1044 } : State).besideCore f.core ∧
    (s.firings f.core + 1 < 2 ^ 64 - 65536 →
      (s.fireAligned f tile xs emax).firings f.core = s.firings f.core + 1) := by
  unfold State.fireAligned
  extract_lets n r fired
  have hfired : fired.besideCore f.core = ({ s with free := s.free + 1044 } : State).besideCore f.core := by
    simp only [fired, State.countSaturated_besideCore, State.noteWarm_besideCore, State.countSegment_besideCore, n]
  have hcount : s.firings f.core + 1 < 2 ^ 64 - 65536 → fired.firings f.core = s.firings f.core + 1 := fun h => by
    rw [State.firings_countSaturated, State.firings_noteWarm]
    exact State.firings_countSegment (s := { s with free := n + 1044 }) f.position h
  have hscaled := (fired.scaleFiring_besideCore f.core f.string f.position r.y xs emax f.core).trans hfired
  have hscaledCount := fired.firings_scaleFiring f.core f.core f.string f.position r.y xs emax
  clear_value fired
  generalize fired.scaleFiring f.core f.string f.position r.y xs emax = scaled at hscaled hscaledCount
  obtain ⟨results, u⟩ := scaled
  dsimp only at hscaled hscaledCount ⊢
  have htol : u.tolerance f.bay = s.tolerance f.bay := State.tolerance_of_besideCore hscaled f.bay
  have hsuspect : (u.array f.core f.string f.position).wordSuspect = false := by
    rw [State.array_of_besideCore hscaled]
    exact hword
  rw [if_neg (by rw [htol]; exact not_lt.mpr hdis), hsuspect]
  simp only [Bool.false_eq_true, if_false, State.queueData_besideCore, State.firings_queueData]
  exact ⟨hscaled, fun h => hscaledCount.trans (hcount h)⟩

/-- What lies beside a core after conversions that advanced the free values. -/
theorem fields_of_conversions {t u : State} {n k : Nat}
    (h : t.besideCore n = ({ u with free := u.free + k } : State).besideCore n) :
    t.free = u.free + k ∧ t.ctxs = u.ctxs ∧ t.reqs = u.reqs ∧ t.bays = u.bays ∧ t.mls = u.mls ∧ t.mem = u.mem ∧
    t.video = u.video ∧ t.customs = u.customs ∧ t.escort = u.escort ∧ t.power = u.power ∧ t.fw = u.fw ∧
    (∀ m, m ≠ n → t.core m = u.core m) ∧ ∀ c st p, t.array c st p = u.array c st p :=
  ⟨(congrArg State.free h :), (congrArg State.ctxs h :), (congrArg State.reqs h :), (congrArg State.bays h :),
    (congrArg State.mls h :), (congrArg State.mem h :), (congrArg State.video h :), (congrArg State.customs h :),
    (congrArg State.escort h :), (congrArg State.power h :), (congrArg State.fw h :),
    fun _ hm => (State.core_of_besideCore h hm).trans rfl, fun c st p => (State.array_of_besideCore h c st p).trans rfl⟩

/-- Settles O35. -/
theorem agreeingFiring : Obligations.AgreeingFiring := by
  intro s t f hfires hkind hmay g u hnan hword hdis hexec
  have hmade : exec (.arrayFiring f) s = .next (s.fireGroup f) := by
    simp [exec, execArrayFiring, hfires, hkind, hmay]
  obtain rfl := Host.Outcome.next.inj (hexec.symm.trans hmade)
  let tile := (s.dataEntry f).map fun e => tileRef f e.1 e.2
  let flushed := (alignGroup g).2.2
  let v := if newGroup f && flushed ≠ 0 then u.count 0x0001 f.core 0 0 0 24 flushed else u
  have hgroup : s.fireGroup f = v.fireAligned f tile (alignGroup g).1 (alignGroup g).2.1 := by
    simp only [State.fireGroup, hkind, if_true]
    rw [if_neg (by simpa using hnan)]
  have hv : v.besideCore f.core = u.besideCore f.core := by
    simp only [v]
    split <;> simp
  have hfirings : v.firings f.core = u.firings f.core := by
    simp only [v]
    split
    · exact State.firings_count _ _ _ _ _ _ _ _ (by decide)
    · rfl
  have hfree : v.free = u.free := (congrArg State.free hv :)
  obtain ⟨hbeside, hcount⟩ := State.fireAligned_agreeing (s := v) (f := f) tile (alignGroup g).2.1
    (by rw [State.fire_of_besideCore hv, State.tolerance_of_besideCore hv, hfree]; exact hdis)
    (by rw [State.array_of_besideCore hv]; exact hword)
  rw [hgroup]
  generalize v.fireAligned f tile (alignGroup g).1 (alignGroup g).2.1 = t at hbeside hcount
  have hall : t.besideCore f.core = ({ u with free := u.free + 1044 } : State).besideCore f.core := by
    rw [hbeside, ← hfree]
    exact (congrArg (fun w : State => { w with free := v.free + 1044 }) hv :)
  obtain ⟨hfreed, hctxs, hreqs, hbays, hmls, hmem, hvideo, hcustoms, hescort, hpower, hfw, hcores, harrays⟩ :=
    fields_of_conversions hall
  rw [hfirings] at hcount
  exact ⟨hfreed, hctxs, hreqs, hbays, hmls, hmem, hvideo, hcustoms, hescort, hpower, hfw, hcores, harrays, hcount⟩

end Sys2Proof.Machine
end

section
/-! PROOF. The frame of reads and writes of the memories (R246, R259 to R265): they touch the memories with their log, the
counters, the free values and what leaves the module. -/

namespace Sys2Proof.Machine

/-- The state without the memories and without what `State.trunk` blanks, but with the state of the host link's training. -/
def State.besideMemory (s : State) : State :=
  { s.trunk with mem := MemSys.reset s.persist, host := { HostLink.reset with linkUp := s.host.linkUp } }

theorem State.besideMemory_eq_of_trunk {s t : State} (h : t.trunk = s.trunk) (hlink : t.host.linkUp = s.host.linkUp) :
    t.besideMemory = s.besideMemory := by
  have hmem := (congrArg (fun u : State => { u with
    mem := MemSys.reset u.persist, host := { HostLink.reset with linkUp := s.host.linkUp } }) h :)
  unfold State.besideMemory
  rw [hlink]
  exact hmem

theorem State.event_linkUp (s : State) (fn code object detail : Nat) :
    (s.event fn code object detail).host.linkUp = s.host.linkUp := by
  unfold State.event
  dsimp only
  split_ifs <;> rfl

@[simp] theorem State.event_besideMemory (s : State) (fn code object detail : Nat) :
    (s.event fn code object detail).besideMemory = s.besideMemory :=
  State.besideMemory_eq_of_trunk (s.event_trunk ..) (s.event_linkUp ..)

@[simp] theorem State.event2_besideMemory (s : State) (tenant code object detail : Nat) :
    (s.event2 tenant code object detail).besideMemory = s.besideMemory := by
  unfold State.event2
  split
  · exact State.event_besideMemory ..
  · exact (State.event_besideMemory ..).trans (State.event_besideMemory ..)

@[simp] theorem State.count_besideMemory (s : State) (sel a b c d off n : Nat) :
    (s.count sel a b c d off n).besideMemory = s.besideMemory := by
  unfold State.count
  dsimp only
  split
  · exact (State.event_besideMemory ..).trans rfl
  · rfl

@[simp] theorem State.logAdd_besideMemory (s : State) (kind cls unit tenant : Nat) (raised : Bool) (detail : List Byte) :
    (s.logAdd kind cls unit tenant raised detail).besideMemory = s.besideMemory := by
  unfold State.logAdd
  extract_lets seq e full lost ovf stuck _ t
  split
  · rw [State.event_besideMemory]
    rfl
  · rfl

@[simp] theorem State.logLimited_besideMemory (s : State) (kind cls unit tenant : Nat) (detail : List Byte)
    (same : LogEntry → Bool) : (s.logLimited kind cls unit tenant detail same).besideMemory = s.besideMemory := by
  unfold State.logLimited
  split
  · split
    · rfl
    · exact State.logAdd_besideMemory ..
  · exact State.logAdd_besideMemory ..

@[simp] theorem State.setMemory_besideMemory (s : State) (cls unit : Nat) (m : Memory) :
    (s.setMemory cls unit m).besideMemory = s.besideMemory := rfl

@[simp] theorem State.xorWord_besideMemory (s : State) (cls unit cw mask : Nat) :
    (s.xorWord cls unit cw mask).besideMemory = s.besideMemory := rfl

@[simp] theorem State.xorStored_besideMemory (s : State) (cls unit cw mask : Nat) :
    (s.xorStored cls unit cw mask).besideMemory = s.besideMemory := by
  unfold State.xorStored
  split <;> rfl

@[simp] theorem State.foundCorrectable_besideMemory (s : State) (cls unit addr syndrome place : Nat) :
    (s.foundCorrectable cls unit addr syndrome place).besideMemory = s.besideMemory := by
  simp [State.foundCorrectable]

@[simp] theorem State.foundUncorrectable_besideMemory (s : State) (cls unit addr syndrome : Nat) (scrub : Bool) :
    (s.foundUncorrectable cls unit addr syndrome scrub).besideMemory = s.besideMemory := by
  simp [State.foundUncorrectable]

@[simp] theorem State.poisonWord_besideMemory (s : State) (cls unit addr : Nat) :
    (s.poisonWord cls unit addr).besideMemory = s.besideMemory := by
  unfold State.poisonWord
  dsimp only
  split_ifs <;> rfl

@[simp] theorem State.passUnseen_besideMemory (s : State) (cls unit cw mask : Nat) :
    (s.passUnseen cls unit cw mask).besideMemory = s.besideMemory := by
  unfold State.passUnseen
  split <;> rfl

/-- A read of a flipped codeword touches the memories, the counters, the free values and reports alone. -/
@[simp] theorem State.readFlipped_besideMemory (s : State) (cls unit cw mask : Nat) (scrub : Bool) :
    (s.readFlipped cls unit cw mask scrub).besideMemory = s.besideMemory := by
  unfold State.readFlipped State.draw
  dsimp only
  split
  · rfl
  · rw [State.foundCorrectable_besideMemory]
    split <;> rfl
  · rw [State.poisonWord_besideMemory, State.foundUncorrectable_besideMemory]
    split_ifs <;> rfl
  · split
    · rw [State.passUnseen_besideMemory]
      rfl
    · rw [State.foundCorrectable_besideMemory, State.xorStored_besideMemory]
      rfl

@[simp] theorem State.readRange_besideMemory (s : State) (cls unit addr len : Nat) (scrub : Bool) :
    (s.readRange cls unit addr len scrub).besideMemory = s.besideMemory :=
  foldl_keeps State.besideMemory _ _ _ fun _ _ => State.readFlipped_besideMemory ..

@[simp] theorem State.applyFlip_besideMemory (s : State) (cls unit cw tenant : Nat) :
    (s.applyFlip cls unit cw tenant).besideMemory = s.besideMemory := by
  unfold State.applyFlip
  dsimp only
  rw [State.logAdd_besideMemory]
  split <;> rfl

@[simp] theorem State.flipMeets_besideMemory (s : State) (cls unit addr len tenant : Nat) :
    (s.flipMeets cls unit addr len tenant).besideMemory = s.besideMemory := by
  unfold State.flipMeets
  extract_lets target hit
  split
  · rfl
  split
  · exact State.applyFlip_besideMemory ..
  split <;> rfl

@[simp] theorem State.memWrite_besideMemory (s : State) (cls unit addr : Nat) (bytes : List Byte) (tenant : Nat) :
    (s.memWrite cls unit addr bytes tenant).besideMemory = s.besideMemory := by
  unfold State.memWrite State.newWords
  exact State.flipMeets_besideMemory ..

end Sys2Proof.Machine
end

section
/-! PROOF. What a fence leaves of its core, and a retirement on a resting core (R81 to R83). Settles O37. -/

namespace Sys2Proof.Machine

/-! ## Tables whose numbers rise -/

theorem Map.rises_set {α : Type} {m : Map α} (k : Nat) (v : α) (h : Map.rises m) : Map.rises (Map.set m k v) := by
  induction m with
  | nil => exact List.pairwise_singleton _ _
  | cons p r ih =>
    obtain ⟨i, w⟩ := p
    obtain ⟨hi, hr⟩ := List.pairwise_cons.mp h
    have hset : ∀ j ∈ (Map.set r k v).map (·.1), j ∈ r.map (·.1) ∨ j = k := fun j hj => by
      obtain ⟨q, hq, rfl⟩ := List.mem_map.mp hj
      rcases Map.mem_set hq with hq | rfl
      · exact .inl (List.mem_map_of_mem hq)
      · exact .inr rfl
    unfold Map.rises Map.set
    split
    · next hlt =>
      refine List.pairwise_cons.mpr ⟨fun j hj => ?_, h⟩
      rcases List.mem_cons.mp hj with rfl | hj
      · exact hlt
      · exact hlt.trans (hi j hj)
    · split
      · next heq => exact List.pairwise_cons.mpr ⟨heq ▸ hi, hr⟩
      · next hlt heq =>
        refine List.pairwise_cons.mpr ⟨fun j hj => ?_, ih hr⟩
        rcases hset j hj with hj | rfl
        · exact hi j hj
        · exact lt_of_le_of_ne (not_lt.mp hlt) heq

/-- In a table whose numbers rise every entry is the one that its number reads. -/
theorem Map.get?_of_mem {α : Type} {m : Map α} {p : Nat × α} (h : Map.rises m) (hp : p ∈ m) :
    Map.get? m p.1 = some p.2 := by
  induction m with
  | nil => exact absurd hp List.not_mem_nil
  | cons q r ih =>
    obtain ⟨i, w⟩ := q
    obtain ⟨hi, hr⟩ := List.pairwise_cons.mp h
    rcases List.mem_cons.mp hp with rfl | hp
    · simp [Map.get?]
    · have hne : i ≠ p.1 := (hi p.1 (List.mem_map_of_mem hp)).ne
      simp only [Map.get?, hne, if_false]
      exact ih hr hp

/-! ## The cores and the pending re-fires -/

/-- The cores and the pending re-fires. -/
def State.roster (s : State) : Map Core × List PendingRefire := (s.cores.core, s.cores.refires)

theorem State.roster_of_besideMemory {s t : State} (h : t.besideMemory = s.besideMemory) : t.roster = s.roster :=
  (congrArg State.roster h :)

theorem State.roster_of_trunk {s t : State} (h : t.trunk = s.trunk) : t.roster = s.roster :=
  (congrArg State.roster h :)

theorem State.writeTile_roster (s : State) (core string position : Nat) (tile : List W64) (scales : List Byte)
    (mxint8 : Bool) (step tenant : Nat) :
    (s.writeTile core string position tile scales mxint8 step tenant).roster = s.roster := by
  unfold State.writeTile State.checkArray
  exact State.roster_of_besideMemory (t := (s.memWrite 4 core _ _ tenant).readRange 4 core _ 34816 false)
    ((State.readRange_besideMemory ..).trans (s.memWrite_besideMemory 4 core _ _ tenant))

theorem State.writeIndex_roster (s : State) (core string index position : Nat) :
    (s.writeIndex core string index position).roster = s.roster := by
  unfold State.writeIndex
  split
  · exact State.writeTile_roster ..
  · rfl

theorem State.recordArray_roster (s : State) (core string position : Nat) :
    (s.recordArray core string position).roster = s.roster := by
  unfold State.recordArray
  dsimp only
  rw [State.roster_of_besideMemory (State.logAdd_besideMemory ..)]
  rfl

theorem State.switchRemap_roster (s : State) (core : Nat) (d : Nat × Nat × Option CmdRef) :
    (s.switchRemap core d).roster = s.roster := by
  have hretired : ∀ st i old, ((s.setRemap core st i d.2.1).recordArray core st old).roster = s.roster :=
    fun st i old => State.recordArray_roster ..
  unfold State.switchRemap
  dsimp only
  split
  · rw [State.roster_of_trunk (State.reply_trunk ..)]
    split
    · rfl
    · exact hretired _ _ _
  · split
    · rfl
    · exact s.writeIndex_roster core _ _ _

theorem State.switchRemaps_roster (s : State) (core : Nat) : (s.switchRemaps core).roster = s.roster := by
  unfold State.switchRemaps State.switchIndices
  split
  · rfl
  · exact foldl_keeps State.roster _ _ _ fun _ _ => State.switchRemap_roster ..

theorem State.roster_of_offConvoys {s t : State} (h : t.offConvoys = s.offConvoys) : t.roster = s.roster :=
  (congrArg State.roster h :)

theorem State.emptyBay_roster (s : State) (n : Nat) : (s.emptyBay n).roster = s.roster := by
  have habandoned : (s.abandonConvoys n).roster = s.roster := State.roster_of_offConvoys (s.abandonConvoys_offConvoys n)
  unfold State.emptyBay
  dsimp only
  split
  · exact habandoned
  · rename_i b _
    have hreplied : (match b.jobs with
        | j :: _ => (match j.stopped, j.handle, j.ref with
          | true, some _, some c => (s.abandonConvoys n).reply c Status.noBaySpace 0 0
          | _, _, _ => s.abandonConvoys n)
        | [] => s.abandonConvoys n).roster = s.roster := by
      split
      · split
        · exact (State.roster_of_trunk (State.reply_trunk ..)).trans habandoned
        · exact habandoned
      · exact habandoned
    exact hreplied

theorem State.loseSlice_roster (s : State) (slice core : Nat) : (s.loseSlice slice core).roster = s.roster := by
  refine foldl_keeps State.roster _ _ _ fun t n => ?_
  exact (State.roster_of_trunk (State.event2_trunk ..)).trans (t.emptyBay_roster n)

/-- A core that is out of service: fenced, with no slice and no sum, no re-fire pending on it. -/
def State.OutOfService (s : State) (n reason : Nat) : Prop :=
  Map.rises s.cores.core ∧ Map.get? s.cores.core n ≠ none ∧
  (s.core n).role = 2 ∧ (s.core n).slice = none ∧ (s.core n).fenceReason = reason ∧ (s.core n).sums = [] ∧
  ∀ r ∈ s.cores.refires, r.firing.core ≠ n

theorem State.outOfService_of_roster {s t : State} {n reason : Nat} (h : t.roster = s.roster)
    (hs : s.OutOfService n reason) : t.OutOfService n reason := by
  obtain ⟨hcore, hrefires⟩ := Prod.mk.inj h
  unfold State.OutOfService State.core
  rw [hcore, hrefires]
  exact hs

/-- A change of another core leaves a core out of service. -/
theorem State.outOfService_setCore {s : State} {n reason m : Nat} (c : Core) (hne : m ≠ n)
    (hs : s.OutOfService n reason) : (s.setCore m c).OutOfService n reason := by
  obtain ⟨hrises, hthere, hrest⟩ := hs
  have hget : Map.get? (s.setCore m c).cores.core n = Map.get? s.cores.core n := Map.get?_set_ne _ _ hne.symm
  refine ⟨Map.rises_set m c hrises, by rw [hget]; exact hthere, ?_⟩
  unfold State.core at hrest ⊢
  rw [hget]
  exact hrest

/-- An abandoned handover rests the core that loaded, which is another one. -/
theorem State.outOfService_abandonHandover {s : State} {n reason : Nat} (hs : s.OutOfService n reason) :
    s.abandonHandover.OutOfService n reason := by
  unfold State.abandonHandover
  split
  · exact hs
  next h _ =>
  dsimp only
  refine State.outOfService_of_roster (foldl_keeps State.roster _ _ _ fun _ _ =>
    State.roster_of_trunk (State.reply_trunk ..)) ?_
  split
  · next hrole =>
    refine State.outOfService_setCore _ (fun heq => ?_) hs
    obtain ⟨-, -, hfenced, -⟩ := hs
    rw [heq, hfenced] at hrole
    cases hrole
  · exact hs

theorem State.outOfService_dropHandover {s : State} {n reason : Nat} (slice : Option Nat) (core : Nat)
    (hs : s.OutOfService n reason) : (s.dropHandover slice core).OutOfService n reason := by
  unfold State.dropHandover
  split
  · exact State.outOfService_of_roster (State.loseSlice_roster ..) (State.outOfService_abandonHandover hs)
  · exact State.outOfService_abandonHandover hs

/-- The resting core is not one that is out of service. -/
theorem State.restingCore_ne {s : State} {n reason r : Nat} (hs : s.OutOfService n reason)
    (hr : s.restingCore = some r) : r ≠ n := by
  rintro rfl
  obtain ⟨hrises, -, hfenced, -⟩ := hs
  obtain ⟨p, hp, rfl⟩ := Option.map_eq_some_iff.mp hr
  have hrole : p.2.role = 1 := by simpa using List.find?_some hp
  rw [State.core, Map.get?_of_mem hrises (List.mem_of_find?_eq_some hp), Option.getD_some, hrole] at hfenced
  cases hfenced

/-- Fencing a core takes it out of service (R83). -/
theorem State.fenceCore_outOfService {s : State} {n : Nat} (reason : Nat) (hrises : Map.rises s.cores.core)
    (hrole : (s.core n).role ≠ 2) : (s.fenceCore n reason).OutOfService n reason := by
  unfold State.fenceCore
  extract_lets c fenced _ cleared released
  rw [if_neg hrole]
  have hfenced : fenced.roster = (s.setCore n { s.core n with
      role := 2, slice := none, fenceReason := reason, restStart := none, sums := [] }).roster :=
    State.roster_of_trunk (State.event_trunk ..)
  obtain ⟨hcore, hrefires⟩ := Prod.mk.inj hfenced
  have hcleared : cleared.OutOfService n reason := by
    have hget : Map.get? cleared.cores.core n = some { s.core n with
        role := 2, slice := none, fenceReason := reason, restStart := none, sums := [] } :=
      (congrArg (fun m => Map.get? m n) hcore).trans (Map.get?_set_self _ _ _)
    refine ⟨?_, by rw [hget]; exact Option.some_ne_none _, ?_⟩
    · show Map.rises fenced.cores.core
      rw [hcore]
      exact Map.rises_set _ _ hrises
    · rw [State.core, hget]
      exact ⟨rfl, rfl, rfl, rfl, fun r hr => by simpa using (List.mem_filter.mp hr).2⟩
  have hreleased : released.OutOfService n reason :=
    State.outOfService_of_roster (t := released) (State.switchRemaps_roster cleared n) hcleared
  clear_value released
  split
  · exact State.outOfService_dropHandover _ _ hreleased
  · next slice _ _ =>
    have habandoned : ∀ l : List Nat, (l.foldl State.abandonConvoys released).OutOfService n reason := fun l =>
      State.outOfService_of_roster (foldl_keeps State.roster _ _ _ fun t m =>
        State.roster_of_offConvoys (t.abandonConvoys_offConvoys m)) hreleased
    have hemptied := habandoned (released.sliceBays slice)
    dsimp only
    generalize (released.sliceBays slice).foldl State.abandonConvoys released = emptied at hemptied
    split
    · split
      · exact hemptied
      · exact State.outOfService_of_roster (State.loseSlice_roster ..) hemptied
    · split
      · next r hr => exact State.outOfService_setCore _ (State.restingCore_ne hemptied hr) hemptied
      · exact State.outOfService_of_roster (State.loseSlice_roster ..) hemptied
  · exact hreleased

/-! ## A retirement on a resting core -/

theorem State.array_setArray_self (s : State) (core string position : Nat) (a : ArrayRec) :
    (s.setArray core string position a).array core string position = a := by
  simp [State.array, State.setArray]

theorem State.array_setArray_ne (s : State) {core string position p : Nat} (a : ArrayRec) (h : p ≠ position) :
    (s.setArray core string position a).array core string p = s.array core string p := by
  have hkey : arrayKey core string p ≠ arrayKey core string position := fun heq => h (by unfold arrayKey at heq; omega)
  simp only [State.array, State.setArray, Map.get?_set_ne _ _ hkey]

/-- A spare that takes a tile on a core that serves nothing is in service at once. -/
def State.mapSpare (s : State) (core string position : Nat) : State :=
  s.setArray core string position { s.array core string position with
    state := 0, standbyFor := none, writeEnd := none }

/-- RETIRE_ARRAY on a resting core points the index at the spare and records the array (Table 03-8). -/
theorem retireArrayRun_resting {s : State} {core string position i p : Nat} (c : CmdRef) (hcore : core ≤ 8)
    (hstring : string ≤ 31) (hposition : position ≤ 129) (hindex : s.indexAt core string position = some i)
    (hspare : s.nextSpare core string = some p) (hstate : (s.array core string position).state = 0)
    (hrole : (s.core core).role = 1) (hwaits : s.remapWaits core string i = false)
    (hwritten : s.writtenIndex core i = false) :
    retireArrayRun core string position c s =
      (((s.mapSpare core string p).setRemap core string i p).recordArray core string position).reply c
        Status.done 0 0 := by
  have hrange : (decide (core > 8) || decide (string > 31) || decide (position > 129)) = false := by
    simp [hcore, hstring, hposition]
  have hserves : s.leavesService core = false := by simp [State.leavesService, hrole]
  have hrole' : ((s.mapSpare core string p).core core).role = 1 := hrole
  have hwritten' : (s.mapSpare core string p).writtenIndex core i = false := hwritten
  simp only [retireArrayRun, hrange, hindex, hstate, hwaits, hspare, hserves, hrole, Bool.false_eq_true, if_false,
    ne_eq, not_true_eq_false, Bool.false_and, one_ne_zero, decide_false]
  rw [← State.mapSpare, hrole', hwritten']
  rfl

/-- A spare is another array than one in service. -/
theorem State.state_of_nextSpare {s : State} {core string p : Nat} (h : s.nextSpare core string = some p) :
    (s.array core string p).state ≠ 0 := by
  have hin : ∀ {st q : Nat}, (s.positionsIn core string st).head? = some q → (s.array core string q).state = st :=
    fun hq => by simpa using (List.mem_filter.mp (List.mem_of_head? hq)).2
  unfold State.nextSpare at h
  split at h
  · next q hq =>
    cases h
    rw [hin hq]
    decide
  · rw [hin h]
    decide

/-- What a retired array leaves: its record, the flash record and one log entry. -/
theorem State.recordArray_spec (s : State) (core string position : Nat) :
    let t := s.recordArray core string position
    t.cores.remap = s.cores.remap ∧ (t.array core string position).state = 3 ∧
    (∀ p, p ≠ position → t.array core string p = s.array core string p) ∧
    arrayKey core string position ∈ t.persist.retiredArrays ∧ t.mem.logHead = s.mem.nextLogSeq := by
  unfold State.recordArray
  extract_lets _ a u _ v
  have hbeside : (v.logAdd 0x08 4 core 255 false
      (leBytes 1 core ++ leBytes 1 string ++ leBytes 1 position)).besideMemory = v.besideMemory :=
    State.logAdd_besideMemory ..
  have hcores : (v.logAdd 0x08 4 core 255 false
      (leBytes 1 core ++ leBytes 1 string ++ leBytes 1 position)).cores = v.cores := (congrArg State.cores hbeside :)
  have hpersist : (v.logAdd 0x08 4 core 255 false
      (leBytes 1 core ++ leBytes 1 string ++ leBytes 1 position)).persist = v.persist :=
    (congrArg State.persist hbeside :)
  refine ⟨(congrArg Cores.remap hcores :), ?_, fun p hp => ?_, ?_, ?_⟩
  · rw [State.array, hcores]
    exact congrArg ArrayRec.state (s.array_setArray_self core string position a)
  · rw [State.array, hcores]
    exact s.array_setArray_ne a hp
  · rw [hpersist]
    exact List.mem_append_right _ List.mem_cons_self
  · rw [State.logAdd_sets_mem]
    rfl

/-- Settles O37: the fence by `fenceCore_outOfService`, the retirement by its record. -/
theorem fencedCore : Obligations.FencedCore := by
  refine ⟨fun s n reason hrises hrole => ?_, fun s n reason hrole => ?_, ?_, ?_, fun s n c => Map.rises_set n c⟩
  · exact (State.fenceCore_outOfService reason hrises hrole).2.2
  · simp only [State.fenceCore, hrole, if_true]
  · intro h core string position i p s t hstart hcore hstring hposition b hindex hspare hstate hrole hwaits hwritten
      hexec
    have ht := Host.Outcome.next.inj
      (hexec.symm.trans (congrArg Host.Outcome.next (State.cmd_started s 0x0504 h _ hstart)))
    rw [retireArrayRun_resting _ hcore hstring hposition hindex hspare hstate hrole hwaits hwritten] at ht
    obtain ⟨hremap, hretired, hothers, hrecorded, hlog⟩ :=
      ((b.mapSpare core string p).setRemap core string i p).recordArray_spec core string position
    have htrunk : t.trunk = (((b.mapSpare core string p).setRemap core string i p).recordArray core string
        position).trunk := ht ▸ State.reply_trunk ..
    have hcores := (congrArg State.cores htrunk :)
    have hne : p ≠ position := fun heq => State.state_of_nextSpare hspare (heq ▸ hstate)
    generalize ((b.mapSpare core string p).setRemap core string i p).recordArray core string position = u at *
    have hcores : t.cores = u.cores := hcores
    refine ⟨?_, ?_, ?_, ?_, ?_⟩
    · rw [State.physical, hcores, hremap]
      simp [State.setRemap]
    · rw [State.array, hcores]
      exact hretired
    · rw [State.array, hcores]
      refine (congrArg ArrayRec.state (hothers p hne)).trans ?_
      exact congrArg ArrayRec.state (b.array_setArray_self core string p _)
    · rw [show t.persist = u.persist from (congrArg State.persist htrunk :)]
      exact hrecorded
    · rw [show t.mem = u.mem from (congrArg State.mem htrunk :), hlog]
      rfl
  · unfold Map.rises
    decide

end Sys2Proof.Machine
end

section
/-! PROOF. The power view of a state, the effective limits, and obligation O58. -/

namespace Sys2Proof.Machine

/-! ## What reports and fences leave of the power state -/

/-- The power state, what persists and the interval clock. -/
def State.powerView (s : State) : Power × Persist × Nat := (s.power, s.persist, s.mls.uptime)

theorem State.powerView_of_inside {s t : State} (h : t.inside = s.inside) : t.powerView = s.powerView :=
  (congrArg State.powerView h :)

theorem State.powerView_of_trunk {s t : State} (h : t.trunk = s.trunk) : t.powerView = s.powerView :=
  (congrArg State.powerView h :)

@[simp] theorem State.event_powerView (s : State) (fn code object detail : Nat) :
    (s.event fn code object detail).powerView = s.powerView := State.powerView_of_inside (s.event_inside ..)

@[simp] theorem State.reply_powerView (s : State) (c : CmdRef) (status r0 r1 : Nat) :
    (s.reply c status r0 r1).powerView = s.powerView := State.powerView_of_inside (s.reply_inside ..)

/-- An entry of the error log changes the memories' registers, and is reported at most. -/
theorem State.logAdd_inside (s : State) (kind cls unit tenant : Nat) (raised : Bool) (detail : List Byte) :
    ∃ m : MemSys, (s.logAdd kind cls unit tenant raised detail).inside = ({ s with mem := m } : State).inside := by
  unfold State.logAdd
  extract_lets
  split
  · exact ⟨_, State.event_inside ..⟩
  · exact ⟨_, rfl⟩

@[simp] theorem State.logAdd_powerView (s : State) (kind cls unit tenant : Nat) (raised : Bool)
    (detail : List Byte) : (s.logAdd kind cls unit tenant raised detail).powerView = s.powerView := by
  obtain ⟨m, h⟩ := s.logAdd_inside kind cls unit tenant raised detail
  exact (State.powerView_of_inside h).trans rfl

theorem State.logAdd_escort (s : State) (kind cls unit tenant : Nat) (raised : Bool) (detail : List Byte) :
    (s.logAdd kind cls unit tenant raised detail).escort = s.escort := by
  obtain ⟨m, h⟩ := s.logAdd_inside kind cls unit tenant raised detail
  exact (State.escort_of_inside h).trans rfl

@[simp] theorem State.mlsRaise_powerView (s : State) (bits : Nat) : (s.mlsRaise bits).powerView = s.powerView := by
  unfold State.mlsRaise
  dsimp only
  split_ifs
  · rfl
  · rw [State.event_powerView]
    rfl

@[simp] theorem State.endEntry_powerView (s : State) (e : LedgerEntry) (code : Nat) :
    (s.endEntry e code).powerView = s.powerView :=
  (congrArg State.powerView (s.endEntry_stem e code) :)

@[simp] theorem State.cutLines_powerView (s : State) (ls : List Nat) : (s.cutLines ls).powerView = s.powerView := by
  unfold State.cutLines
  extract_lets before cut _ cutState fallen
  have hfallen : fallen.powerView = s.powerView := by
    have hinside : fallen.inside = cutState.inside := foldl_keeps State.inside _ _ _ fun _ _ => State.emit_inside ..
    exact (State.powerView_of_inside hinside).trans rfl
  exact (foldl_keeps State.powerView _ _ _ fun _ _ => State.endEntry_powerView ..).trans hfallen

@[simp] theorem State.setFences_powerView (s : State) (brk self leave : Bool) :
    (s.setFences brk self leave).powerView = s.powerView := by
  unfold State.setFences
  dsimp only
  split_ifs
  · rfl
  · rw [State.mlsRaise_powerView, State.cutLines_powerView]
    rfl
  · rw [State.mlsRaise_powerView]
    rfl

/-! ## The rails off -/

/-- With the rails off the power state is as before but for the rails, the dip and the leaving sequence; what persists
and the interval clock go on. -/
theorem State.railsOff_powerView (s : State) : s.railsOff.powerView =
    ({ s.power with railsOn := false, dip := false, smoothing := false, leaving := none }, s.persist, s.mls.uptime) := by
  unfold State.railsOff
  dsimp only
  unfold State.settleBreakout
  rw [State.setFences_powerView]
  rfl

/-! ## Rung changes and changes of a limit -/

/-- The power state of `s` with other event bits, and the escort, what persists and the interval clock of `s`. -/
def State.Reports (s t : State) : Prop :=
  (∃ events, t.power = { s.power with events := events }) ∧ t.escort = s.escort ∧ t.persist = s.persist ∧
    t.mls.uptime = s.mls.uptime

theorem State.reports_of_views {s t u : State} (h : s.Reports t) (hview : u.powerView = t.powerView)
    (hescort : u.escort = t.escort) : s.Reports u := by
  obtain ⟨⟨events, hpower⟩, hesc, hpersist, hup⟩ := h
  simp only [State.powerView, Prod.mk.injEq] at hview
  obtain ⟨hp, hq, hu⟩ := hview
  exact ⟨⟨events, hp.trans hpower⟩, hescort.trans hesc, hq.trans hpersist, hu.trans hup⟩

theorem State.pwrRaise_reports (s : State) (bits : Nat) : s.Reports (s.pwrRaise bits) := ⟨⟨_, rfl⟩, rfl, rfl, rfl⟩

theorem State.reportRung_reports (s : State) (rung : Nat) (set : Bool) : s.Reports (s.reportRung rung set) := by
  refine State.reports_of_views (s.pwrRaise_reports 8) ?_ ?_
  · exact (State.logAdd_powerView ..).trans (State.event_powerView ..)
  · exact (State.logAdd_escort ..).trans (State.event_escort ..)

theorem State.limitsChanged_reports (s : State) (old : Nat) : s.Reports (s.limitsChanged old) := by
  unfold State.limitsChanged
  split_ifs
  · exact ⟨⟨_, rfl⟩, rfl, rfl, rfl⟩
  · exact State.reports_of_views (s.pwrRaise_reports _) (State.event_powerView ..) (State.event_escort ..)

theorem State.Reports.trans {s t u : State} (hst : s.Reports t) (htu : t.Reports u) : s.Reports u := by
  obtain ⟨⟨e, hp⟩, hesc, hpersist, hup⟩ := hst
  obtain ⟨⟨f, hq⟩, hesc', hpersist', hup'⟩ := htu
  exact ⟨⟨f, by rw [hq, hp]⟩, hesc'.trans hesc, hpersist'.trans hpersist, hup'.trans hup⟩

/-- The state as a rung that sets or clears leaves it, before the leaving sequence begins or ends (R384). -/
def State.rungsSet (s : State) (rung : Nat) (set : Bool) (rungs : List Nat) : State :=
  (({ s with power := { s.power with rungs := rungs } } : State).reportRung rung set).limitsChanged s.limitsWord

theorem State.rungsSet_reports (s : State) (rung : Nat) (set : Bool) (rungs : List Nat) :
    State.Reports { s with power := { s.power with rungs := rungs } } (s.rungsSet rung set rungs) :=
  (State.reportRung_reports ..).trans (State.limitsChanged_reports ..)

theorem State.setRung_of_no_hold (s : State) {rung : Nat} (hrung : rung ≠ 2 ∧ rung ≠ 4) :
    s.setRung rung = s.rungsSet rung true (s.power.rungs ++ [rung]) := by
  unfold State.setRung
  extract_lets old ringed reported
  exact if_neg (by simp [hrung])

theorem State.setRung_of_hold (s : State) {rung : Nat} (hrung : rung = 2 ∨ rung = 4) (hrails : s.power.railsOn = true)
    (hleaving : s.power.leaving = none) (hjob : s.escort.job = none) :
    s.setRung rung = (s.rungsSet rung true (s.power.rungs ++ [rung])).startLeaving false none := by
  have hreports := s.rungsSet_reports rung true (s.power.rungs ++ [rung])
  unfold State.setRung
  extract_lets old _ ringed reported
  have heq : s.rungsSet rung true (s.power.rungs ++ [rung]) = reported := rfl
  rw [heq] at hreports ⊢
  clear_value reported
  obtain ⟨⟨events, hpower⟩, hescort, -, -⟩ := hreports
  have hleaving' : reported.power.leaving = none := by rw [hpower]; exact hleaving
  have hrails' : reported.power.railsOn = true := by rw [hpower]; exact hrails
  have hjob' : reported.escort.job = none := by rw [hescort]; exact hjob
  rw [if_pos (by simp [hrung, hleaving', hrails']), hjob']

theorem State.clearRung_of_no_hold (s : State) {rung : Nat} (hrung : rung ≠ 2 ∧ rung ≠ 4) :
    s.clearRung rung = s.rungsSet rung false (s.power.rungs.filter fun r => r ≠ rung) := by
  unfold State.clearRung
  simp only [hrung, decide_false, Bool.or_self, Bool.false_and, Bool.false_eq_true, if_false]
  split <;> rfl

/-! ## The effective limits (R378) -/

theorem foldl_min_le (l : List Nat) (top : Nat) : l.foldl min top ≤ top ∧ ∀ x ∈ l, l.foldl min top ≤ x := by
  induction l generalizing top with
  | nil => simp
  | cons y l ih =>
    obtain ⟨htop, hmem⟩ := ih (min top y)
    refine ⟨htop.trans (min_le_left _ _), fun x hx => ?_⟩
    rcases List.mem_cons.mp hx with rfl | hx
    · exact htop.trans (min_le_right _ _)
    · exact hmem x hx

theorem leastSet_le_top (l : List Nat) (top : Nat) : leastSet l top ≤ top := (foldl_min_le _ _).1

theorem leastSet_le_of_mem {l : List Nat} {top x : Nat} (hx : x ∈ l) (h0 : x ≠ 0) : leastSet l top ≤ x :=
  (foldl_min_le _ _).2 x (List.mem_filter.mpr ⟨hx, by simpa using h0⟩)

theorem State.effectiveCap_le_of_rung {s : State} (h : 1 ∈ s.power.rungs) : s.effectiveCap ≤ 2400 :=
  leastSet_le_of_mem (by simp [h]) (by decide)

theorem State.effectiveCap_least (s : State) :
    s.effectiveCap ≤ 3200 ∧ (s.power.hostCap ≠ 0 → s.effectiveCap ≤ s.power.hostCap) ∧
    (s.power.rackCap ≠ 0 → s.effectiveCap ≤ s.power.rackCap) ∧ (1 ∈ s.power.rungs → s.effectiveCap ≤ 2400) ∧
    ∀ r, s.power.slot = some r → r.2.2.1 ≠ 0 → s.effectiveCap ≤ r.2.2.1 :=
  ⟨leastSet_le_top _ _, leastSet_le_of_mem (by simp), leastSet_le_of_mem (by simp), State.effectiveCap_le_of_rung,
    fun r hr => leastSet_le_of_mem (by simp [hr])⟩

/-! ## The commands and events of the power section -/

/-- A command that is not copied to the partner starts with the host link alone changed. -/
theorem State.started_inside {op : Nat} (hop : copiedOpcode op = false) (s : State) (h : Hdr) :
    (s.started op h).inside = s.inside := by
  unfold State.started
  rw [hop, if_neg (by decide)]
  rfl

/-- SET_POWER_LIMITS once started, by what its fields are and whether a limit changes (R378, R392). -/
theorem setPowerLimitsRun_spec (cap up down : Nat) (c : CmdRef) (b : State) :
    let ok := (cap = 0 ∨ 1000 ≤ cap ∧ cap ≤ 3200) ∧ (up = 0 ∨ 1 ≤ up ∧ up ≤ 1000) ∧ (down = 0 ∨ 1 ≤ down ∧ down ≤ 1000)
    let t : State := { b with power := { b.power with hostCap := cap, hostUp := up, hostDown := down } }
    (ok → t.limitsWord = b.limitsWord → setPowerLimitsRun cap up down c b =
      (t.event 0 0x0906 0 t.limitsWord).reply c Status.done t.limitsWord 0) ∧
    (ok → t.limitsWord ≠ b.limitsWord → setPowerLimitsRun cap up down c b =
      ((t.pwrRaise 0x40).event 0 0x0906 0 t.limitsWord).reply c Status.done t.limitsWord 0) ∧
    (¬ ok → setPowerLimitsRun cap up down c b = b.reply c Status.badParam 0 0) := by
  intro ok t
  have hok : ((cap = 0 || within cap 1000 3200) && (up = 0 || within up 1 1000) &&
      (down = 0 || within down 1 1000)) = true ↔ ok := by
    simp [ok, within, and_assoc]
  have hword : ∀ bits, ((t.pwrRaise bits).event 0 0x0906 0 t.limitsWord).limitsWord = t.limitsWord := fun bits =>
    (congrArg State.limitsWord (State.event_inside (t.pwrRaise bits) 0 0x0906 0 t.limitsWord) :)
  have hword' : (t.event 0 0x0906 0 t.limitsWord).limitsWord = t.limitsWord :=
    (congrArg State.limitsWord (t.event_inside 0 0x0906 0 t.limitsWord) :)
  unfold setPowerLimitsRun
  refine ⟨fun h hsame => ?_, fun h hdiff => ?_, fun h => ?_⟩
  · rw [if_neg (by rw [hok.mpr h]; decide)]
    dsimp only
    rw [if_pos hsame, hword']
  · rw [if_neg (by rw [hok.mpr h]; decide)]
    dsimp only
    rw [if_neg hdiff, State.limitsChanged, if_neg hdiff, hword]
  · rw [if_pos (by rw [Bool.not_eq_true', ← Bool.not_eq_true]; exact mt hok.mp h)]

/-- A PLDM effecter sets the rack's limit of its number, and no other (R387). -/
theorem exec_pldmEffecterSet {k v : Nat} {s : State} {p : Power}
    (hexec : exec (.pldmEffecterSet k v) s =
      .next ((({ s with power := p } : State).limitsChanged s.limitsWord).emit (.pldm true))) :
    ∃ t, exec (.pldmEffecterSet k v) s = .next t ∧
      (t.power.rackCap, t.power.rackUp, t.power.rackDown, t.mls) = (p.rackCap, p.rackUp, p.rackDown, s.mls) := by
  refine ⟨_, hexec, ?_⟩
  have hchanged : (({ s with power := p } : State).limitsChanged s.limitsWord).mls = s.mls := by
    unfold State.limitsChanged
    split_ifs
    · rfl
    · exact (State.mls_of_inside (State.event_inside ..)).trans rfl
  obtain ⟨⟨events, hpower⟩, -⟩ := ({ s with power := p } : State).limitsChanged_reports s.limitsWord
  show (_, _, _, State.mls (State.limitsChanged _ _)) = _
  rw [hchanged]
  show (Power.rackCap (State.power (State.limitsChanged _ _)), Power.rackUp (State.power (State.limitsChanged _ _)),
    Power.rackDown (State.power (State.limitsChanged _ _)), _) = _
  rw [hpower]

theorem newBits_one (old : Nat) : newBits 7 old 1 = if bitOf old 0 then 0 else 1 := by
  have hrange : List.range 7 = [0, 1, 2, 3, 4, 5, 6] := by decide
  have hbits : ∀ i ∈ [1, 2, 3, 4, 5, 6], bitOf 1 i = false := by decide
  have hone : bitOf 1 0 = true ∧ setBit 0 0 = 1 := by decide
  cases h : bitOf old 0 <;> simp [newBits, hrange, hbits, hone, h]

/-- Bit 0 of the event bits once it has been raised. -/
theorem bitOf_pwrRaise_one (s : State) : bitOf (s.pwrRaise 1).power.events 0 = true := by
  show bitOf (s.power.events + newBits 7 s.power.events 1) 0 = true
  rw [newBits_one]
  split_ifs with h
  · exact h
  · simp only [bitOf, Nat.shiftRight_zero, decide_eq_true_eq] at h ⊢
    omega

theorem exec_removalReady {s : State} {l : Leaving} (hleaving : s.power.leaving = some l) (hremoval : l.removal = true)
    (hfenced : l.fenced = true) (hready : l.ready = false) (hwatts : s.power.watts ≤ 50) :
    ∃ t, exec .removalReady s = .next t ∧ t.power.railsOn = false ∧
      t.power.leaving = some { l with ready := true, ref := none } ∧
      t.persist = s.persist ∧ t.mls.uptime = s.mls.uptime ∧ bitOf t.power.events 0 = true := by
  obtain ⟨u, hu, hexec⟩ : ∃ u : State, u.powerView = (s.pwrRaise 1).powerView ∧ exec .removalReady s =
      .next { u.railsOff with power := { u.railsOff.power with
        leaving := some { l with ready := true, ref := none } } } := by
    cases href : l.ref with
    | none =>
      refine ⟨(s.pwrRaise 1).event 0 0x0904 0 ((s.up - l.started) / 1000 % 2 ^ 32), State.event_powerView .., ?_⟩
      simp [exec, execRemovalReady, hleaving, hremoval, hfenced, hready, hwatts, href]
    | some c =>
      refine ⟨((s.reply c Status.done ((s.up - l.started) / 1000) 0).pwrRaise 1).event 0 0x0904 0
        ((s.up - l.started) / 1000 % 2 ^ 32), ?_, ?_⟩
      · have hreply := (congrArg (fun v : State => (v.pwrRaise 1).powerView)
          (s.reply_inside c Status.done ((s.up - l.started) / 1000) 0) :)
        exact (State.event_powerView ..).trans hreply
      · simp [exec, execRemovalReady, hleaving, hremoval, hfenced, hready, hwatts, href]
  refine ⟨_, hexec, ?_⟩
  have hoff := u.railsOff_powerView
  generalize u.railsOff = r at hoff ⊢
  simp only [State.powerView, Prod.mk.injEq] at hoff hu
  obtain ⟨hp, hq, ht⟩ := hoff
  obtain ⟨hpu, hqu, htu⟩ := hu
  refine ⟨by rw [hp], rfl, hq.trans hqu, ht.trans htu, ?_⟩
  rw [hp, hpu]
  exact bitOf_pwrRaise_one s

/-- A junction above 120 °C on a module that runs: the rails go off until the next power-on reset, and standby NOR keeps
the entry (R384). -/
theorem State.trip_spec {s : State} (htripped : s.power.tripped = false) (hrails : s.power.railsOn = true) :
    s.trip.power.railsOn = false ∧ s.trip.power.tripped = true ∧ s.trip.power.junction = s.power.junction ∧
    s.trip.persist.standbyNor = s.persist.standbyNor ++ [(0x21, s.power.thermalDetail 5 true)] := by
  obtain ⟨⟨events, hpower⟩, -, hpersist, -⟩ := s.reportRung_reports 5 true
  unfold State.trip
  rw [if_neg (by simp [htripped, hrails])]
  generalize s.reportRung 5 true = u at hpower hpersist ⊢
  extract_lets _ reported kept off
  have hoff := kept.railsOff_powerView
  change off.powerView = _ at hoff
  have hkept : kept.persist.standbyNor = s.persist.standbyNor ++ [(0x21, s.power.thermalDetail 5 true)] := by
    show u.persist.standbyNor ++ [(0x21, u.power.thermalDetail 5 true)] = _
    rw [hpersist, hpower]
    rfl
  have hjunction : kept.power.junction = s.power.junction := by
    show u.power.junction = _
    rw [hpower]
  clear_value off kept
  simp only [State.powerView, Prod.mk.injEq] at hoff
  obtain ⟨hp, hq, -⟩ := hoff
  refine ⟨?_, rfl, ?_, ?_⟩
  · show off.power.railsOn = _
    rw [hp]
  · show off.power.junction = _
    rw [hp, ← hjunction]
  · show off.persist.standbyNor = _
    rw [hq, hkept]

/-- The state after a thermal sample, before the trip is judged (R384). -/
def State.sampled (s : State) (inlet outlet junction : Int) (flow : Nat) : State :=
  let p := { s.power with
    inlet := inlet, outlet := outlet, junction := junction, flow := flow,
    flowSince := if flow ≥ 400 then some (s.power.flowSince.getD s.up) else none }
  { s with power := { p with
      trigger := timers p.trigger s.up p.triggered, clearing := timers p.clearing s.up p.clears } }

theorem exec_thermalSample (inlet outlet junction : Int) (flow : Nat) (s : State) :
    exec (.thermalSample inlet outlet junction flow) s = .next
      (if junction > 1200 then (s.sampled inlet outlet junction flow).trip else s.sampled inlet outlet junction flow) := by
  simp [exec, execThermalSample, State.sampled, Power.triggered]

theorem exec_ladder {rung : Nat} (hrung : rung ≠ 5) (s : State) :
    exec (.ladder rung) s = .next (
      if s.power.rungs.contains rung then
        if (s.power.clearing.any fun t => t.1 = rung && s.elapsed t.2 (clearTime rung)) &&
          (rung ≠ 2 || s.power.junction ≤ 850) then s.clearRung rung else s
      else if (s.power.trigger.any fun t => t.1 = rung && s.elapsed t.2 (triggerTime rung)) && s.power.railsOn then
        s.setRung rung
      else s) := by
  simp only [exec, execLadder, if_neg hrung]
  split_ifs <;> rfl

theorem State.discardLedger_powerView (s : State) : s.discardLedger.powerView = s.powerView :=
  foldl_keeps State.powerView _ _ _ fun _ _ => State.endEntry_powerView ..

/-- The leaving sequence ends with the rungs in force as they were. -/
theorem State.endLeaving_rungs (s : State) (l : Leaving) : (s.endLeaving l).power.rungs = s.power.rungs := by
  have hrungs : ∀ {t u : State}, t.powerView = u.powerView → t.power.rungs = u.power.rungs := fun h =>
    (congrArg (fun v : Power × Persist × Nat => v.1.rungs) h :)
  have hrole : ∀ v : State, (if v.escort.role = 1 then v.pairAlone else v).power.rungs = v.power.rungs := fun v => by
    split_ifs
    · exact hrungs (State.powerView_of_trunk v.pairAlone_trunk)
    · rfl
  unfold State.endLeaving
  extract_lets _ _ ended fenced _ closed alone
  have hended : ended.power.rungs = s.power.rungs := rfl
  rw [← hended]
  clear_value ended
  split
  · have halone : alone.power.rungs = closed.power.rungs := hrole closed
    exact (hrungs (State.powerView_of_trunk (State.setPair_trunk ..))).trans
      ((hrungs (State.discardLedger_powerView _)).trans (halone.trans (hrungs (State.setFences_powerView ..))))
  · split
    · exact (hrungs (State.setFences_powerView ..)).trans (hrungs (State.discardLedger_powerView _))
    · rfl

/-- Settles O58, clause by clause. -/
theorem powerCommands : Obligations.PowerCommands := by
  refine ⟨?limits, ?effecters, State.effectiveCap_least, ?prepare, ?abort, ?pull, ?latch, ?leaving, ?sets, ?clears,
    ?sample⟩
  case limits =>
    intro h cap up down s hstart b c ok t
    have hcmd : exec (.setPowerLimits h cap up down) s = .next (setPowerLimitsRun cap up down c b) :=
      congrArg Host.Outcome.next (State.cmd_started s 0x0901 h _ hstart)
    rw [hcmd]
    obtain ⟨hsame, hdiff, hbad⟩ := setPowerLimitsRun_spec cap up down c b
    exact ⟨fun hk hw => congrArg _ (hsame hk hw), fun hk hw => congrArg _ (hdiff hk hw), fun hk => congrArg _ (hbad hk)⟩
  case effecters =>
    intro v s
    refine ⟨fun hv => ?_, fun hv => ?_, fun hv => ?_, fun hv k => ?_⟩
    · exact exec_pldmEffecterSet (p := { s.power with rackCap := v }) (by
        simp [exec, execPldmEffecterSet, within]
        omega)
    · exact exec_pldmEffecterSet (p := { s.power with rackUp := v }) (by
        have hv' : v = 0 ∨ 1 ≤ v ∧ v ≤ 1000 := by omega
        simp [exec, execPldmEffecterSet, within]
        omega)
    · exact exec_pldmEffecterSet (p := { s.power with rackDown := v }) (by
        have hv' : v = 0 ∨ 1 ≤ v ∧ v ≤ 1000 := by omega
        simp [exec, execPldmEffecterSet, within]
        omega)
    · have hv' : ¬ (v = 0) ∧ ¬ v ≤ 3200 ∧ ¬ v ≤ 1000 := by omega
      simp [exec, execPldmEffecterSet, within, hv']
  case prepare =>
    intro h force s hstart hleaving b c
    have hcmd : exec (.prepareRemoval h force) s = .next (prepareRemovalRun force c b) :=
      congrArg Host.Outcome.next (State.cmd_started s 0x0902 h _ hstart)
    have hinside : b.inside = s.inside := s.started_inside (by decide) h
    have hescort : b.escort = s.escort := State.escort_of_inside hinside
    have hpower : b.power.leaving = none := (congrArg (fun u : State => u.power.leaving) hinside :).trans hleaving
    clear_value b
    rw [← hescort, hcmd]
    refine ⟨fun hrole hhealth hjob hepoch => ?_, fun hrole hhealth hforce => ?_, fun hhealth hforce => ?_⟩
    · intro t
      simp only [prepareRemovalRun, hpower]
      rw [if_pos (by simp [hrole, hhealth]), if_neg (by simp [hjob, hepoch])]
    · have hbad : (decide (b.escort.role ≤ 1) && !force) = true := by simp [hrole, hforce]
      simp only [prepareRemovalRun, hpower]
      rw [if_neg (by simpa using hhealth), if_pos hbad]
    · simp only [prepareRemovalRun, hpower]
      rw [if_neg (by simpa using hhealth), if_neg (by simp [hforce])]
  case abort =>
    intro h l s hstart hleaving b c
    have hcmd : exec (.prepareRemovalAbort h) s = .next (prepareRemovalAbortRun c b) :=
      congrArg Host.Outcome.next (State.cmd_started s 0x0902 h _ hstart)
    have hinside : b.inside = s.inside := s.started_inside (by decide) h
    have hpower : b.power = s.power := (congrArg State.power hinside :)
    clear_value b
    rw [hcmd, ← hpower]
    rw [← hpower] at hleaving
    refine ⟨fun hremoval hready w href hrungs => ?_, fun hready => ?_⟩
    · have hhold : (b.endLeaving l).holdRung = false := by
        simp [State.holdRung, b.endLeaving_rungs l, hrungs]
      have habort : b.abortLeaving l = (b.endLeaving l).reply w Status.cancelled 0 0 := by
        have hkept : ((b.endLeaving l).reply w Status.cancelled 0 0).holdRung = false :=
          (congrArg State.holdRung ((b.endLeaving l).reply_inside w Status.cancelled 0 0) :).trans hhold
        simp only [State.abortLeaving, href]
        exact if_neg (by rw [hkept]; decide)
      simp only [prepareRemovalAbortRun, hleaving]
      rw [if_neg (by simp [hready, hremoval]), habort]
    · simp [prepareRemovalAbortRun, hleaving, hready]
  case pull =>
    intro s hlatch hrails hleaving hjob
    have hinside : s.latchOpened.inside =
        (({ s with power := { s.power with latchOpen := true } } : State).pwrRaise 16).inside := State.event_inside ..
    have hopened : s.latchOpened.power.leaving = none :=
      (congrArg (fun u : State => u.power.leaving) hinside :).trans hleaving
    have hon : s.latchOpened.power.railsOn = true :=
      (congrArg (fun u : State => u.power.railsOn) hinside :).trans hrails
    have hidle : s.latchOpened.escort.job = none := (congrArg (fun u : State => u.escort.job) hinside :).trans hjob
    simp [exec, execPullNotice, hlatch, hopened, hon, hidle]
  case latch =>
    intro s l hlatch hmated hleaving t
    refine ⟨fun hready => ?_, fun hready hremoval => ?_⟩
    · simp [exec, execLatchClose, hlatch, hmated, hleaving, hready, t]
    · simp [exec, execLatchClose, hlatch, hmated, hleaving, hready, hremoval, t]
  case leaving =>
    intro s l hleaving
    refine ⟨fun hfenced hcov => ?_, fun hfenced hcov => ?_, exec_removalReady hleaving⟩
    · simp [exec, execLeavingCopyCovered, hleaving, hfenced, hcov]
    · simp [exec, execLeavingCopyCovered, hleaving, hfenced, hcov]
  case sets =>
    intro s since hrails hrungs
    refine ⟨fun htrigger hlast => ?_, fun htrigger hlast hleaving hjob => ?_, fun htrigger hearly => ?_⟩
    · have hexec : exec (.ladder 1) s = .next (s.setRung 1) := by
        rw [exec_ladder (by decide)]
        simp [hrungs, htrigger, hrails, State.elapsed, triggerTime, State.up, giga] at hlast ⊢
        omega
      refine ⟨_, hexec, ?_⟩
      rw [s.setRung_of_no_hold (by decide), hrungs]
      obtain ⟨⟨events, hpower⟩, -⟩ := s.rungsSet_reports 1 true [1]
      simp only [List.nil_append]
      generalize s.rungsSet 1 true [1] = u at hpower ⊢
      exact ⟨by rw [hpower], State.effectiveCap_le_of_rung (by simp [hpower]), by rw [hpower], by rw [hpower]⟩
    · have hexec : exec (.ladder 2) s = .next (s.setRung 2) := by
        rw [exec_ladder (by decide)]
        simp [hrungs, htrigger, hrails, State.elapsed, triggerTime, State.up] at hlast ⊢
        omega
      refine ⟨_, hexec, ?_⟩
      rw [s.setRung_of_hold (.inl rfl) hrails hleaving hjob, hrungs]
      obtain ⟨⟨events, hpower⟩, -⟩ := s.rungsSet_reports 2 true [2]
      simp only [List.nil_append]
      generalize s.rungsSet 2 true [2] = u at hpower ⊢
      exact ⟨(congrArg Power.rungs hpower :), rfl, rfl, rfl⟩
    · rw [exec_ladder (by decide)]
      simp [hrungs, htrigger, State.elapsed, triggerTime, State.up, hearly]
  case clears =>
    intro s since hrungs hclearing
    refine ⟨fun hlast => ?_, fun hearly => ?_⟩
    · have hexec : exec (.ladder 1) s = .next (s.clearRung 1) := by
        rw [exec_ladder (by decide)]
        simp [hrungs, hclearing, State.elapsed, clearTime, State.up, giga] at hlast ⊢
        omega
      refine ⟨_, hexec, ?_⟩
      obtain ⟨⟨events, hpower⟩, -⟩ := s.rungsSet_reports 1 false (s.power.rungs.filter fun r => r ≠ 1)
      rw [s.clearRung_of_no_hold (by decide), hpower, hrungs]
      rfl
    · rw [exec_ladder (by decide)]
      simp [hrungs, hclearing, State.elapsed, clearTime, State.up, giga] at hearly ⊢
      omega
  case sample =>
    intro inlet outlet junction flow s
    refine ⟨fun hhot htripped hrails => ?_, fun hcool => ?_⟩
    · refine ⟨_, (exec_thermalSample ..).trans (by rw [if_pos hhot]), ?_⟩
      exact State.trip_spec (s := s.sampled inlet outlet junction flow) htripped hrails
    · refine ⟨_, (exec_thermalSample ..).trans (by rw [if_neg (by omega)]), ?_⟩
      exact ⟨rfl, rfl, rfl, rfl, rfl, rfl, rfl⟩

end Sys2Proof.Machine
end

section
/-! PROOF. What planning, scrubbing and reporting leave of the firmware and the power state. -/

namespace Sys2Proof.Machine

/-- The firmware, NOR's version and the power state. -/
def State.firmware (s : State) : Firmware × Nat × Power := (s.fw, s.persist.norVersion, s.power)

theorem State.firmware_of_trunk {s t : State} (h : t.trunk = s.trunk) : t.firmware = s.firmware :=
  (congrArg State.firmware h :)

theorem State.firmware_of_offPool {s t : State} (h : t.offPool = s.offPool) : t.firmware = s.firmware :=
  (congrArg State.firmware h :)

theorem State.firmware_of_offTables {s t : State} (h : t.offTables = s.offTables) : t.firmware = s.firmware :=
  (congrArg State.firmware h :)

theorem State.firmware_of_offReports {s t : State} (h : t.offReports = s.offReports) : t.firmware = s.firmware :=
  (congrArg State.firmware h :)

theorem State.firmware_of_besideMemory {s t : State} (h : t.besideMemory = s.besideMemory) :
    t.firmware = s.firmware := (congrArg State.firmware h :)

@[simp] theorem State.count_firmware (s : State) (sel a b c d off n : Nat) :
    (s.count sel a b c d off n).firmware = s.firmware := State.firmware_of_trunk (s.count_trunk ..)

@[simp] theorem State.event_firmware (s : State) (fn code object detail : Nat) :
    (s.event fn code object detail).firmware = s.firmware := State.firmware_of_trunk (s.event_trunk ..)

@[simp] theorem State.reply_firmware (s : State) (c : CmdRef) (status r0 r1 : Nat) :
    (s.reply c status r0 r1).firmware = s.firmware := State.firmware_of_trunk (s.reply_trunk ..)

@[simp] theorem State.accept_firmware (s : State) (c : CmdRef) (r0 r1 : Nat) :
    (s.accept c r0 r1).firmware = s.firmware := State.firmware_of_trunk (s.accept_trunk ..)

@[simp] theorem State.logAdd_firmware (s : State) (kind cls unit tenant : Nat) (raised : Bool) (detail : List Byte) :
    (s.logAdd kind cls unit tenant raised detail).firmware = s.firmware :=
  State.firmware_of_besideMemory (s.logAdd_besideMemory ..)

@[simp] theorem State.setMemory_firmware (s : State) (cls unit : Nat) (m : Memory) :
    (s.setMemory cls unit m).firmware = s.firmware := rfl

@[simp] theorem State.readRange_firmware (s : State) (cls unit addr len : Nat) (scrub : Bool) :
    (s.readRange cls unit addr len scrub).firmware = s.firmware :=
  State.firmware_of_besideMemory (s.readRange_besideMemory ..)

@[simp] theorem State.memWrite_firmware (s : State) (cls unit addr : Nat) (bytes : List Byte) (tenant : Nat) :
    (s.memWrite cls unit addr bytes tenant).firmware = s.firmware :=
  State.firmware_of_besideMemory (s.memWrite_besideMemory ..)

@[simp] theorem State.freeFrames_firmware (s : State) (pages : List Nat) :
    (s.freeFrames pages).firmware = s.firmware := State.firmware_of_offPool (s.freeFrames_offPool pages)

@[simp] theorem State.dropRefs_firmware (s : State) (pages : List Nat) :
    (s.dropRefs pages).firmware = s.firmware := State.firmware_of_offPool (s.dropRefs_offPool pages)

@[simp] theorem State.leaveFamily_firmware (s : State) (root : Nat) :
    (s.leaveFamily root).firmware = s.firmware := State.firmware_of_offPool (s.leaveFamily_offPool root)

@[simp] theorem State.modBay_firmware (s : State) (n : Nat) (f : Bay → Bay) :
    (s.modBay n f).firmware = s.firmware := rfl

@[simp] theorem State.setBay_firmware (s : State) (n : Nat) (b : Bay) : (s.setBay n b).firmware = s.firmware := rfl

@[simp] theorem State.setReq_firmware (s : State) (r : Req) : (s.setReq r).firmware = s.firmware := rfl

@[simp] theorem State.setCore_firmware (s : State) (n : Nat) (c : Core) : (s.setCore n c).firmware = s.firmware := rfl

theorem State.allocFrames_firmware {s t : State} {tenant tier st family n : Nat} {pages : List Nat}
    (h : s.allocFrames tenant tier st family n = some (pages, t)) : t.firmware = s.firmware := by
  induction n generalizing s pages with
  | zero =>
    cases h
    rfl
  | succ k ih =>
    unfold State.allocFrames at h
    split at h
    · cases h
    · next p u hu =>
      obtain ⟨r, hr, hrt⟩ := Option.map_eq_some_iff.mp h
      cases hrt
      exact (ih hr).trans (State.firmware_of_offTables (State.allocFrame_offTables hu))

/-! ## Scatters -/

@[simp] theorem State.copyFrame_firmware (s : State) (src dst : Nat) :
    (s.copyFrame src dst).firmware = s.firmware := by
  unfold State.copyFrame
  extract_lets sc dc sa da read cells clear m here bad moved written _ held met
  have hmet : met.firmware = read.firmware :=
    (State.firmware_of_besideMemory (held.flipMeets_besideMemory ..)).trans rfl
  exact Eq.trans (show _ = met.firmware from rfl) (hmet.trans (State.readRange_firmware ..))

theorem State.takeFrame_firmware {s : State} {tenant family : Nat} {reserved : List Nat} {z : Nat × List Nat × State}
    (h : s.takeFrame tenant family reserved = some z) : z.2.2.firmware = s.firmware := by
  unfold State.takeFrame at h
  split at h
  · cases h
    rfl
  · obtain ⟨x, hx, rfl⟩ := Option.map_eq_some_iff.mp h
    exact State.firmware_of_offTables (State.allocFrame_offTables hx)

theorem State.readyFrame_firmware {s : State} {tenant family ctx i : Nat} {reserved pages : List Nat}
    {z : List Nat × List Nat × State} (h : s.readyFrame tenant family ctx reserved pages i = some z) :
    z.2.2.firmware = s.firmware := by
  unfold State.readyFrame at h
  dsimp only at h
  split_ifs at h
  · obtain ⟨x, hx, rfl⟩ := Option.map_eq_some_iff.mp h
    have hdrop : ∀ (u : State) (page : Nat), (u.dropRef page).firmware = u.firmware := fun u page =>
      u.dropRefs_firmware [page]
    rw [State.count_firmware, hdrop, State.copyFrame_firmware]
    exact State.takeFrame_firmware hx
  · cases h
    rfl
  · obtain ⟨x, hx, rfl⟩ := Option.map_eq_some_iff.mp h
    exact State.takeFrame_firmware hx

theorem State.readyFrames_firmware {s : State} {tenant family ctx i n : Nat} {reserved pages : List Nat}
    {z : List Nat × List Nat × State} (h : s.readyFrames tenant family ctx reserved pages i n = some z) :
    z.2.2.firmware = s.firmware := by
  induction n generalizing s reserved pages i with
  | zero =>
    cases h
    rfl
  | succ k ih =>
    unfold State.readyFrames at h
    split at h
    · cases h
    · next hready => exact (ih h).trans (State.readyFrame_firmware hready)

@[simp] theorem State.readKv_firmware (s : State) (r : KvReader) (page off n : Nat) :
    (s.readKv r page off n).1.firmware = s.firmware := by
  unfold State.readKv
  dsimp only
  split
  · show State.firmware (State.poisonConsumed ..) = _
    simp [State.poisonConsumed]
  · simp

@[simp] theorem State.readTail_firmware (s : State) (r : KvReader) (g : Nat × Nat × Nat × Nat) (tails : List Nat)
    (layer j : Nat) : (s.readTail r g tails layer j).1.firmware = s.firmware := by
  unfold State.readTail
  dsimp only
  split <;> simp

@[simp] theorem State.readTails_firmware (s : State) (r : KvReader) (g : Nat × Nat × Nat × Nat) (tails : List Nat)
    (layer n : Nat) : (s.readTails r g tails layer n).1.firmware = s.firmware :=
  foldl_keeps (fun a : State × Bool => a.1.firmware) _ _ _ fun a j => a.1.readTail_firmware r g tails layer j

@[simp] theorem State.scatterOne_firmware (s : State) (g : Nat × Nat × Nat × Nat) (tails pages : List Nat)
    (length layer j : Nat) : (s.scatterOne g tails pages length layer j).firmware = s.firmware := by
  simp [State.scatterOne, State.pageWrite]

theorem State.scatterAt_firmware {s : State} {g : Nat × Nat × Nat × Nat} {tenant family ctx length n layer : Nat}
    {tails reserved mine : List Nat} {z : List Nat × List Nat × State}
    (h : s.scatterAt g tenant family ctx tails reserved mine length n layer = some z) :
    z.2.2.firmware = s.firmware := by
  obtain ⟨x, hx, rfl⟩ := Option.map_eq_some_iff.mp h
  exact (foldl_keeps State.firmware _ _ _ fun u j => u.scatterOne_firmware ..).trans (State.readyFrames_firmware hx)

@[simp] theorem State.setHistory_firmware (s : State) (r : Req) (g : Nat × Nat × Nat × Nat) (length : Nat)
    (pages : List (List Nat)) (kinds : List Nat) : (s.setHistory r g length pages kinds).1.firmware = s.firmware := by
  unfold State.setHistory
  dsimp only
  split
  · rfl
  · split <;> rfl

theorem State.growTables_firmware {s t : State} {tenant fuel : Nat} (h : s.growTables tenant fuel = some t) :
    t.firmware = s.firmware := by
  induction fuel generalizing s with
  | zero =>
    unfold State.growTables at h
    split at h
    · cases h
      rfl
    · cases h
  | succ k ih =>
    unfold State.growTables at h
    split at h
    · cases h
      rfl
    · dsimp only at h
      split at h
      · cases h
      · next hframe =>
        have hkept := State.firmware_of_offTables (State.allocFrame_offTables hframe)
        exact (ih h).trans hkept

@[simp] theorem State.scatterEnds_firmware (s : State) (r : Req) : (s.scatterEnds r).1.firmware = s.firmware := by
  simp [State.scatterEnds]

theorem State.scatterLayer_firmware {s : State} {r : Req} {layer : Nat} {z : State × Req}
    (h : s.scatterLayer r layer = some z) : z.1.firmware = s.firmware := by
  unfold State.scatterLayer at h
  split at h
  · cases h
    rfl
  · dsimp only at h
    split at h
    · cases h
    · next hat =>
      obtain ⟨t, ht, rfl⟩ := Option.map_eq_some_iff.mp h
      have hgrown : t.firmware = s.firmware := (State.growTables_firmware ht).trans
        ((State.setHistory_firmware ..).trans ((State.scatterAt_firmware hat).trans (State.readTails_firmware ..)))
      split_ifs
      · exact (State.scatterEnds_firmware ..).trans hgrown
      · exact hgrown

theorem State.scatterFrom_firmware {s : State} {r : Req} {layer fuel : Nat} {z : State × Req}
    (h : s.scatterFrom r layer fuel = some z) : z.1.firmware = s.firmware := by
  induction fuel generalizing s r layer with
  | zero =>
    cases h
    rfl
  | succ k ih =>
    unfold State.scatterFrom at h
    split at h
    · cases h
    · next hlayer => exact (ih h).trans (State.scatterLayer_firmware hlayer)

theorem State.finishScatter_firmware {s : State} {r : Req} {z : State × Req} (h : s.finishScatter r = some z) :
    z.1.firmware = s.firmware := by
  unfold State.finishScatter at h
  dsimp only at h
  split_ifs at h
  · cases h
    rfl
  · cases h
    exact State.scatterEnds_firmware ..
  · exact State.scatterFrom_firmware h

theorem State.beginScatter_firmware {s : State} {r : Req} {z : State × Req} (h : s.beginScatter r = some z) :
    z.1.firmware = s.firmware := by
  unfold State.beginScatter at h
  split at h
  · cases h
    exact State.freeFrames_firmware ..
  · obtain ⟨x, hx, rfl⟩ := Option.map_eq_some_iff.mp h
    exact State.allocFrames_firmware hx

theorem State.reserveStep_firmware {s : State} {tenant family len q : Nat} {g : Nat × Nat × Nat × Nat}
    {pages : List (List Nat)} {unshared : Bool} {z : List Nat × List Nat × State}
    (h : s.reserveStep tenant family g len pages unshared q = some z) : z.2.2.firmware = s.firmware := by
  unfold State.reserveStep at h
  dsimp only at h
  split at h
  · cases h
  · next htails =>
    obtain ⟨x, hx, rfl⟩ := Option.map_eq_some_iff.mp h
    exact (State.allocFrames_firmware hx).trans (State.allocFrames_firmware htails)

/-! ## The end of a request and the planning of a convoy -/

@[simp] theorem State.releaseReq_firmware (s : State) (r : Req) (status : Nat) :
    (s.releaseReq r status).firmware = s.firmware := by
  unfold State.releaseReq
  extract_lets inFlight rides marked kept
  have hmarked : marked.firmware = s.firmware := by
    simp only [marked]
    split <;> rfl
  clear_value marked kept
  split
  · exact (State.leaveFamily_firmware ..).trans
      ((State.dropRefs_firmware ..).trans ((State.freeFrames_firmware ..).trans hmarked))
  · have hscattered : ((if isCancel status then (marked, r) else (marked.finishScatter r).getD (marked, r) :
        State × Req)).1.firmware = s.firmware := by
      split
      · exact hmarked
      · cases hfinish : marked.finishScatter r with
        | none => exact hmarked
        | some z => exact (State.finishScatter_firmware hfinish).trans hmarked
    generalize (if isCancel status then (marked, r) else (marked.finishScatter r).getD (marked, r) : State × Req) = p
      at hscattered ⊢
    obtain ⟨t, q⟩ := p
    dsimp only at hscattered ⊢
    split
    · exact (State.freeFrames_firmware ..).trans hscattered
    · split
      · exact hscattered
      · exact (State.freeFrames_firmware ..).trans hscattered

@[simp] theorem State.endReq_firmware (s : State) (r : Req) (status tLaunch16 sequence : Nat) (tokens : List Nat) :
    (s.endReq r status tLaunch16 sequence tokens).firmware = s.firmware :=
  (State.firmware_of_offReports (s.endReq_offReports r status tLaunch16 sequence tokens)).trans
    (s.releaseReq_firmware r status)

@[simp] theorem State.deliver_firmware (s : State) (r : Req) (tokens : List Nat) :
    (s.deliver r tokens).1.firmware = s.firmware := by
  unfold State.deliver
  dsimp only
  split_ifs
  · rfl
  · rfl
  · exact (State.firmware_of_trunk (State.trunk_eq_of_inside (State.writePayload_inside ..))).trans
      (State.firmware_of_trunk (State.trunk_eq_of_inside (State.writePayload_inside ..)))

@[simp] theorem State.endFull_firmware (s : State) (r : Req) : (s.endFull r).firmware = s.firmware := by
  unfold State.endFull
  dsimp only
  split <;> simp

theorem State.takeMember_firmware {s t : State} {r : Req} {m : Member} (h : s.takeMember r m = some t) :
    t.firmware = s.firmware := by
  unfold State.takeMember at h
  split at h
  · cases h
  · next hfinish =>
    split at h
    · cases h
    · next hbegin =>
      obtain ⟨x, hx, rfl⟩ := Option.map_eq_some_iff.mp h
      exact (State.reserveStep_firmware hx).trans
        ((State.beginScatter_firmware hbegin).trans (State.finishScatter_firmware hfinish))

@[simp] theorem State.admitAll_firmware (s : State) (n : Nat) (p : PolicyParams) (rs : List Rank) (acc : List Member)
    (room : Nat) : (s.admitAll n p rs acc room).2.firmware = s.firmware := by
  induction rs generalizing s acc room with
  | nil => rfl
  | cons x rest ih =>
    unfold State.admitAll
    split
    · exact (ih ..).trans rfl
    · split
      · exact (ih ..).trans rfl
      · split
        · next htake =>
          refine (ih ..).trans ?_
          split_ifs
          · exact (State.count_firmware ..).trans (State.takeMember_firmware htake)
          · exact State.takeMember_firmware htake
        · exact (ih ..).trans (State.count_firmware ..)

@[simp] theorem State.predict_firmware (s : State) (b : Bay) (bale : Bale) (rs : List Req) :
    (s.predict b bale rs).2.firmware = s.firmware := by
  unfold State.predict
  dsimp only
  split <;> rfl

@[simp] theorem State.planConvoy_firmware (s : State) (n : Nat) : (s.planConvoy n).2.firmware = s.firmware := by
  unfold State.planConvoy
  split
  · rfl
  split
  · rfl
  simp only [State.admitAll_firmware, State.setBay_firmware, State.predict_firmware]
  exact (foldl_keeps State.firmware _ _ _ fun u r => u.endFull_firmware r).trans
    (foldl_keeps State.firmware _ _ _ fun u r => u.endReq_firmware ..)

theorem State.planAhead_firmware (s : State) (n fuel : Nat) : (s.planAhead n fuel).firmware = s.firmware := by
  induction fuel generalizing s with
  | zero => rfl
  | succ k ih =>
    unfold State.planAhead
    split
    · next k' b hk hb =>
      cases hk
      split
      · rfl
      · have hplanned := s.planConvoy_firmware n
        generalize s.planConvoy n = p at hplanned ⊢
        obtain ⟨_ | c, t⟩ := p
        · exact hplanned
        · exact (ih _).trans hplanned
    · rfl

/-- The planning ahead of a Drover that goes out of service leaves the firmware and the power state (R170). -/
@[simp] theorem State.planAll_firmware (s : State) : s.planAll.firmware = s.firmware := by
  unfold State.planAll
  split
  · rfl
  · exact foldl_keeps State.firmware _ _ _ fun u n => u.planAhead_firmware n 32

end Sys2Proof.Machine
end

section
/-! PROOF. Staging, activation, boot and restarts of the firmware parts, and obligation O60. -/

namespace Sys2Proof.Machine

/-! ## Boot -/

/-- The firmware, NOR's version, the power state, and whether the host link has trained. -/
def State.bootView (s : State) : (Firmware × Nat × Power) × Bool := (s.firmware, s.host.linkUp)

theorem State.bootView_of_besideMemory {s t : State} (h : t.besideMemory = s.besideMemory) :
    t.bootView = s.bootView := (congrArg State.bootView h :)

theorem State.writeTile_bootView (s : State) (core string position : Nat) (tile : List W64) (scales : List Byte)
    (mxint8 : Bool) (step tenant : Nat) :
    (s.writeTile core string position tile scales mxint8 step tenant).bootView = s.bootView := by
  unfold State.writeTile State.checkArray
  exact State.bootView_of_besideMemory (t := (s.memWrite 4 core _ _ tenant).readRange 4 core _ 34816 false)
    ((State.readRange_besideMemory ..).trans (s.memWrite_besideMemory 4 core _ _ tenant))

theorem State.writeIndex_bootView (s : State) (core string index position : Nat) :
    (s.writeIndex core string index position).bootView = s.bootView := by
  unfold State.writeIndex
  split
  · exact State.writeTile_bootView ..
  · rfl

theorem State.repairWord_bootView (s : State) (core string position : Nat) :
    (s.repairWord core string position).bootView = s.bootView := by
  unfold State.repairWord
  extract_lets _ suspect
  have hsuspect : suspect.bootView = s.bootView := rfl
  rw [← hsuspect]
  clear_value suspect
  split
  · split
    · rfl
    · exact Eq.trans rfl (State.writeIndex_bootView ..)
  · rfl

theorem State.restScrub_bootView (s : State) (core : Nat) : (s.restScrub core).bootView = s.bootView := by
  have hread : ∀ (u : State) (cls addr len : Nat), (u.readRange cls core addr len true).bootView = u.bootView :=
    fun u cls addr len => State.bootView_of_besideMemory (u.readRange_besideMemory cls core addr len true)
  have hrepair : ∀ (u : State) (addr len : Nat), (u.repairWords core addr len).bootView = u.bootView :=
    fun u addr len => foldl_keeps State.bootView _ _ _ fun v p => v.repairWord_bootView ..
  unfold State.restScrub
  extract_lets repaired read
  have hreadView : read.bootView = s.bootView := by
    simp only [read, repaired, hread, hrepair]
  exact Eq.trans rfl hreadView

/-- The parts that run after a boot, with NOR's version and the host link trained (R409). -/
theorem State.boot_spec (s : State) (m : Manifest) (recovered : Bool) :
    let t := s.boot m recovered
    t.fw.recovered = recovered ∧ t.fw.recovery = 0 ∧ t.power.state = 1 ∧ t.fw.running = m.version ∧
    t.persist.norVersion = m.version ∧ t.host.linkUp = true := by
  unfold State.boot
  extract_lets at_ micro notes _ _ _ _ _ _ booted logged initialised t
  have hlogged : logged.bootView = booted.bootView :=
    foldl_keeps State.bootView _ _ _ fun u e => State.bootView_of_besideMemory (u.logAdd_besideMemory ..)
  have hinit : initialised.bootView = logged.bootView :=
    foldl_keeps State.bootView _ _ _ fun u core => State.bootView_of_besideMemory (u.setMemory_besideMemory ..)
  have ht : t.bootView = booted.bootView := by
    have hscrubbed : t.bootView = initialised.bootView := by
      simp only [t]
      split
      · exact State.restScrub_bootView ..
      · rfl
    exact hscrubbed.trans (hinit.trans hlogged)
  clear_value t
  have hfw : t.fw = booted.fw := (congrArg (fun v : (Firmware × Nat × Power) × Bool => v.1.1) ht :)
  have hnor : t.persist.norVersion = booted.persist.norVersion :=
    (congrArg (fun v : (Firmware × Nat × Power) × Bool => v.1.2.1) ht :)
  have hpower : t.power = booted.power := (congrArg (fun v : (Firmware × Nat × Power) × Bool => v.1.2.2) ht :)
  have hlink : t.host.linkUp = booted.host.linkUp := (congrArg Prod.snd ht :)
  rw [hfw, hnor, hpower, hlink]
  exact ⟨rfl, rfl, rfl, rfl, rfl, rfl⟩

/-- A power-on reset keeps what persists and the fuses (R374, R377). -/
theorem State.powerReset_keeps (s : State) : s.powerReset.persist = s.persist ∧ s.powerReset.fuses = s.fuses := by
  refine ⟨?_, (congrArg Prod.fst s.powerReset_kernel :)⟩
  unfold State.powerReset State.settleBreakout
  exact (congrArg (fun v : Power × Persist × Nat => v.2.1) (State.setFences_powerView ..) :).trans rfl

/-- The boot checks depend on the fuses alone. -/
theorem State.bootCheck_eq_of_fuses {s t : State} (h : t.fuses = s.fuses) (b : BootImages) :
    t.bootCheck b = s.bootCheck b := by
  unfold State.bootCheck
  rw [h]

theorem State.bootCheck_check {s : State} {b : BootImages} {part check : Nat} (h : s.bootCheck b = some (part, check)) :
    1 ≤ check ∧ check ≤ 4 := by
  unfold State.bootCheck at h
  extract_lets m at h
  split_ifs at h
  iterate 3
    · cases h
      decide
  split at h
  · cases h
    decide
  · obtain ⟨e, -, he⟩ := Option.map_eq_some_iff.mp h
    cases he
    decide

/-- A manifest that passes the boot checks is below no anti-rollback count (R409). -/
theorem State.bootCheck_svn {s : State} {b : BootImages} (h : s.bootCheck b = none) :
    ∀ e ∈ b.manifest.entries, s.fuses.antiRollback.getD e.cls 0 ≤ e.svn := by
  unfold State.bootCheck at h
  extract_lets m at h
  split_ifs at h
  split at h
  · cases h
  · have hnone := List.find?_eq_none.mp (Option.map_eq_none_iff.mp h)
    intro e he
    simpa using hnone e he

/-- A power-on reset with the rails on, by what the boot checks find (R377, R409, R410). -/
theorem powerOnReset_spec (b : BootImages) (s : State) (hrails : s.power.railsOn = true)
    (hlife : s.fuses.lifecycle ≠ 7) :
    let r := s.powerReset
    let u : State := { r with power := { r.power with railsOn := true } }
    (s.bootCheck b = none → exec (.powerOnReset b) s = .next (u.boot b.manifest false) ∧
      ∀ e ∈ b.manifest.entries, s.fuses.antiRollback.getD e.cls 0 ≤ e.svn) ∧
    (∀ part check, s.bootCheck b = some (part, check) → 1 ≤ check ∧ check ≤ 4 ∧ ∃ t,
      exec (.powerOnReset b) s = .next t ∧ t.power.state = 3 ∧ t.fw.recovery = 1 ∧ t.fuses = s.fuses ∧
        t.persist.standbyNor = s.persist.standbyNor ++ [(0x32, leBytes 1 part ++ leBytes 1 check)]) := by
  intro r u
  obtain ⟨hpersist, hfuses⟩ := s.powerReset_keeps
  have hcheck : u.bootCheck b = s.bootCheck b := State.bootCheck_eq_of_fuses hfuses b
  have hlife' : ¬ u.fuses.lifecycle = 7 := by
    rw [show u.fuses = s.fuses from hfuses]
    exact hlife
  have hexec : exec (.powerOnReset b) s = (match u.bootCheck b with
      | none => .next (u.boot b.manifest false)
      | some (part, check) =>
        .next { u with
          persist := { u.persist with
            standbyNor := u.persist.standbyNor ++ [(0x32, leBytes 1 part ++ leBytes 1 check)] },
          fw := { u.fw with recovery := 1, recoverySince := u.up }, power := { u.power with state := 3 } }) := by
    simp only [exec, execPowerOnReset, hrails]
    exact if_neg hlife'
  rw [hexec, hcheck]
  have hnor : u.persist.standbyNor = s.persist.standbyNor := congrArg Persist.standbyNor hpersist
  have hfuses' : u.fuses = s.fuses := hfuses
  clear_value u
  refine ⟨fun hpass => ?_, fun part check hfail => ?_⟩
  · rw [hpass]
    exact ⟨rfl, State.bootCheck_svn hpass⟩
  · rw [hfail]
    obtain ⟨hlo, hhi⟩ := State.bootCheck_check hfail
    exact ⟨hlo, hhi, _, rfl, rfl, rfl, hfuses', by rw [← hnor]⟩

/-! ## Windows of an activation (R406, R407) -/

theorem windowEnd_reason (w : PartWindow) : (windowEnd w).1 ≤ 4 := by
  cases w with
  | ok ns =>
    unfold windowEnd
    dsimp only
    split_ifs
    · exact Nat.zero_le _
    · exact (by decide : 3 ≤ 4)
  | noHandoverPoint ns => exact (by decide : 1 ≤ 4)
  | stateRejected ns => exact (by decide : 2 ≤ 4)
  | notReady ns => exact (by decide : 3 ≤ 4)
  | poisoned ns => exact (by decide : 4 ≤ 4)

theorem windowEnd_ok_time {w : PartWindow} (h : (windowEnd w).1 = 0) : (windowEnd w).2 ≤ 3000000 := by
  cases w with
  | ok ns =>
    unfold windowEnd at h ⊢
    dsimp only at h ⊢
    split_ifs at h ⊢ with hshort
    · exact hshort
  | noHandoverPoint ns => cases h
  | stateRejected ns => cases h
  | notReady ns => cases h
  | poisoned ns => cases h

/-- Windows that all end well end within the budget. -/
theorem runWindows_time {l : List (Nat × PartWindow)} {t n ns : Nat} (ht : t ≤ 20000000)
    (h : runWindows l t n = (none, ns)) : ns ≤ 20000000 := by
  induction l generalizing t n with
  | nil =>
    cases h
    exact ht
  | cons x rest ih =>
    obtain ⟨p, w⟩ := x
    unfold runWindows at h
    split at h
    · cases h
    · dsimp only at h
      split at h
      · next hreason =>
        have htime := windowEnd_ok_time hreason
        exact ih (by omega) h
      · cases h

theorem runWindows_reason {l : List (Nat × PartWindow)} {t n part reason ns : Nat}
    (h : runWindows l t n = (some (part, reason), ns)) : 1 ≤ reason ∧ reason ≤ 5 := by
  induction l generalizing t n with
  | nil => cases h
  | cons x rest ih =>
    obtain ⟨p, w⟩ := x
    unfold runWindows at h
    split at h
    · cases h
      decide
    · dsimp only at h
      split at h
      · exact ih h
      · next hreason =>
        have hle := windowEnd_reason w
        cases h
        omega

/-- Only windows of the activation go back. -/
theorem mem_windowsBack {l : List (Nat × PartWindow)} {t n k : Nat} {back : List Nat}
    (h : k ∈ windowsBack l t n back) : k ∈ l.map (·.1) ∨ k ∈ back := by
  induction l generalizing t n back with
  | nil =>
    rw [windowsBack] at h
    exact absurd h List.not_mem_nil
  | cons x rest ih =>
    obtain ⟨p, w⟩ := x
    have hcons : k ∈ p :: back → k ∈ (p :: rest.map (·.1)) ∨ k ∈ back := fun hk =>
      (List.mem_cons.mp hk).imp (fun hp => List.mem_cons.mpr (.inl hp)) id
    have hmem : k ∈ windowsBack rest (t + (windowEnd w).2) (n + 1) (p :: back) ∨ k ∈ back ∨ k ∈ p :: back := by
      rw [windowsBack] at h
      dsimp only at h
      split_ifs at h
      · exact .inr (.inl h)
      · exact .inl h
      · exact .inr (.inl h)
      · exact .inr (.inr h)
    rcases hmem with hrest | hback | hback
    · rcases ih hrest with hrest | hback
      · exact .inl (List.mem_cons_of_mem _ hrest)
      · exact hcons hback
    · exact .inr hback
    · exact hcons hback

/-! ## Restarts (R401) -/

/-- The images that run, the activation whose NOR write goes on, and NOR's version. -/
def State.images (s : State) : List Nat × List Nat × Option Activation × Nat :=
  (s.fw.versions, s.fw.hashes, s.fw.writing, s.persist.norVersion)

theorem State.images_of_firmware {s t : State} (h : t.firmware = s.firmware) : t.images = s.images :=
  (congrArg (fun v : Firmware × Nat × Power => (v.1.versions, v.1.hashes, v.1.writing, v.2.1)) h :)

/-- A processor that restarts keeps the images of its part, but for a sequencer, whose core may be fenced. -/
theorem State.restartProcessor_images (s : State) {part : Nat} (processor : Nat) (poisoned : Bool) (hpart : part ≠ 6) :
    (s.restartProcessor part processor poisoned).images = s.images := by
  unfold State.restartProcessor
  extract_lets cause planned failed others _ _ restarted logged reported
  have hplanned : planned.images = s.images := by
    simp only [planned]
    split
    · exact State.images_of_firmware s.planAll_firmware
    · rfl
  have hreported : reported.images = s.images :=
    (State.images_of_firmware (State.event_firmware ..)).trans
      ((State.images_of_firmware (State.logAdd_firmware ..)).trans (Eq.trans rfl hplanned))
  rw [if_neg (by simp [hpart])]
  exact hreported

theorem State.restartFromNor_images (s : State) (keys : List Nat) (hkeys : ∀ k ∈ keys, k % 256 ≠ 6) :
    (s.restartFromNor keys).images = s.images := by
  unfold State.restartFromNor
  induction keys generalizing s with
  | nil => rfl
  | cons k rest ih =>
    refine (ih _ fun j hj => hkeys j (List.mem_cons_of_mem _ hj)).trans ?_
    exact foldl_keeps State.images _ _ _ fun u p => u.restartProcessor_images p true (hkeys k List.mem_cons_self)

theorem State.restoreParts_images (s : State) (c : CmdRef) (m : Manifest) (part reason ns : Nat) :
    (s.restoreParts c m part reason ns).images = s.images :=
  (State.images_of_firmware (State.reply_firmware ..)).trans
    ((State.images_of_firmware (State.event_firmware ..)).trans
      ((State.images_of_firmware (State.logAdd_firmware ..)).trans rfl))

/-! ## The commands of class 0x08 -/

/-- ACTIVATE_MANIFEST on a module that runs, by its refusal and the end of its windows (R405 to R407). -/
theorem activateManifestRun_spec {b : State} {m : Manifest} (windows : List (Nat × PartWindow)) (unrestored : List Nat)
    (c : CmdRef) (hstate : b.power.state = 1) (hm : b.fw.manifest = some m) :
    let keys := windowOrder.filter fun k => b.changes m (k % 256)
    let due := keys.map fun k => (k, ((windows.find? fun w => w.1 = k).map (·.2)).getD (.noHandoverPoint 1000000))
    let run := activateManifestRun windows unrestored c b
    (∀ ns, b.activateRefusal = none → runWindows due 0 0 = (none, ns) →
      run = ((keys.filter fun k => k < 256).foldl State.keepImage (b.accept c 0 0)).commitParts c m
        (keys.filter fun k => k < 256).length ns) ∧
    (∀ part reason ns, b.activateRefusal = none → runWindows due 0 0 = (some (part, reason), ns) →
      run = ((b.accept c 0 0).restartFromNor ((windowsBack due 0 0 []).filter fun k => unrestored.contains k)).restoreParts
          c m part reason ns) ∧
    (∀ status, b.activateRefusal = some status → run = b.reply c status 0 0) := by
  intro keys due run
  have hchanges : ∀ part, (b.accept c 0 0).changes m part = b.changes m part := fun part =>
    (congrArg (fun u : State => u.changes m part) (b.accept_inside c 0 0) :)
  have hrun : run = (match b.activateRefusal, b.fw.manifest with
      | some status, _ => b.reply c status 0 0
      | none, some m => b.activate c m windows unrestored
      | none, none => b.reply c Status.badParam 0 0) := by
    simp only [run, activateManifestRun]
    exact if_neg (by rw [hstate]; decide)
  rw [hrun, hm]
  refine ⟨fun ns hok hwin => ?_, fun part reason ns hok hwin => ?_, fun status hbad => ?_⟩
  · rw [hok]
    simp only [State.activate, hchanges]
    rw [hwin]
  · rw [hok]
    simp only [State.activate, hchanges]
    rw [hwin]
  · rw [hbad]

theorem State.keepImage_persist (s : State) (part : Nat) : (s.keepImage part).persist = s.persist := by
  have hframes : ∀ {n : Nat} {u t : State} {pages : List Nat}, u.allocFrames 0 1 1 0 n = some (pages, t) →
      t.persist = u.persist := by
    intro n
    induction n with
    | zero =>
      intro u t pages h
      cases h
      rfl
    | succ k ih =>
      intro u t pages h
      unfold State.allocFrames at h
      split at h
      · cases h
      · next p v hv =>
        obtain ⟨r, hr, hrt⟩ := Option.map_eq_some_iff.mp h
        cases hrt
        exact (ih hr).trans (congrArg State.persist (State.allocFrame_offTables hv) :)
  unfold State.keepImage
  split
  · next hpages =>
    have hkept := hframes hpages
    exact hkept
  · rfl

theorem length_leBytes (n v : Nat) : (leBytes n v).length = n := by
  induction n generalizing v with
  | zero => rfl
  | succ k ih => simp [leBytes, ih]

theorem State.fwRecord_length (s : State) : s.fwRecord.length = 96 := by
  simp [State.fwRecord, length_leBytes]

/-- Settles O60, clause by clause. -/
theorem firmwareRows : Obligations.FirmwareRows := by
  refine ⟨?stage, ?discard, ?discardManifest, ?activate, ?written, ?record, fun b s => powerOnReset_spec b s, ?timeout,
    ?partner, ?microcode, ?bite, ?served⟩
  case stage =>
    intro h part p s hstart b c frames
    have hcmd : exec (.stagePart h part p) s = .next (stagePartRun h part p c b) :=
      congrArg Host.Outcome.next (State.cmd_started s 0x0801 h _ hstart)
    have hfw : b.fw = s.fw := (congrArg State.fw (s.started_trunk 0x0801 h) :)
    clear_value b
    rw [hcmd, ← hfw]
    refine ⟨fun hpart hlen hidle hfull => ?_, fun hpart hlen hidle pages u hpages => ?_, fun hbad => ?_,
      fun hpart hlen hbusy => ?_⟩
    · have hfull' : b.allocFrames 0 1 1 0 (ceilDiv (payloadBytes h) 65536) = none := hfull
      simp [stagePartRun, Nat.not_lt.mpr hpart, Nat.not_lt.mpr hlen, hidle, hfull']
    · intro v
      have hpages' : b.allocFrames 0 1 1 0 (ceilDiv (payloadBytes h) 65536) = some (pages, u) := hpages
      simp [stagePartRun, Nat.not_lt.mpr hpart, Nat.not_lt.mpr hlen, hidle, hpages', v]
    · simp [stagePartRun, hbad]
    · simp [stagePartRun, Nat.not_lt.mpr hpart, Nat.not_lt.mpr hlen, Option.isSome_iff_ne_none.mpr hbusy]
  case discard =>
    intro h part s hstart hlo hhi hidle u
    have hcmd : exec (.stagePartDiscard h part) s = .next (stagePartDiscardRun part (cmdRef 0x0801 h s) _) :=
      congrArg Host.Outcome.next (State.cmd_started s 0x0801 h _ hstart)
    have hfw : (s.started 0x0801 h).fw.writing = none :=
      (congrArg (fun v : State => v.fw.writing) (s.started_trunk 0x0801 h) :).trans hidle
    refine Eq.trans hcmd ?_
    have hne : part ≠ 0 := by omega
    simp [stagePartDiscardRun, Nat.not_lt.mpr hhi, hfw, hne, u]
  case discardManifest =>
    intro h s hstart hidle u
    have hcmd : exec (.stagePartDiscard h 0) s = .next (stagePartDiscardRun 0 (cmdRef 0x0801 h s) _) :=
      congrArg Host.Outcome.next (State.cmd_started s 0x0801 h _ hstart)
    have hfw : (s.started 0x0801 h).fw.writing = none :=
      (congrArg (fun v : State => v.fw.writing) (s.started_trunk 0x0801 h) :).trans hidle
    refine Eq.trans hcmd ?_
    simp [stagePartDiscardRun, hfw, u]
  case activate =>
    intro h windows unrestored s m hstart hstate hm b c keys due
    have hcmd : exec (.activateManifest h windows unrestored) s =
        .next (activateManifestRun windows unrestored c b) :=
      congrArg Host.Outcome.next (State.cmd_started s 0x0802 h _ hstart)
    have htrunk : b.trunk = s.trunk := s.started_trunk 0x0802 h
    have hstate' : b.power.state = 1 := (congrArg (fun v : State => v.power.state) htrunk :).trans hstate
    have hm' : b.fw.manifest = some m := (congrArg (fun v : State => v.fw.manifest) htrunk :).trans hm
    have hpersist : (b.accept c 0 0).persist = s.persist :=
      (congrArg State.persist ((b.accept_trunk c 0 0).trans htrunk) :)
    have himages : (b.accept c 0 0).images = s.images :=
      (congrArg State.images ((b.accept_trunk c 0 0).trans htrunk) :)
    clear_value b
    obtain ⟨hgood, hback, hrefused⟩ := activateManifestRun_spec windows unrestored c hstate' hm'
    rw [hcmd]
    refine ⟨fun ns hok hwin => ⟨runWindows_time (Nat.zero_le _) hwin, _, rfl, hgood ns hok hwin, ?_⟩,
      fun part reason ns hok hwin => ⟨_, rfl, hback part reason ns hok hwin, ?_⟩,
      fun status hbad => congrArg _ (hrefused status hbad)⟩
    · rw [hgood ns hok hwin]
      exact ⟨rfl, rfl, (foldl_keeps State.persist _ _ _ State.keepImage_persist).trans hpersist⟩
    · obtain ⟨hlo, hhi⟩ := runWindows_reason hwin
      have hkeys : ∀ k ∈ (windowsBack due 0 0 []).filter fun k => unrestored.contains k, k % 256 ≠ 6 := by
        intro k hk
        have hdue := (mem_windowsBack (List.mem_filter.mp hk).1).resolve_right List.not_mem_nil
        obtain ⟨w, hw, rfl⟩ := List.mem_map.mp hdue
        obtain ⟨key, hkey, rfl⟩ := List.mem_map.mp hw
        have horder : ∀ k ∈ windowOrder, k % 256 ≠ 6 := by decide
        exact horder key (List.mem_filter.mp hkey).1
      have himages' := (State.restoreParts_images _ c m part reason ns).trans
        ((State.restartFromNor_images (b.accept c 0 0) _ hkeys).trans himages)
      rw [hback part reason ns hok hwin]
      simp only [State.images, Prod.mk.injEq] at himages'
      obtain ⟨hversions, hhashes, hwriting, hnor⟩ := himages'
      exact ⟨hlo, hhi, hversions, hhashes, hnor, hwriting⟩
  case written =>
    intro s a hwriting v t
    simp [exec, execNorWriteDone, hwriting, v, t]
  case record =>
    intro h s hstart b c
    have hcmd : exec (.getFwState h) s = .next (getFwStateRun h c b) :=
      congrArg Host.Outcome.next (State.cmd_started s 0x0803 h _ hstart)
    rw [hcmd]
    refine ⟨b.fwRecord_length, fun hlen => ?_, fun hlen => ?_⟩
    · unfold getFwStateRun
      rw [if_neg (Nat.not_lt.mpr hlen)]
      rfl
    · unfold getFwStateRun
      rw [if_pos hlen]
  case timeout =>
    intro s hrecovery
    refine ⟨fun hlast => ?_, fun hearly => ?_⟩
    · simp [exec, execRecoveryPartnerTimeout, State.recoverFromHost, State.elapsed, State.up, hrecovery, hlast]
    · simp [exec, execRecoveryPartnerTimeout, State.elapsed, State.up, hrecovery, Nat.not_le.mpr hearly]
  case partner =>
    intro b s r hrecovery hslot hpartner hcables
    refine ⟨fun hpass => ?_, fun hfail => ?_⟩
    · have hexec : exec (.recoveryFromPartner b) s =
          .next ((s.boot b.manifest true).event 0 0x0804 b.manifest.version 0) := by
        simp [exec, execRecoveryFromPartner, hrecovery, hslot, hpartner, hcables, hpass]
      have hboot := s.boot_spec b.manifest true
      generalize s.boot b.manifest true = u at hexec hboot
      obtain ⟨hrecovered, hrec, hstate, hrunning, hnor, hlink⟩ := hboot
      have hview := u.event_firmware 0 0x0804 b.manifest.version 0
      simp only [State.firmware, Prod.mk.injEq] at hview
      obtain ⟨hfw, hversion, hpower⟩ := hview
      refine ⟨_, hexec, ?_⟩
      rw [hfw, hversion, hpower, State.event_linkUp]
      exact ⟨hrecovered, hrec, hstate, hrunning, hnor, hlink⟩
    · simp [exec, execRecoveryFromPartner, hrecovery, hslot, hpartner, hcables, Option.isSome_iff_ne_none.mpr hfail]
  case microcode =>
    intro core s hcore hrails x
    refine ⟨fun hrole hscrubbed hcal hrotates hcode => ?_, fun hrole hrotates => ?_⟩
    · simp [exec, execCoreMicrocodeHandover, x, Nat.not_lt.mpr hcore, hrails] at *
      simp [hrole, hscrubbed, hcal, hrotates, hcode]
    · simp [exec, execCoreMicrocodeHandover, hrotates]
  case bite =>
    intro part processor poisoned s hrails hstate hlo hhi hproc b hserves t
    have hexec : exec (.watchdogBite part processor poisoned) s = .next (s.restartProcessor part processor poisoned) := by
      simp [exec, execWatchdogBite, hrails, hstate, hproc]
    have hidle : (b.fw.restarting.any fun r => r.1 = part && r.2.1 = processor) = false := by
      simpa [List.any_eq_false] using hserves
    have hothers : (b.fw.restarting.filter fun r => !(r.1 = part && r.2.1 = processor)) = b.fw.restarting :=
      List.filter_eq_self.mpr fun r hr => by simpa [imp_iff_not_or] using hserves r hr
    rw [hexec]
    unfold State.restartProcessor
    extract_lets cause failed others _ _ restarted logged reported
    have hfailed : failed = false := hidle
    rw [if_neg (by rw [hfailed]; simp)]
    have hrestarted : restarted = t := by
      show ({ b with
        fw := { b.fw with
          restarting := (b.fw.restarting.filter fun r => !(r.1 = part && r.2.1 = processor)) ++
            [(part, processor, poisoned, b.up)],
          restarts := _ }, customs := _ } : State) = t
      rw [hothers]
      rfl
    simp only [reported, logged, hrestarted]
    rfl
  case served =>
    intro part processor s hdown
    have hany : (s.fw.restarting.any fun r => r.1 = part && r.2.1 = processor) = true := by
      simpa [List.any_eq_true] using hdown
    simp only [exec, execWatchdogRestartDone]
    rw [if_neg (by rw [hany]; decide)]

end Sys2Proof.Machine
end

section
/-! PROOF. Time, tracks and launches: obligations O8 and O9. -/

namespace Sys2Proof.Machine

/-- A host command that starts answers what its opcode's own rules make of the state it starts in. -/
theorem next_cmd_started {s : State} {op : Nat} {h : Hdr} (hstart : startable op h s = true)
    (run : CmdRef → State → State) :
    (.next (s.cmd op h run) : Host.Outcome State Fault Refusal) = .next (run (cmdRef op h s) (s.started op h)) :=
  congrArg Host.Outcome.next (State.cmd_started s op h run hstart)

/-- A command that starts on the host link is no copy of the partner's. -/
theorem cmdRef_copied {s : State} {op : Nat} {h : Hdr} (hstart : startable op h s = true) :
    (cmdRef op h s).copied = false := by
  simp only [startable, Bool.and_eq_true, Bool.not_eq_true'] at hstart
  obtain ⟨⟨⟨⟨⟨⟨⟨⟨⟨hcopied, -⟩, -⟩, -⟩, -⟩, -⟩, -⟩, -⟩, -⟩, -⟩ := hstart
  exact hcopied

theorem setTimebaseRun_done {p : TimebaseParams} {b : State} (c : CmdRef) (hok : timebaseOk p = true)
    (hstep : p.step = true → b.mls.ledger = [] ∧ b.reqs.routes = []) :
    let t := (if p.step then (b.setTimebaseCfg p).stepTime p.stepNs else b.setTimebaseCfg p).discipline
    setTimebaseRun p c b = t.reply c Status.done t.mls.disc (twos 64 t.mls.offset) := by
  intro t
  have hfree : (p.step && (b.ledgerFill ≠ 0 || !b.reqs.routes.isEmpty) : Bool) = false := by
    cases hp : p.step with
    | false => rfl
    | true =>
      obtain ⟨hledger, hroutes⟩ := hstep hp
      simp [State.ledgerFill, hledger, hroutes]
  unfold setTimebaseRun
  rw [if_neg (by rw [hok]; decide), if_neg (by rw [hfree]; decide)]

/-- Settles O8, command by command. -/
theorem timeAndTrackCommands : Obligations.TimeAndTrackCommands := by
  refine ⟨?timebase, ?define, ?delete⟩
  case timebase =>
    intro h p s hstart b hok hstep
    exact (next_cmd_started hstart _).trans (congrArg _ (setTimebaseRun_done _ hok hstep))
  case define =>
    intro h p s hstart hok b done
    have hcmd : exec (.defineTrack h p) s = .next (defineTrackRun h p (cmdRef 0x0402 h s) b) :=
      next_cmd_started hstart _
    rw [hcmd]
    refine ⟨fun hnew => ?_, fun t hold hown hsource => ?_, fun t hold hown hsource => ?_⟩
    · simp only [defineTrackRun, hnew, hok]
      rfl
    · have hsource' : ¬ t.params.sourceId = (trackDefaults p).sourceId := hsource
      simp only [defineTrackRun, hold, hok, if_neg hsource']
      rw [if_neg (by rw [hown]; simp), if_neg (by decide)]
      rfl
    · have hsource' : t.params.sourceId = (trackDefaults p).sourceId := hsource
      intro u
      simp only [defineTrackRun, hold, hok, if_pos hsource']
      rw [if_neg (by rw [hown]; simp), if_neg (by decide)]
      rfl
  case delete =>
    intro h n s t hstart b hold hown hfree
    refine (next_cmd_started hstart _).trans ?_
    simp only [defineTrackDeleteRun]
    rw [show Map.get? (s.started 0x0402 h).mls.tracks n = some t from hold]
    dsimp only
    rw [if_neg (by simp [hown, show (s.started 0x0402 h).trackNamed n = false from hfree])]

/-- Settles O9, command by command. -/
theorem launchCommands : Obligations.LaunchCommands := by
  refine ⟨?define, ?post, ?recalled⟩
  case define =>
    intro h p s hstart b hok hlines q
    have hcmd : exec (.defineActionStream h p) s = .next (defineActionStreamRun h p (cmdRef 0x0403 h s) b) :=
      next_cmd_started hstart _
    have hcopied := cmdRef_copied hstart
    rw [hcmd]
    refine ⟨fun hnew => ?_, fun o hold hown => ?_⟩
    · simp [defineActionStreamRun, hnew, hok, hlines, hcopied, q, orDefault]
    · simp [defineActionStreamRun, hold, hown, hok, hlines, hcopied, q, orDefault]
  case post =>
    intro h p s st hstart b hst href e
    refine ⟨rfl, rfl, ?_⟩
    · refine (next_cmd_started hstart _).trans ?_
      simp only [postLaunchRun]
      rw [show postRefusal h p (s.started 0x0404 h) = none from href,
        show (s.started 0x0404 h).stream p.stream = some st from hst]
  case recalled =>
    intro h stream byRequest key count s st hstart b hst hown hcount r
    refine (next_cmd_started hstart _).trans ?_
    simp only [recallLaunchRun]
    rw [show (s.started 0x0405 h).stream stream = some st from hst]
    dsimp only
    rw [if_neg (by simp [hown]), if_neg (by
      cases byRequest
      · simpa using hcount rfl
      · simp)]
    rfl

end Sys2Proof.Machine
end

section
/-! PROOF. Holds, time sources, tracks and launches: obligations O10 to O13. -/

namespace Sys2Proof.Machine

/-! ## Holds and lines -/

theorem exec_lineEnableWrite (s : State) (v : Nat) :
    let off := (List.range 16).filter fun l => bitOf s.mls.lineEnable l && !bitOf v l
    let t : State := { s with mls := { s.mls with lineEnable := v % 65536 } }
    exec (.lineEnableWrite v) s = .next (if off = [] then t else t.cutLines off) := by
  intro off t
  show Host.Outcome.next (if off.isEmpty then t else t.cutLines off) = _
  simp only [List.isEmpty_iff]

theorem exec_inputEdge {s : State} {i : Nat} (fraction : Nat) (rising : Bool) (hi : i ≤ 6)
    (hnamed : s.inputNamed i = false) :
    let rose := s.mls.inputRose.filter fun q => q.1 != i
    exec (.inputEdge i rising fraction) s = .next (({ s with mls := { s.mls with
      inputs := if rising then setBit s.mls.inputs i else clearBit s.mls.inputs i,
      inputRose := if rising = true ∧ i ∈ s.mls.closedInputs then (i, s.mls.uptime) :: rose else rose } } :
        State).event 0 0x0403 i ((if rising then 1 else 0) + 256 * (fraction % 64))) := by
  intro rose
  have hnamed' : ∀ inputs : Nat,
      ({ s with mls := { s.mls with inputs := inputs } } : State).inputNamed i = false := fun _ => hnamed
  simp only [exec, execInputEdge, if_neg (Nat.not_lt.mpr hi), hnamed']
  simp [State.up, bit, rose]

/-- Settles O10, event by event. -/
theorem holdsAndLines : Obligations.HoldsAndLines := by
  refine ⟨?fall, ?rise, ?gate, ?inputGate, ?streamFall, ?streamRise, ?edge, exec_lineEnableWrite, ?port⟩
  case fall =>
    intro s hpin
    simp [exec, execHoldAssert, hpin, satAdd]
  case rise =>
    intro s hpin
    simp [exec, execHoldRelease, hpin, State.up]
  case gate =>
    intro s rose hrose hover
    simp [exec, execReleaseDelayEnd, hrose, State.delayOver, State.elapsed, State.up, Nat.mul_comm _ 1000, hover]
  case inputGate =>
    intro s i rose hrose hover
    simp [exec, execReleaseDelayEnd, hrose, State.delayOver, State.elapsed, State.up, Nat.mul_comm _ 1000, hover]
  case streamFall =>
    intro s i hi hnamed
    have hnamed' : ∀ inputs : Nat,
        ({ s with mls := { s.mls with inputs := inputs } } : State).inputNamed i = true := fun _ => hnamed
    simp only [exec, execStreamHoldAssert, if_neg (Nat.not_lt.mpr hi), hnamed']
    rfl
  case streamRise =>
    intro s i hi hclosed
    simp only [exec, execStreamHoldRelease, if_neg (Nat.not_lt.mpr hi), hclosed, if_true]
    rfl
  case edge => exact fun s i fraction rising hi hnamed => exec_inputEdge fraction rising hi hnamed
  case port =>
    intro s port up hport
    cases up <;> simp [exec, execEthernetLinkChange, Nat.not_lt.mpr hport]

/-! ## Time sources -/

/-- Settles O11, event by event. -/
theorem timeSources : Obligations.TimeSources := by
  refine ⟨?pulse, ?blind, fun s bytes => rfl, ?loss, ?announce, ?offset, ?silence, ?settled, ?free⟩
  case pulse =>
    intro s lock code hrails hcode off agree good
    simp only [exec, execMilestonePulse, hrails, hcode]
    rfl
  case blind =>
    intro s lock hrails hcode
    simp only [exec, execMilestonePulse, hrails, hcode]
    rfl
  case loss =>
    intro s unlocked hpresent hlost
    have hsilent : (unlocked || (match s.mls.lastPulse with
        | some t => s.elapsed t 3000000
        | none => true)) = true := by
      rcases hlost with rfl | hlost
      · rfl
      · cases hlast : s.mls.lastPulse with
        | none => simp
        | some t => simp [State.elapsed, State.up, hlost t hlast]
    simp only [exec, execBusLoss, hpresent, Bool.true_and]
    exact if_pos hsilent
  case announce =>
    intro s port domain transport vlan master interval better hmatch
    refine ⟨fun ⟨i, hmaster⟩ => ?_, fun hnew => ?_⟩
    · simp [exec, execPtpMessage, hmatch, hmaster, State.up]
    · have hother : ((s.mls.ptpMaster.map fun p => decide (p.1 = master && p.2.1 = port)).getD false) = false := by
        cases hmaster : s.mls.ptpMaster with
        | none => rfl
        | some p =>
          obtain ⟨m, q, i⟩ := p
          have hne := (hnew.resolve_left (by simp [hmaster])).2 i
          rw [hmaster] at hne
          have hne' : ¬ (m = master ∧ q = port) := by
            rintro ⟨rfl, rfl⟩
            exact hne rfl
          simpa using hne'
      have htake : (s.mls.ptpMaster.isNone || better) = true := by
        rcases hnew with hnone | ⟨hbetter, -⟩
        · simp [hnone]
        · simp [hbetter]
      simp only [exec, execPtpMessage, hmatch, hother]
      exact if_pos htake
  case offset =>
    intro s port domain transport vlan master i offset hmatch hmaster
    simp [exec, execPtpMessage, hmatch, hmaster, State.up]
  case silence =>
    intro s m p i a hmaster hlast hover
    simp [exec, execPtpAnnounceTimeout, hmaster, hlast, State.elapsed, State.up, hover]
  case settled =>
    intro s t hsettled hlast
    have hsettled' : s.ptpSettled = true := by
      simp only [State.ptpSettled, hsettled, State.elapsed, State.up]
      exact decide_eq_true hlast
    simp only [exec, execPtpSettled, hsettled', if_true]
  case free =>
    intro s t hdisc hsince hover
    simp [exec, execHoldoverLimit, hdisc, hsince, giga, State.up, hover, State.setDisc]

/-! ## Tracks and the ledger -/

/-- Settles O12, event by event. -/
theorem tracksAndLedgerTicks : Obligations.TracksAndLedgerTicks := by
  refine ⟨fun s port f => rfl, ?stale, ?tick, ?expiry⟩
  case stale =>
    intro s n a t htrack hlast hstate hover
    have hdue : ((t.state = 1 || t.state = 2) && s.elapsed a (t.params.timeout * 1000000) : Bool) = true := by
      simp [hstate, State.elapsed, State.up, Nat.mul_comm _ 1000000, hover]
    have hexec : exec (.trackStale n) s = .next (s.goStale n t) := by
      simp only [exec, execTrackStale, htrack, hlast]
      exact if_pos hdue
    exact hexec
  case tick =>
    intro s
    by_cases hgrid : s.mls.time % 10000 = 0
    · simp [exec, execMilestoneTick, State.onTick, State.now, hgrid]
    · simp [exec, execMilestoneTick, State.onTick, State.now, hgrid]
  case expiry =>
    intro s stream seq e hentry htick hbound hstate hexpiry
    simp [exec, execEntryExpiry, hentry, State.onTick, State.now, htick, State.expired, hbound, hstate, hexpiry]
    rfl

/-! ## Launches -/

/-- Settles O13, event by event. -/
theorem launchesAndTheirOutcomes : Obligations.LaunchesAndTheirOutcomes := by
  refine ⟨?line, ?frame, ?pulse⟩
  case line =>
    intro s stream seq e st hentry hst hline hstate hpulse hmatch
    have hdue : s.launchDue e st = true := by
      simp [State.launchDue, hstate, hline, State.now, hmatch]
    simp only [exec, execLineMatch, hentry, hst, hline, hpulse, hdue]
    simp only [State.launchesNothing, apply_ite Host.Outcome.next, List.isEmpty_iff, List.filter_eq_nil_iff]
    simp
  case frame =>
    intro s stream seq e st hentry hst hline hstate hmatch hfirst
    have hdue : s.launchDue e st = true := by
      simp [State.launchDue, hstate, hline, State.now, hmatch]
    simp only [exec, execFrameRelease, hentry, hst, hline, hdue, hfirst]
    simp only [State.launchesNothing, apply_ite Host.Outcome.next, List.isEmpty_iff]
    simp
  case pulse =>
    intro s stream seq p hfind hend
    simp only [exec, execPulseEnd, hfind]
    exact if_neg (Nat.not_lt.mpr hend)

end Sys2Proof.Machine
end

section
/-! PROOF. Tolls, scrubs, the error log and retirement: obligations O17 and O18. -/

namespace Sys2Proof.Machine

/-! ## Tolls -/

theorem Toll.write_limit (t : Toll) {r : Nat} (hr : r < 14) (v : W32) :
    t.write (0x10 + 4 * r) v = { t with limits := t.limits.set r (v &&& 0x0FFF0FFF) } := by
  have hplace : within (0x10 + 4 * r) 0x10 0x44 && (0x10 + 4 * r) % 4 = 0 := by
    simp [within]
    omega
  have hindex : (0x10 + 4 * r - 0x10) / 4 = r := by omega
  unfold Toll.write
  rw [if_neg (by omega), if_neg (by omega), if_neg (by omega), if_pos hplace, hindex]

theorem exec_tollPriorityWrite {toll offset : Nat} (v : W32) (s : State) (htoll : toll ≤ 25) (hoffset : offset ≠ 0x48) :
    exec (.tollPriorityWrite toll offset v) s = .next (s.setToll toll ((s.toll toll).write offset v)) := by
  simp [exec, execTollPriorityWrite, Nat.not_lt.mpr htoll, hoffset]

/-- Settles O17, event by event. -/
theorem tollRegistersAndWatchdog : Obligations.TollRegistersAndWatchdog := by
  refine ⟨?registers, ?watchdog, fun s mask => rfl, ?arm⟩
  case registers =>
    intro s toll v htoll
    refine ⟨exec_tollPriorityWrite v s htoll (by decide), exec_tollPriorityWrite v s htoll (by decide), fun r hr => ?_⟩
    rw [exec_tollPriorityWrite v s htoll (by omega), Toll.write_limit _ hr]
  case watchdog =>
    intro s toll w cycles htoll howner hcycles f g
    simp only [exec, execTollWatchdogFence, howner]
    exact if_neg (by simpa using ⟨htoll, hcycles⟩)
  case arm =>
    intro s owner
    have hbar : (!s.mem.flipAny && owner ≠ 255 && owner ≠ 0 && !s.consents owner 0 : Bool) = true ↔
        s.mem.flipAny = false ∧ owner ≠ 255 ∧ owner ≠ 0 ∧ s.consents owner 0 = false := by
      simp [and_assoc]
    exact congrArg Host.Outcome.next (if_congr hbar rfl rfl)

/-! ## Scrubs, the error log and retirement -/

/-- Settles O18, command by command. -/
theorem scrubLogAndRetirement : Obligations.ScrubLogAndRetirement := by
  refine ⟨?scrub, ?run, ?stop, ?read, ?page, ?bank⟩
  case scrub =>
    intro h p s hstart hok hlen b
    refine (next_cmd_started hstart _).trans ?_
    simp only [scrubRangeRun]
    rw [if_neg (by simp [hok, hlen])]
    rfl
  case run =>
    intro s cls unit found c hrails hactive hcls hunit hfence
    have hopen : ¬ ((!s.power.railsOn || c.params.cls ≠ cls || classUnit cls c.params.unit ≠ classUnit cls unit ||
        (tollScrub cls && bitOf s.mem.fence 12) : Bool) = true) := by
      simpa [hrails, hcls, hunit] using hfence
    simp only [exec, execScrubRun, hactive]
    exact if_neg hopen
  case stop =>
    intro h cls unit s hstart hcls hunit b named
    have hrange : ¬ ((cls > 5 || (within cls 2 4 && unit > 8) : Bool) = true) := by
      simpa [hcls] using hunit
    have hcmd : exec (.scrubStop h cls unit) s = .next (scrubStopRun cls unit (cmdRef 0x0501 h s) b) :=
      next_cmd_started hstart _
    rw [hcmd]
    simp only [scrubStopRun, if_neg hrange]
    refine ⟨fun hnone => ?_, fun x y hfirst hactive => ?_⟩
    · rw [show (b.mem.scrubs.find? fun x => x.params.cls = cls && classUnit cls x.params.unit = classUnit cls unit) =
        none from hnone]
    · rw [show (b.mem.scrubs.find? fun x => x.params.cls = cls && classUnit cls x.params.unit = classUnit cls unit) =
        some x from hfirst]
      simp only [hactive, Option.map_some, Option.some.injEq]
  case read =>
    intro h from_ count s e hstart b es hlo hhi hroom hlast lost w
    refine (next_cmd_started hstart _).trans ?_
    have hlast' : ((logFrom (s.started 0x0502 h).mem.log from_).take count).getLast? = some e := hlast
    have hroom' : 64 * ((logFrom (s.started 0x0502 h).mem.log from_).take count).length ≤ payloadBytes h := hroom
    have hbad : ¬ ((!within count 1 1024 ||
        payloadBytes h < 64 * ((logFrom (s.started 0x0502 h).mem.log from_).take count).length : Bool) = true) := by
      simp [within, hlo, hhi, hroom', -List.length_take]
    simp only [readErrorLogRun, if_neg hbad, hlast']
    rfl
  case page =>
    intro h page s hstart b hok hretired hroom
    have hcmd : exec (.retirePage h page) s = .next (retirePageRun page (cmdRef 0x0503 h s) b) :=
      next_cmd_started hstart _
    rw [hcmd]
    refine ⟨fun hfree => ?_, fun f hused hdue => ?_⟩
    · unfold retirePageRun
      rw [if_neg (by simp [hok]), if_neg (by simp [hretired]), if_neg (by simp [hfree]),
        if_neg (Nat.not_le.mpr hroom), hfree]
    · unfold retirePageRun
      rw [if_neg (by simp [hok]), if_neg (by simp [hretired]), if_neg (by simp [hused, hdue]),
        if_neg (Nat.not_le.mpr hroom), hused]
  case bank =>
    intro h page s hstart b tier place hok hnew hroom here used atOnce banks m
    refine (next_cmd_started hstart _).trans ?_
    have hnew' : ¬ ((s.started 0x0503 h).mem.banks.contains (tier, place.1, place.2) = true) := by
      rw [show (s.started 0x0503 h).mem.banks.contains (tier, place.1, place.2) = false from hnew]
      decide
    simp only [retirePageBankRun]
    rw [if_neg (by rw [hok]; decide), if_neg hnew', if_neg (Nat.not_le.mpr hroom)]
    rfl

end Sys2Proof.Machine
end

section
/-! PROOF. Capabilities, status records and event masks: obligation O24. -/

namespace Sys2Proof.Machine

theorem length_recordBytes (n : Nat) (fields : List (Nat × Nat × Nat)) : (recordBytes n fields).length = n :=
  length_leBytes _ _

/-- The capability record depends on the function by its ring pairs alone, of which there are two kinds. -/
theorem capsRecord_fields (fn : Nat) : (capsRecord fn).length = 64 ∧
    leNat (slice 8 8 (capsRecord fn)) = 576000000000 ∧ leNat (slice 42 2 (capsRecord fn)) = 1024 := by
  refine ⟨length_recordBytes _ _, ?_⟩
  unfold capsRecord ringPairs
  split <;> decide +kernel

/-- Settles O24, clause by clause. -/
theorem statusAndMasks : Obligations.StatusAndMasks := by
  refine ⟨?caps, ?status, capsRecord_fields, fun s n => length_recordBytes _ _, ?mask, ?disabled, ?enabled, rfl⟩
  case caps =>
    intro h s hstart b c
    have hcmd : exec (.getCaps h) s = .next (getCapsRun h c b) := next_cmd_started hstart _
    rw [hcmd]
    exact ⟨fun hlen => congrArg _ (if_neg (Nat.not_lt.mpr hlen)), fun hlen => congrArg _ (if_pos hlen)⟩
  case status =>
    intro h sel a b' c' d s hstart b c
    have hcmd : exec (.getStatus h sel a b' c' d) s = .next (getStatusRun h sel a b' c' d c b) :=
      next_cmd_started hstart _
    rw [hcmd]
    refine ⟨fun hsel => congrArg _ (if_pos hsel), fun bytes hsel hfound hlen => ?_, fun bytes hsel hfound hlen => ?_,
      fun status hsel hrefused => ?_⟩
    · simp only [getStatusRun, if_neg hsel, hfound, if_neg (Nat.not_lt.mpr hlen)]
      rfl
    · simp only [getStatusRun, if_neg hsel, hfound, if_pos hlen]
    · simp only [getStatusRun, if_neg hsel, hrefused]
  case mask =>
    intro h enable s hstart b c
    have hcmd : exec (.setEventMask h enable) s = .next (setEventMaskRun h enable c b) := next_cmd_started hstart _
    rw [hcmd]
    exact ⟨fun hlow => congrArg _ (if_neg (Nat.not_le.mpr hlow)), fun hhigh => congrArg _ (if_pos hhigh)⟩
  case disabled =>
    intro s fn code object detail hcode hmask
    exact if_pos (by simp [hcode, hmask])
  case enabled =>
    intro s fn code object detail hon
    by_cases htakes : s.EvqTakes fn
    · obtain ⟨msgs, -, hout⟩ := State.event_of_takes_out object detail hon htakes
      exact .inr (by simp [hout])
    · exact .inl (by rw [State.event_of_not_takes object detail hon htakes, State.fn_setFn_self])

end Sys2Proof.Machine
end

section
/-! PROOF. Rings, functions and register accesses: obligations O26 and O29. -/

namespace Sys2Proof.Machine

/-! ## One packet fetched -/

theorem State.fetches_setRing {s : State} {fn ring : Nat} {p : RingPair} (h : s.fetches fn ring = true)
    (henable : p.enable = (s.ring fn ring).enable) (herror : p.error = (s.ring fn ring).error)
    (hwaiting : p.waiting = (s.ring fn ring).waiting) : (s.setRing fn ring p).fetches fn ring = true := by
  unfold State.fetches at h ⊢
  rw [State.ring_setRing_self]
  dsimp only
  rw [henable, herror, hwaiting]
  exact h

theorem State.enable_of_fetches {s : State} {fn ring : Nat} (h : s.fetches fn ring = true) :
    (s.ring fn ring).enable = true := by
  simp only [State.fetches, Bool.and_eq_true] at h
  obtain ⟨⟨⟨⟨⟨⟨⟨-, henable⟩, -⟩, -⟩, -⟩, -⟩, -⟩, -⟩ := h
  exact henable

/-- A doorbell that covers one new entry of an enabled ring that holds nothing has that entry fetched (R277). -/
theorem State.doorbell_one {s : State} {fn ring : Nat} {packets : List (List Byte)} {failAddr : Option Nat}
    {entry : List Byte ⊕ Nat} (hfetch : s.fetches fn ring = true) (hempty : (s.ring fn ring).unfetched = [])
    (hlog : 1 ≤ (s.ring fn ring).cmdLog2) (hhead : (s.ring fn ring).cmdHead < 2 ^ (s.ring fn ring).cmdLog2)
    (hentry : packets.map Sum.inl ++ (failAddr.map Sum.inr).toList = [entry]) :
    let next := ((s.ring fn ring).cmdHead + 1) % 2 ^ (s.ring fn ring).cmdLog2
    s.doorbell fn ring next packets failAddr =
      (s.setRing fn ring { s.ring fn ring with cmdTail := next, unfetched := [entry] }).fetchOne fn ring := by
  intro next
  have hsize : 2 ≤ 2 ^ (s.ring fn ring).cmdLog2 := by
    calc 2 = 2 ^ 1 := rfl
      _ ≤ 2 ^ (s.ring fn ring).cmdLog2 := Nat.pow_le_pow_right (by decide) hlog
  have hnext : next % 2 ^ (s.ring fn ring).cmdLog2 = next := Nat.mod_mod _ _
  have hcovered : (next + 2 ^ (s.ring fn ring).cmdLog2 -
      (s.ring fn ring).cmdHead % 2 ^ (s.ring fn ring).cmdLog2) % 2 ^ (s.ring fn ring).cmdLog2 = 1 := by
    have hnext' : next = ((s.ring fn ring).cmdHead + 1) % 2 ^ (s.ring fn ring).cmdLog2 := rfl
    generalize 2 ^ (s.ring fn ring).cmdLog2 = size at *
    rw [Nat.mod_eq_of_lt hhead]
    rcases Nat.lt_or_ge ((s.ring fn ring).cmdHead + 1) size with hlt | hge
    · rw [hnext', Nat.mod_eq_of_lt hlt]
      rw [show (s.ring fn ring).cmdHead + 1 + size - (s.ring fn ring).cmdHead = 1 + size by omega, Nat.add_mod_right]
      exact Nat.mod_eq_of_lt hsize
    · rw [hnext', show (s.ring fn ring).cmdHead + 1 = size by omega, Nat.mod_self,
        show 0 + size - (s.ring fn ring).cmdHead = 1 by omega]
      exact Nat.mod_eq_of_lt hsize
  have henable := State.enable_of_fetches hfetch
  unfold State.doorbell
  dsimp only
  rw [if_neg (by simp [henable]), hempty, hnext]
  simp only [List.length_nil, Nat.add_zero, hcovered, hentry]
  rfl

theorem State.fetchOne_packet {s : State} {fn ring : Nat} {b : List Byte} {rest : List (List Byte ⊕ Nat)}
    (hfetch : s.fetches fn ring = true) (hheld : (s.ring fn ring).unfetched = .inl b :: rest)
    (hbar : (s.ring fn ring).barred b = false) :
    s.fetchOne fn ring = (s.setRing fn ring { s.ring fn ring with
      unfetched := rest, cmdHead := ((s.ring fn ring).cmdHead + 1) % 2 ^ (s.ring fn ring).cmdLog2 }).takePacket
        fn ring b := by
  simp [State.fetchOne, hfetch, hheld, hbar]

theorem State.fetchOne_failed {s : State} {fn ring a : Nat} {rest : List (List Byte ⊕ Nat)}
    (hfetch : s.fetches fn ring = true) (hheld : (s.ring fn ring).unfetched = .inr a :: rest) :
    s.fetchOne fn ring =
      (s.setRing fn ring { s.ring fn ring with error := true }).event fn 0x0003 ring a := by
  simp [State.fetchOne, hfetch, hheld]

/-- Settles O26, row by row. -/
theorem ringAndFunctionRows : Obligations.RingAndFunctionRows := by
  refine ⟨?disabled, ?fetch, ?head, ?set, ?clear, ?coalesce, ?flr, ?flrPf, fun s n => rfl, fun s => rfl, ?power⟩
  case disabled =>
    intro s fn ring tail packets failAddr hok hoff
    simp [exec, execDoorbell, hok, State.doorbell, hoff]
  case fetch =>
    intro s fn ring b hok hfetch p next hempty hlog hhead
    have hdoorbell : ∀ packets failAddr, exec (.doorbell fn ring next packets failAddr) s =
        .next (s.doorbell fn ring next packets failAddr) := fun _ _ => by simp [exec, execDoorbell, hok]
    have hfetch' : ∀ entry : List Byte ⊕ Nat,
        (s.setRing fn ring { p with cmdTail := next, unfetched := [entry] }).fetches fn ring = true := fun entry =>
      State.fetches_setRing hfetch rfl rfl rfl
    refine ⟨fun hbar => ?_, fun a => ?_⟩
    · rw [hdoorbell, State.doorbell_one (entry := .inl b) hfetch hempty hlog hhead rfl,
        State.fetchOne_packet (b := b) (rest := []) (hfetch' _) (by rw [State.ring_setRing_self])
          (by rw [State.ring_setRing_self]; exact hbar)]
      rw [State.ring_setRing_self, State.setRing_setRing, ← hempty]
    · rw [hdoorbell, State.doorbell_one (entry := .inr a) hfetch hempty hlog hhead rfl,
        State.fetchOne_failed (a := a) (rest := []) (hfetch' _) (by rw [State.ring_setRing_self])]
      rw [State.ring_setRing_self, State.setRing_setRing]
  case head =>
    intro s fn ring head hok p
    simp only [exec, execReplyRingHeadWrite, hok, if_true]
    rfl
  case set =>
    intro s fn ring hok hoff
    simp [exec, execRingEnableSet, hok, State.enableRing, hoff]
  case clear =>
    intro s fn ring hok hon p
    simp [exec, execRingEnableClear, hok, State.disableRing, hon, satAdd, p]
  case coalesce =>
    intro s fn ring since hok hsince hover
    simp [exec, execCoalesceTimeout, hok, hsince, State.elapsed, State.up, Nat.mul_comm _ 1000, hover]
  case flr =>
    intro s fn hpos hle hpresent
    simp [exec, execFlr, Nat.not_lt.mpr hle, hpresent, Nat.ne_of_gt hpos]
  case flrPf =>
    intro s hpresent
    simp [exec, execFlr, hpresent]
  case power =>
    intro s fn d3hot busMaster hle
    simp only [exec, execFunctionPowerStateChange]
    exact if_neg (Nat.not_lt.mpr hle)

/-! ## Register accesses -/

/-- Settles O29, row by row. -/
theorem registerRows : Obligations.RegisterRows := by
  refine ⟨?write, ?read⟩
  case write =>
    intro s fn offset value hfn
    refine ⟨fun halign => ?_, fun halign => ?_, fun size hbad => ?_⟩
    · simp [exec, execRegisterWrite, Nat.not_lt.mpr hfn, halign]
    · simp [exec, execRegisterWrite, Nat.not_lt.mpr hfn, halign]
    · simp only [exec, execRegisterWrite, if_neg (Nat.not_lt.mpr hfn)]
      have hfour : ¬ (size = 4 ∧ offset % 4 = 0) := by
        rintro ⟨rfl, halign⟩
        omega
      have height : ¬ (size = 8 ∧ offset % 8 = 0) := by
        rintro ⟨rfl, halign⟩
        omega
      rw [if_neg (by simpa using hfour), if_neg (by simpa using height)]
  case read =>
    intro s fn offset hfn halign hwide
    have halign' : offset % 4 = 0 := by omega
    refine ⟨?_, fun t hlatched hwide' => ?_⟩
    · simp [exec, execLatchedHalfRead, Nat.not_lt.mpr hfn, halign, halign', hwide]
    · have hhigh : (offset + 4) % 4 = 0 ∧ ¬ (offset + 4) % 8 = 0 := by omega
      simp [exec, execLatchedHalfRead, Nat.not_lt.mpr hfn, hhigh, hwide', hlatched]

end Sys2Proof.Machine
end

section
/-! PROOF. Core commands: obligation O32. -/

namespace Sys2Proof.Machine

/-- Every slice has a core, as UNFENCE tests it. -/
theorem everySlice_iff (s : State) :
    ((List.range 8).all fun i => s.cores.core.any fun p => p.2.slice = some i) = true ↔
      ∀ i, i < 8 → ∃ p ∈ s.cores.core, p.2.slice = some i := by
  simp only [List.all_eq_true, List.mem_range, List.any_eq_true, decide_eq_true_eq]

theorem setPeriodRun_done {period : Nat} (c : CmdRef) (b : State)
    (hperiod : period = 0 ∨ (300 ≤ period ∧ period ≤ 14400)) :
    setPeriodRun period c b =
      ({ b with cores := { b.cores with restPeriod := period } } : State).reply c Status.done b.cores.restPeriod 0 :=
  if_neg (by simp [within]; omega)

/-- ROTATE_NOW is refused where no handover can begin. -/
theorem rotateNowRun_refused {b : State} (c : CmdRef) (hnone : b.cores.handover = none)
    (hbad : b.rotates = false ∨ b.outgoingCore = none ∨ b.restingCore = none ∨
      ∃ out, b.outgoingCore = some out ∧ b.rotationHeld out = true) :
    rotateNowRun c b = b.reply c Status.notPermitted 0 0 := by
  unfold rotateNowRun
  rw [hnone]
  cases hout : b.outgoingCore with
  | none => rfl
  | some out =>
    cases hinc : b.restingCore with
    | none => rfl
    | some inc =>
      refine if_pos ?_
      obtain h | h | h | ⟨o, ho, h⟩ := hbad
      · simp [h]
      · exact absurd (hout.symm.trans h) (by simp)
      · exact absurd (hinc.symm.trans h) (by simp)
      · simp [Option.some.inj (hout.symm.trans ho), h]

theorem unfenceRun_fenced {b : State} {core : Nat} (c : CmdRef) (hcore : core ≤ 8) (hrole : (b.core core).role = 2)
    (hreason : (b.core core).fenceReason ≠ 0) (htoll : bitOf b.mem.fence core = false) :
    let t := b.setCore core { b.core core with role := 1, slice := none, restStart := some b.mls.uptime,
                                               restScrubbed := false }
    let whole := ∀ i, i < 8 → ∃ p ∈ t.cores.core, p.2.slice = some i
    (t.rotates = true → whole → unfenceRun core c b = (t.restScrub core).reply c Status.done 0 0) ∧
    ((t.rotates = false ∨ ¬ whole) → unfenceRun core c b = t.reply c Status.done 0 0) := by
  intro t whole
  have hrun : unfenceRun core c b =
      (if t.rotates && (List.range 8).all fun i => t.cores.core.any fun p => p.2.slice = some i then
        t.restScrub core else t).reply c Status.done 0 0 := by
    unfold unfenceRun
    rw [if_neg (by omega), if_neg (by simp [hrole]), if_neg (by simp [hreason, htoll])]
    rfl
  rw [hrun]
  refine ⟨fun hrot hwhole => ?_, fun hnot => ?_⟩
  · rw [if_pos (by rw [hrot, (everySlice_iff t).mpr hwhole]; rfl)]
  · refine congrArg (fun v : State => v.reply c Status.done 0 0) (if_neg fun hboth => ?_)
    obtain ⟨hrot, hall⟩ := (Bool.and_eq_true _ _).mp hboth
    exact hnot.elim (fun h => absurd (hrot.symm.trans h) (by decide)) fun h => h ((everySlice_iff t).mp hall)

/-- RETIRE_ARRAY of a place that serves no index, or of an array out of work, only records it. -/
theorem retireArrayRun_unmapped {b : State} {core string position : Nat} (c : CmdRef) (hcore : core ≤ 8)
    (hstring : string ≤ 31) (hposition : position ≤ 129)
    (hidle : b.indexAt core string position = none ∨ (b.array core string position).state ≠ 0) :
    retireArrayRun core string position c b =
      (if (b.array core string position).state = 3 then b else b.recordArray core string position).reply c
        Status.done 0 0 := by
  unfold retireArrayRun
  rw [if_neg (by simp; omega)]
  cases hindex : b.indexAt core string position with
  | none => rfl
  | some i => exact if_pos (hidle.resolve_left (by simp [hindex]))

/-- RETIRE_ARRAY of a working array that backs an index: it joins a switch, or takes a spare, or finds none. -/
theorem retireArrayRun_mapped {b : State} {core string position i : Nat} (c : CmdRef) (hcore : core ≤ 8)
    (hstring : string ≤ 31) (hposition : position ≤ 129) (hindex : b.indexAt core string position = some i)
    (hstate : (b.array core string position).state = 0) :
    retireArrayRun core string position c b =
      if b.remapWaits core string i then b.queueRemap core string i position (some c)
      else match b.nextSpare core string with
        | none => (b.retireNoSpare core string position i).reply c Status.done 0 0
        | some p =>
          if b.leavesService core && !b.writtenIndex core i then
            (b.mapSpare core string p).queueRemap core string i p (some c)
          else if (b.core core).role = 0 && b.servesBay core && !b.writtenIndex core i then
            (b.takeSpare core string i p).queueRemap core string i p (some c)
          else
            (((if (b.core core).role = 3 || b.writtenIndex core i then
                (b.mapSpare core string p).writeIndex core string i p else b.mapSpare core string p).setRemap core string
              i p).recordArray core string position).reply c Status.done 0 0 := by
  unfold retireArrayRun
  rw [if_neg (by simp; omega)]
  simp only [hindex]
  rw [if_neg (by simp [hstate])]
  cases b.nextSpare core string <;> rfl

/-- Only a core in service leaves service. -/
theorem State.role_of_leavesService {s : State} {core : Nat} (h : s.leavesService core = true) :
    (s.core core).role = 0 := by
  simp only [State.leavesService, Bool.and_eq_true, decide_eq_true_eq] at h
  exact h.1

/-- Settles O32, command by command. -/
theorem coreCommands : Obligations.CoreCommands := by
  refine ⟨?period, ?rotate, ?unfence, ?exhaustion, ?retire⟩
  case period =>
    intro h period s hstart hperiod b
    exact (next_cmd_started hstart _).trans (congrArg _ (setPeriodRun_done _ b hperiod))
  case rotate =>
    intro h s hstart b c
    have hcmd : exec (.rotateNow h) s = .next (rotateNowRun c b) := next_cmd_started hstart _
    rw [hcmd]
    refine ⟨fun g hg => ?_, ?begins, fun hnone hbad => congrArg _ (rotateNowRun_refused c hnone hbad)⟩
    · simp only [rotateNowRun, hg]
    case begins =>
      intro out inc hnone hout hinc hrot hheld t g
      simp only [rotateNowRun, hnone, hout, hinc]
      rw [if_neg (by rw [hrot, hheld]; decide)]
      rfl
  case unfence =>
    intro h core s hstart hcore b c
    have hcmd : exec (.unfence h core) s = .next (unfenceRun core c b) := next_cmd_started hstart _
    have hrange : ¬ core > 8 := by omega
    rw [hcmd]
    refine ⟨fun hrole => ?_, fun hrole hkept => ?_, ?fenced⟩
    · unfold unfenceRun
      rw [if_neg hrange, if_pos hrole]
    · unfold unfenceRun
      rw [if_neg hrange, if_neg (by simp [hrole]), if_pos (by simpa using hkept)]
    case fenced =>
      intro hrole hreason htoll t whole
      obtain ⟨hscrub, hrest⟩ := unfenceRun_fenced c hcore hrole hreason htoll
      exact ⟨fun hrot hwhole => congrArg _ (hscrub hrot hwhole), fun hnot => congrArg _ (hrest hnot)⟩
  case exhaustion =>
    intro h policy s hstart hpolicy b
    exact (next_cmd_started hstart _).trans (congrArg _ (if_neg (by omega)))
  case retire =>
    intro h core string position s hstart hcore hstring hposition b c a
    have hcmd : exec (.retireArray h core string position) s = .next (retireArrayRun core string position c b) :=
      next_cmd_started hstart _
    rw [hcmd]
    refine ⟨fun i hindex hstate hwaits => congrArg _ ?joins, ?spare, fun i hindex hstate hwaits hnone => congrArg _ ?none,
      fun hidle => congrArg _ (retireArrayRun_unmapped c hcore hstring hposition hidle)⟩
    case joins => rw [retireArrayRun_mapped c hcore hstring hposition hindex hstate, if_pos hwaits]
    case none =>
      rw [retireArrayRun_mapped c hcore hstring hposition hindex hstate, if_neg (by simp [hwaits]), hnone]
    case spare =>
      intro i p hindex hstate hwaits hspare t written
      have hrun := retireArrayRun_mapped c hcore hstring hposition hindex hstate
      rw [if_neg (by simp [hwaits]), hspare] at hrun
      rw [hrun]
      refine ⟨fun hleaves hwritten => ?_, fun hstays hrole hserves hwritten => ?_, fun hwrites => ?_,
        fun hwritten hidle => ?_⟩
      · exact congrArg _ (if_pos (by rw [hleaves, show b.writtenIndex core i = false from hwritten]; rfl))
      · refine congrArg _ ((if_neg (by simp [hstays])).trans (if_pos ?_))
        rw [hrole, hserves, show b.writtenIndex core i = false from hwritten]
        rfl
      · have hwait : ¬ ((b.core core).role = 0 ∧ b.writtenIndex core i = false) := fun ⟨hrole, hnot⟩ =>
          hwrites.elim (fun h3 => absurd (hrole.symm.trans h3) (by decide))
            fun hw => absurd (hnot.symm.trans hw) (by decide)
        refine congrArg _ ((if_neg fun hboth => ?_).trans ((if_neg fun hboth => ?_).trans ?_))
        · simp only [Bool.and_eq_true, Bool.not_eq_true'] at hboth
          exact hwait ⟨State.role_of_leavesService hboth.1, hboth.2⟩
        · simp only [Bool.and_eq_true, Bool.not_eq_true', decide_eq_true_eq] at hboth
          exact hwait ⟨hboth.1.1, hboth.2⟩
        · rw [if_pos (by simpa using hwrites)]
          rfl
      · have hnot : b.writtenIndex core i = false := hwritten
        refine congrArg _ ((if_neg fun hboth => ?_).trans ((if_neg fun hboth => ?_).trans ?_))
        · simp only [Bool.and_eq_true] at hboth
          have hrole := State.role_of_leavesService hboth.1
          simp [hrole, hboth.1] at hidle
        · simp only [Bool.and_eq_true, decide_eq_true_eq] at hboth
          obtain ⟨⟨hrole, hserves⟩, -⟩ := hboth
          simp [hrole, hserves] at hidle
        · have hrole : (b.core core).role ≠ 3 := by omega
          rw [if_neg (by simp [hrole, hnot])]
          rfl

end Sys2Proof.Machine
end

section
/-! PROOF. Calibration and rest rotation: obligation O33. -/

namespace Sys2Proof.Machine

theorem State.elapsed_iff (s : State) (start span : Nat) : s.elapsed start span = true ↔ start + span ≤ s.mls.uptime :=
  decide_eq_true_iff

/-- A background visit waits for its calibration firings, then moves the trims (R63 to R66). -/
theorem bgCalVisit_cases (s : State) (core string position : Nat) (first retry : List CalMeasure)
    (hrails : s.power.railsOn = true) (hcore : core ≤ 8) (hstring : string ≤ 31) (hposition : position ≤ 129)
    (hrole : (s.core core).role = 0) :
    let a := s.array core string position
    let redo := first.zipIdx.any fun p => calLarge (columnStep a p.2) p.1
    let need := if redo = true then 54 else 27
    let n := calSaturated a (if redo = true then first ++ retry else first)
    let t := s.setArray core string position { a with
      calFired := 0, calRetries := if redo = true then min (a.calRetries + 1) 65535 else a.calRetries }
    let u := if n = 0 then t else t.countPrescaled 0x0001 core 0 0 0 16 n
    (need ≤ a.calFired → exec (.bgCalVisit core string position first retry) s =
      .next ((u.visitColumns core string position first (if redo = true then retry else [])).markVisited core string
        position)) ∧
    (a.calFired < need → exec (.bgCalVisit core string position first retry) s = .next s) := by
  intro a redo need n t u
  refine ⟨fun hmade => if_neg fun hwaits => ?_, fun hless => if_pos ?_⟩
  · have hless : a.calFired < need := by
      simpa [hrails, hrole, Nat.not_lt.mpr hcore, Nat.not_lt.mpr hstring, Nat.not_lt.mpr hposition] using hwaits
    omega
  · exact (Bool.or_eq_true _ _).mpr (.inr (decide_eq_true hless))

/-- A load that ends with its array list and probes as they are (R70). -/
theorem handoverLoadEnd_cases {s : State} {g : Handover} {slice : Nat} (first second : List (Nat × Nat))
    (hhandover : s.cores.handover = some g) (hload : g.loaded = false)
    (hslice : (s.core g.incoming).slice = some slice) :
    let t := ((s.readSliceStaging slice).initArrays g.incoming).loadSlice slice g.incoming
    let again := second.filter first.contains
    let u := again.foldl (fun v p => v.probeDisagrees g.incoming p.1 p.2)
      (first.foldl (fun v p => (v.probeDisagrees g.incoming p.1 p.2).rewriteArray g.incoming p.1 p.2)
        (t.countFirings g.incoming (t.loadedArrays slice + first.length)))
    (again = [] → exec (.handoverLoadEnd first second) s =
      if u.bays.bay.any fun b => b.2.seated.isSome && bitOf b.2.sliceMask slice then
        .next { u with cores := { u.cores with handover := some { g with loaded := true } } }
      else .next (u.swapRoles { g with loaded := true })) ∧
    (∀ st p rest, again = (st, p) :: rest →
      let v := (again.foldl (fun v q => v.probeFailed g.incoming q.1 q.2) u).abandonHandover.event 0 0x0103 g.incoming
        (g.outgoing.getD 255 + 256 * st + 65536 * p)
      exec (.handoverLoadEnd first second) s = .next (if g.forFence then v.loseSlice slice g.incoming else v)) := by
  intro t again u
  have hexec : exec (.handoverLoadEnd first second) s = execHandoverLoadEnd first second s := rfl
  rw [hexec]
  unfold execHandoverLoadEnd
  rw [hhandover]
  simp -zeta only [hload, hslice]
  extract_lets
  refine ⟨?well, ?failed⟩
  case well =>
    intro hagain
    clear_value again
    subst hagain
    rfl
  case failed =>
    intro st p rest hagain v
    clear_value again
    subst hagain
    rfl

/-- Settles O33, event by event. -/
theorem calibrationAndRotation : Obligations.CalibrationAndRotation := by
  refine ⟨bgCalVisit_cases, ?overdue, ?pass, ?stale, ?rest, ?load⟩
  case overdue =>
    intro s core hcore hrole hfirst htime
    refine if_neg ?_
    simp [hcore, hrole, hfirst, (s.elapsed_iff _ _).mpr htime]
  case pass =>
    intro s core results hrails hcore hrole d u
    have hexec : exec (.fullCalPass core results) s = execFullCalPass core results s := rfl
    rw [hexec, execFullCalPass]
    refine ⟨fun hdue => ?_, fun hdue => if_pos (by simp [hdue])⟩
    rw [if_neg (by simp [hrails, hrole, hcore, hdue]), show s.draw = (s.free, d) from rfl]
    dsimp -zeta only
    extract_lets
    clear_value u
    rfl
  case stale =>
    intro s core hcore hrole hfirst hrot since htime
    refine if_neg ?_
    have hthirty : s.elapsed since thirtyDays = true := (s.elapsed_iff _ _).mpr (by unfold thirtyDays; omega)
    have hthirty' : s.elapsed ((s.core core).lastFullCal.getD 0) thirtyDays = true := hthirty
    simp [hcore, hrole, hfirst, hrot, hthirty']
  case rest =>
    intro s out inc hrot hrails hnone htime hinc hfinal t hout
    have hexec : exec .restPeriodEnd s = if t.rotationHeld out then .next t else .next (t.beginHandover out inc []) := by
      refine (if_neg ?_).trans ?_
      · simp [hrot, hrails, hnone, hinc, hfinal, (s.elapsed_iff _ s.restNs).mpr htime]
      · have hinc' : t.restingCore = some inc := hinc
        change (match t.outgoingCore, t.restingCore with
          | some out, some inc =>
            if t.rotationHeld out then Host.Outcome.next t else Host.Outcome.next (t.beginHandover out inc [])
          | _, _ => Host.Outcome.next t) = _
        rw [hout, hinc']
    rw [hexec]
    exact ⟨fun h => if_neg (by simp [h]), fun h => if_pos h⟩
  case load =>
    intro s g slice first second hhandover hload hslice t again u seated
    obtain ⟨hwell, hfailed⟩ := handoverLoadEnd_cases first second hhandover hload hslice
    have hseated : seated ↔ (u.bays.bay.any fun b => b.2.seated.isSome && bitOf b.2.sliceMask slice) = true := by
      simp only [List.any_eq_true, Bool.and_eq_true]
      exact Iff.rfl
    exact ⟨fun hagain hon => (hwell hagain).trans (if_pos (hseated.mp hon)),
      fun hagain hoff => (hwell hagain).trans (if_neg (mt hseated.mpr hoff)), hfailed⟩

end Sys2Proof.Machine
end

section
/-! PROOF. Firings of the arrays: obligation O34. -/

namespace Sys2Proof.Machine

/-- A core makes a firing exactly where its role and the firing's kind allow it (R48, R52, R68, R70, R379). -/
theorem State.fires_iff (s : State) (f : Firing) :
    s.fires f = true ↔ s.power.railsOn = true ∧ s.sequencerDown f.core = false ∧ f.core ≤ 8 ∧
    f.string ≤ 31 ∧ f.position ≤ 129 ∧ roleFires (s.core f.core).role f.kind = true ∧
    (f.kind = .data → ∃ e, s.dataEntry f = some e) ∧
    (f.kind = .probe → ∃ g, s.cores.handover = some g ∧ g.loaded = true ∧ g.incoming = f.core) ∧
    (f.kind = .keepWarm → (s.lastSecond id (s.core f.core).recentWarm).length < s.serviceRate) ∧
    (f.kind = .filler → s.power.smoothing = true) := by
  cases hkind : f.kind with
  | data => simp [State.fires, hkind, Option.isSome_iff_exists, and_assoc]
  | probe => simp [State.fires, hkind, Option.any_eq_true, and_assoc]
  | keepWarm => simp [State.fires, hkind, and_assoc]
  | filler => simp [State.fires, hkind, and_assoc]
  | calibration => simp [State.fires, hkind, and_assoc]

theorem execArrayFiring_idle {s : State} {f : Firing} (h : s.fires f = false) : exec (.arrayFiring f) s = .next s :=
  if_pos (by simp [h])

/-- A firing that the core makes is answered by its kind, its group and the room it finds (R38 to R48). -/
theorem execArrayFiring_fires {s : State} {f : Firing} (h : s.fires f = true) :
    exec (.arrayFiring f) s =
      if f.kind ≠ .calibration ∧ groupNaN (s.inputOf f).1 = true ∨
          s.mayFire f.core f.string f.position (f.kind = .calibration) = true then
        if f.kind = .calibration then .next (s.fireCalibration f) else .next (s.fireGroup f)
      else .next s := by
  have hexec : exec (.arrayFiring f) s = execArrayFiring f s := rfl
  rw [hexec]
  unfold execArrayFiring
  by_cases hkind : f.kind = .calibration
  · cases hroom : s.mayFire f.core f.string f.position true <;> simp [h, hkind, hroom]
  · cases groupNaN (s.inputOf f).1
    · cases hroom : s.mayFire f.core f.string f.position false <;> simp [h, hkind, hroom]
    · simp [h, hkind]

/-- A group without a NaN scale is aligned and fired (R39, R41). -/
theorem State.fireGroup_aligned {s : State} {f : Firing} (h : groupNaN (s.inputOf f).1 = false) :
    let i := s.inputOf f
    let tile := if f.kind = .data then (s.dataEntry f).map fun e => tileRef f e.1 e.2 else none
    let al := alignGroup i.1
    s.fireGroup f = (if newGroup f = true ∧ al.2.2 ≠ 0 then i.2.count 0x0001 f.core 0 0 0 24 al.2.2
      else i.2).fireAligned f tile al.1 al.2.1 := by
  unfold State.fireGroup
  revert h
  obtain ⟨g, u⟩ := s.inputOf f
  intro h i tile al
  have hnum : groupNaN g = false := h
  simp only [hnum, Bool.false_eq_true, if_false, Bool.and_eq_true, decide_eq_true_eq]
  rfl

/-- Settles O34: the firing by its kind and group, the re-fire by its slot. -/
theorem firings : Obligations.Firings := by
  refine ⟨?fires, fun s f => execArrayFiring_idle, State.fires_iff, ?fenced, ?service, ?refire⟩
  case fires =>
    intro s f h i tile al room
    rw [execArrayFiring_fires h]
    refine ⟨fun hkind hnan => ?_, fun hkind hnum hroom => ?_, fun hkind hroom => ?_, fun hwhole hroom => ?_⟩
    · rw [if_pos (.inl ⟨hkind, hnan⟩), if_neg hkind]
      exact congrArg _ (if_pos hnan)
    · rw [if_pos (.inr hroom), if_neg hkind]
      exact congrArg _ (State.fireGroup_aligned hnum)
    · rw [if_pos (.inr hroom), if_pos hkind]
    · refine if_neg fun hgo => ?_
      obtain ⟨hkind, hnan⟩ | hgo := hgo
      · exact hwhole.elim hkind fun hnum => absurd (hnan.symm.trans hnum) (by decide)
      · exact absurd (hgo.symm.trans hroom) (by decide)
  case fenced => intro k; cases k <;> rfl
  case service =>
    intro role hdata
    unfold roleFires at hdata
    split at hdata <;> simp_all
  case refire =>
    intro s core string position p hfind
    have hexec : exec (.refire core string position) s =
        if p.slot < s.slotNow && s.mayFire core string p.standby false then .next (s.makeRefire p) else .next s := by
      have hrun : exec (.refire core string position) s = execRefire core string position s := rfl
      rw [hrun, execRefire, hfind]
    rw [hexec]
    refine ⟨fun hslot hroom => if_pos (by simp [hslot, hroom]), fun hwait => if_neg fun hgo => ?_⟩
    simp only [Bool.and_eq_true, decide_eq_true_eq] at hgo
    obtain ⟨hslot, hroom⟩ := hgo
    exact hwait.elim (fun h => by omega) fun h => absurd (hroom.symm.trans h) (by decide)

end Sys2Proof.Machine
end

section
/-! PROOF. Bales and bays: obligations O38 and O39. -/

namespace Sys2Proof.Machine

theorem seatMode_eq (bay : Bay) (mode : Nat) :
    seatMode bay mode = decide (mode = 1 ∨ (mode = 2 ∧ bay.swapMode = 1)) := by
  simp [seatMode]

/-- Settles O38, command by command. -/
theorem baleCommands : Obligations.BaleCommands := by
  refine ⟨?load, ?missing, ?seat, ?unseat, ?discard, ?define⟩
  case load =>
    intro h source tier index store bale l s hstart hsource htier hindex b c hpayload hlibrary j
    have hcmd : exec (.loadBale h source tier store index bale) s =
      .next (loadBaleRun h source tier store index bale c b) := next_cmd_started hstart _
    have hrange : (decide (source > 1) || decide (tier > 2) || (decide (source = 1) && decide (index > 1023))) =
        false := by
      simp
      omega
    have hbale : (if source = 1 then b.libraryBale index h.fn else some bale) = some l := by
      split_ifs with hone
      · exact hlibrary hone
      · rw [hpayload (by omega)]
    rw [hcmd]
    unfold loadBaleRun
    rw [if_neg (by rw [hrange]; decide), hbale]
  case missing =>
    intro h tier index store bale s hstart hnone
    refine (next_cmd_started hstart _).trans ?_
    unfold loadBaleRun
    rw [if_pos rfl, hnone]
    exact congrArg _ (ite_self _)
  case seat =>
    intro h handle n mode s bay hstart b c hbay
    have hcmd : exec (.seatBale h handle n mode) s = .next (seatBaleRun h handle n mode c b) :=
      next_cmd_started hstart _
    rw [hcmd]
    unfold seatBaleRun
    rw [hbay]
    refine ⟨fun hother => congrArg _ (if_pos hother), fun hown hmode => congrArg _ ?_⟩
    rw [← seatMode_eq]
    exact (if_neg (not_not_intro hown)).trans (if_neg (by omega))
  case unseat =>
    intro h n mode discard delete s bay hstart b c hbay
    have hcmd : exec (.unseatBale h n mode discard delete) s = .next (unseatBaleRun h n mode discard delete c b) :=
      next_cmd_started hstart _
    rw [hcmd]
    unfold unseatBaleRun
    rw [hbay]
    refine ⟨fun hother => congrArg _ (if_pos hother), fun hown hmode => congrArg _ ?_⟩
    rw [← seatMode_eq]
    exact (if_neg (not_not_intro hown)).trans (if_neg (by omega))
  case discard =>
    intro h handle discard delete s g hstart b c same hstaged hown later
    have hcmd : exec (.unseatBaleDiscard h handle discard delete) s =
      .next (unseatBaleDiscardRun h handle discard delete c b) := next_cmd_started hstart _
    rw [hcmd]
    refine ⟨fun hload => congrArg _ ?_, fun hnone => ?_⟩
    · unfold unseatBaleDiscardRun
      rw [hstaged]
      exact (if_neg (not_not_intro hown)).trans (if_pos (List.any_eq_true.mpr hload))
    · have hquiet : b.bays.loads.any same = false := List.any_eq_false.mpr fun j hj => by simp [hnone j hj]
      have hrun : unseatBaleDiscardRun h handle discard delete c b = b.runDiscard handle discard delete c := by
        unfold unseatBaleDiscardRun
        rw [hstaged]
        exact (if_neg (not_not_intro hown)).trans (if_neg fun hload => absurd (hload.symm.trans hquiet) (by decide))
      rw [hrun]
      unfold State.runDiscard
      refine ⟨fun hdiscard huse => congrArg _ (if_pos (by rw [hdiscard, huse]; rfl)), fun hfree => ?_⟩
      refine congrArg _ (if_neg fun hboth => ?_)
      obtain ⟨hdiscard, huse⟩ := (Bool.and_eq_true _ _).mp hboth
      exact hfree.elim (fun h => absurd (hdiscard.symm.trans h) (by decide))
        fun h => absurd (huse.symm.trans h) (by decide)
  case define =>
    intro h p s l hstart hok b c
    have hcmd : exec (.defineBay h p) s = .next (defineBayRun p c b) := next_cmd_started hstart _
    rw [hcmd]
    unfold defineBayRun
    refine ⟨fun hper hmask halloc hfree howner => congrArg _ ?_, fun bay hper hbay hempty hidle howner => congrArg _ ?_⟩
    · rw [if_neg (by rw [hok]; decide), if_neg (by omega)]
      dsimp only
      rw [halloc]
      exact (if_neg (by simp [hfree])).trans ((if_neg (by simp [howner])).trans (if_neg (by omega)))
    · rw [if_neg (by rw [hok]; decide), if_pos hper]
      unfold State.deleteBay
      rw [hbay]
      refine (if_neg (by simp [hempty])).trans ((if_neg (by simp [howner])).trans ?_)
      rw [hidle]
      rfl

/-- A load leaves its list when its copy ends, and its outcome follows (Table 04-8). -/
theorem loadBaleCopyDone_finishes {s : State} {fn ring tag : Nat} {j : LoadJob} (hrun : s.customs.restarting = false)
    (hdrover : s.droverDown = false)
    (hfind : s.bays.loads.find? (fun j => j.ref.fn = fn && j.ref.ring = ring && j.ref.tag = tag) = some j)
    (hlast : j.discards = []) :
    exec (.loadBaleCopyDone fn ring tag) s = .next (({ s with bays := { s.bays with
      loads := s.bays.loads.filter fun x => x.ref ≠ j.ref } } : State).finishLoad j) := by
  have hexec : exec (.loadBaleCopyDone fn ring tag) s = execLoadBaleCopyDone fn ring tag s := rfl
  rw [hexec, execLoadBaleCopyDone, hfind]
  refine (if_neg (by simp [hrun, hdrover])).trans (congrArg _ ?_)
  rw [hlast]
  split <;> rfl

/-- The writes of a seating end on a bay whose drained job may write: the staging copy decides (R97, R98). -/
theorem seatWritesDone_ends {s : State} {n handle : Nat} {bay : Bay} {j : SeatJob} {rest : List SeatJob} {g : Staged}
    (probes : ProbeFails) (hbay : s.bay n = some bay) (hjobs : bay.jobs = j :: rest) (hhandle : j.handle = some handle)
    (hstaged : s.stagedBale handle = some g) (hstop : j.stopped = true) (hdrained : s.drained n bay j = true)
    (hhandover : s.cores.handover = none) (hdrover : s.droverDown = false) (htier : g.tier ≠ 2) :
    let t := s.readStaging handle
    exec (.seatWritesDone n probes) s = match t.jobRefusal n bay j with
      | some status => .next (t.seatRefused n status bay j rest)
      | none => .next ((((t.writeBay bay g.bale).probeBay n probes.first probes.second).switchBay n handle j rest
          g.bale).settleJobs n rest.length) := by
  have hexec : exec (.seatWritesDone n probes) s = execSeatWritesDone n probes s := rfl
  rw [hexec, execSeatWritesDone]
  simp only [hbay, hjobs, hhandle, Option.bind_some, hstaged]
  exact if_neg (by simp [hstop, hdrained, hhandover, hdrover, htier])

/-- A drained bay is left empty, and its unseating ends (R100). -/
theorem bayEmptied_ends {s : State} {n : Nat} {bay : Bay} {j : SeatJob} {rest : List SeatJob} (hbay : s.bay n = some bay)
    (hjobs : bay.jobs = j :: rest) (hhandle : j.handle = none) (hstop : j.stopped = true)
    (hdrained : s.drained n bay j = true) (hdrover : s.droverDown = false)
    (hload : j.discard = true → ∀ h, bay.seated = some h → s.loading h = false) :
    exec (.bayEmptied n) s = .next ((((s.dropSums n).setBay n { bay with
      seated := none, bale := none, stages := [], jobs := rest, own := [], attention := [], projection := [] }).finishUnseat
        j bay.seated).settleJobs n rest.length) := by
  have hexec : exec (.bayEmptied n) s = execBayEmptied n s := rfl
  have hquiet : (j.discard && bay.seated.any s.loading) = false := by
    cases hdiscard : j.discard with
    | false => rfl
    | true =>
      cases hseated : bay.seated with
      | none => rfl
      | some h => exact hload hdiscard h hseated
  rw [hexec, execBayEmptied]
  simp only [hbay, hjobs]
  rw [if_neg (by simp [hhandle, hstop, hdrained, hdrover, hquiet])]

/-- A bay with AUTO_SWAP may swap MIN_DWELL after its last seating (R103). -/
theorem mayAutoSwap_rested {s : State} {bay : Bay} (hauto : bay.autoSwap = true)
    (hdwell : ∀ t, bay.lastSeat = some t → t + 1000000 * bay.minDwell ≤ s.mls.uptime) : s.mayAutoSwap bay = true := by
  unfold State.mayAutoSwap
  rw [hauto, Bool.true_and]
  cases hlast : bay.lastSeat with
  | none => rfl
  | some t =>
    have hrested : s.elapsed t (bay.minDwell * 1000000) = true :=
      (s.elapsed_iff _ _).mpr (by rw [Nat.mul_comm]; exact hdwell t hlast)
    exact hrested

/-- The seating that AUTO_SWAP adds where a bale waits (R103). -/
def State.addSwap (s : State) (n : Nat) (bay : Bay) (target : Option Nat) : State :=
  match target with
  | none => s
  | some h => s.addJob n
    { ref := none, auto := true, handle := some h, preempt := decide (bay.swapMode = 1), discard := false,
      deleteLibrary := false, started := 0, previous := none, stopped := false }

theorem autoSwap_cases {s : State} {n : Nat} {bay : Bay} (hbay : s.bay n = some bay) (hmay : s.mayAutoSwap bay = true)
    (hidle : bay.jobs = []) (hdrover : s.droverDown = false) (hwrites : s.writesRings = true)
    (hstay : s.power.leaving = none) : exec (.autoSwap n) s = .next (s.addSwap n bay (s.swapTarget n bay)) := by
  have hexec : exec (.autoSwap n) s = execAutoSwap n s := rfl
  rw [hexec, execAutoSwap, hbay]
  refine (if_neg (by simp [hmay, hidle, hdrover, hwrites, hstay])).trans ?_
  cases s.swapTarget n bay <;> rfl

/-- Settles O39, event by event. -/
theorem bayEvents : Obligations.BayEvents := by
  refine ⟨?copied, ?written, ?emptied, ?swapped⟩
  case copied =>
    intro s fn ring tag j hrun hdrover hfind hlast b
    rw [loadBaleCopyDone_finishes hrun hdrover hfind hlast]
    unfold State.finishLoad
    refine ⟨fun hversion => congrArg _ (if_pos (by simp [hversion])), fun hversion hcontent => congrArg _ ?_,
      fun hversion hcontent => congrArg _ ?_⟩
    · exact (if_neg (by simp [hversion])).trans (if_pos (by simp [hcontent]))
    · exact (if_neg (by simp [hversion])).trans (if_neg (by simp [hcontent]))
  case written =>
    intro s n handle bay j rest g first second hbay hjobs hhandle hstaged hstop hdrained hhandover hdrover htier t
    have hexec := seatWritesDone_ends ⟨first, second⟩ hbay hjobs hhandle hstaged hstop hdrained hhandover hdrover htier
    refine ⟨fun hfine => hexec.trans ?_, fun status hrefused => hexec.trans ?_⟩
    · rw [show (s.readStaging handle).jobRefusal n bay j = none from hfine]
    · rw [show (s.readStaging handle).jobRefusal n bay j = some status from hrefused]
  case emptied =>
    intro s n bay j rest hbay hjobs hhandle hstop hdrained hdrover hload t time
    have hexec := bayEmptied_ends hbay hjobs hhandle hstop hdrained hdrover hload
    refine ⟨fun hempty => hexec.trans ?_, fun h hseated hdiscard huse => hexec.trans ?_,
      fun h hseated hfree => hexec.trans ?_⟩
    · rw [hempty]
      rfl
    · rw [hseated]
      refine congrArg (fun v : State => Host.Outcome.next (v.settleJobs n rest.length)) (if_pos ?_)
      exact (Bool.and_eq_true _ _).mpr ⟨hdiscard, huse⟩
    · rw [hseated]
      refine congrArg (fun v : State => Host.Outcome.next (v.settleJobs n rest.length)) (if_neg fun hboth => ?_)
      obtain ⟨hdiscard, huse⟩ := (Bool.and_eq_true _ _).mp hboth
      exact hfree.elim (fun h => absurd (hdiscard.symm.trans h) (by decide))
        fun h => absurd (huse.symm.trans h) (by decide)
  case swapped =>
    intro s n bay hbay hauto hidle hdwell hdrover hwrites hstay
    have hexec := autoSwap_cases hbay (mayAutoSwap_rested hauto hdwell) hidle hdrover hwrites hstay
    refine ⟨fun h htarget => hexec.trans ?_, fun hnone => hexec.trans ?_⟩
    · rw [htarget]
      rfl
    · rw [hnone]
      rfl

end Sys2Proof.Machine
end

section
/-! PROOF. Context commands: obligation O42. -/

namespace Sys2Proof.Machine

/-- A context command on a context of its own function acts on it (R133). -/
theorem State.onCtx_own {s : State} {h : Hdr} {n : Nat} {x : Ctx} (c : CmdRef) (k : State → State)
    (hx : s.ctx n = some x) (hown : x.tenant = h.fn) : s.onCtx h n c k = k s := by
  unfold State.onCtx
  rw [hx]
  exact if_neg (not_not_intro hown)

theorem State.onCtx_unknown {s : State} {n : Nat} (h : Hdr) (c : CmdRef) (k : State → State) (hx : s.ctx n = none) :
    s.onCtx h n c k = s.reply c Status.badParam 0 0 := by
  unfold State.onCtx
  rw [hx]

theorem State.onCtx_foreign {s : State} {h : Hdr} {n : Nat} {x : Ctx} (c : CmdRef) (k : State → State)
    (hx : s.ctx n = some x) (hother : x.tenant ≠ h.fn) : s.onCtx h n c k = s.reply c Status.notPermitted 0 0 := by
  unfold State.onCtx
  rw [hx]
  exact if_pos hother

theorem State.waitOn_some {s : State} {n : Nat} {x : Ctx} (w : Waiter) (hx : s.ctx n = some x) :
    s.waitOn n w = s.setCtx n { x with waiters := x.waiters ++ [w] } := by
  unfold State.waitOn
  rw [hx]

/-- FORK_CONTEXT by the context's state (Table 05-8). -/
theorem State.doFork_cases {s : State} {n : Nat} {x : Ctx} (c : CmdRef) (position : Nat) (hx : s.ctx n = some x) :
    (x.state = 0 → x.flush = none → s.doFork c n position = s.forkNow c position x) ∧
    ((x.state = 0 ∧ x.flush.isSome = true ∨ x.state = 3) →
      s.doFork c n position = s.setCtx n { x with waiters := x.waiters ++ [.fork c position] }) ∧
    ((x.state = 1 ∨ x.state = 2) → s.doFork c n position = s.reply c Status.notPermitted 0 0) ∧
    (x.state = 4 → s.doFork c n position = s.reply c Status.contextExpired 0 0) := by
  have hwait := State.waitOn_some (Waiter.fork c position) hx
  simp only [State.doFork, hx]
  refine ⟨fun h0 hflush => ?_, fun hbusy => ?_, fun hpause => ?_, fun h4 => ?_⟩
  · simp [h0, hflush]
  · obtain ⟨h0, hflush⟩ | h3 := hbusy
    · simp [h0, hflush, hwait]
    · simp [h3, hwait]
  · obtain h1 | h2 := hpause
    · simp [h1]
    · simp [h2]
  · simp [h4]

/-- PAUSE_CONTEXT by the context's state (Table 05-8). -/
theorem State.doPause_cases {s : State} {n : Nat} {x : Ctx} (c : CmdRef) (ttl : Nat) (hx : s.ctx n = some x) :
    (x.state = 0 → s.extendHeld n = false → x.flush = none → s.doPause c n ttl =
      s.setCtx n { x with state := 1, ttl := ttl, move := some c }) ∧
    (x.state = 0 → s.extendHeld n = true → s.doPause c n ttl = s.reply c Status.notPermitted 0 0) ∧
    (x.state = 2 → s.doPause c n ttl = (s.setCtx n { x with ttl := ttl, ttlEnd := s.ttlFrom ttl }).reply c
      Status.done 0 (x.inTier 0).length) := by
  simp only [State.doPause, hx]
  refine ⟨fun h0 hheld hflush => ?_, fun h0 hheld => ?_, fun h2 => ?_⟩
  · simp [h0, hheld, hflush, State.pauseNow]
  · simp [h0, hheld]
  · simp [h2]

/-- RESUME_CONTEXT by the context's state (Table 05-8). -/
theorem State.doResume_cases {s : State} {n : Nat} {x : Ctx} (c : CmdRef) (hx : s.ctx n = some x) :
    (x.state = 0 → s.doResume c n = s.reply c Status.done 0 0) ∧
    (x.state = 2 → s.doResume c n = s.resumeNow c n x) ∧
    ((x.state = 1 ∨ x.state = 3) → s.doResume c n = s.setCtx n { x with waiters := x.waiters ++ [.resume c] }) ∧
    (x.state = 4 → s.doResume c n = s.reply c Status.contextExpired 0 0) := by
  have hwait := State.waitOn_some (Waiter.resume c) hx
  simp only [State.doResume, hx]
  refine ⟨fun h0 => ?_, fun h2 => ?_, fun hmoves => ?_, fun h4 => ?_⟩
  · simp [h0]
  · simp [h2]
  · obtain h1 | h3 := hmoves
    · simp [h1, hwait]
    · simp [h3, hwait]
  · simp [h4]

/-- CLOSE_CONTEXT by the context's state (Table 05-8). -/
theorem State.doClose_cases {s : State} {n : Nat} {x : Ctx} (c : CmdRef) (hx : s.ctx n = some x) :
    ((x.state = 1 ∨ x.state = 3 ∨ (x.state = 0 ∧ x.flush.isSome = true)) →
      s.doClose c n = s.setCtx n { x with waiters := x.waiters ++ [.close c] }) ∧
    (x.state ≠ 1 → x.state ≠ 3 → (x.state = 0 → x.flush = none) → s.doClose c n = s.closeNow c n x) := by
  have hwait := State.waitOn_some (Waiter.close c) hx
  simp only [State.doClose, hx]
  refine ⟨fun hbusy => ?_, fun h1 h3 hflush => ?_⟩
  · obtain h1 | h3 | ⟨h0, hflush⟩ := hbusy
    · simp [h1, hwait]
    · simp [h3, hwait]
    · simp [h0, hflush, hwait]
  · rw [if_neg (by simp [h1, h3]), if_neg (by simpa using hflush)]

/-- Settles O42: each command by the state of its context. -/
theorem contextCommands : Obligations.ContextCommands := by
  refine ⟨?opens, ?fork, ?pause, ?resume, ?close, ?unknown⟩
  case opens =>
    intro h limit s t hstart hlimit b hfull hroom id
    have hcmd : exec (.openContext h limit) s = .next (openContextRun h limit (cmdRef 0x0201 h s) b) :=
      next_cmd_started hstart _
    rw [hcmd, openContextRun, if_neg (by omega), if_neg (by rw [hfull]; decide), hroom]
  case fork =>
    intro h n position s x hstart b c hx hown
    have hcmd : exec (.forkContext h n position) s = .next (b.doFork c n position) :=
      (next_cmd_started hstart _).trans (congrArg _ (State.onCtx_own _ _ hx hown))
    rw [hcmd]
    obtain ⟨hfork, hwait, hrefused, hexpired⟩ := State.doFork_cases c position hx
    exact ⟨fun h0 hflush => congrArg _ (hfork h0 hflush), fun hbusy => congrArg _ (hwait hbusy),
      fun hpause => congrArg _ (hrefused hpause), fun h4 => congrArg _ (hexpired h4)⟩
  case pause =>
    intro h n ttl s x hstart httl b c ends hx hown
    have hcmd : exec (.pauseContext h n ttl) s = .next (b.doPause c n ttl) :=
      (next_cmd_started hstart _).trans (congrArg _ ((State.onCtx_own _ _ hx hown).trans (if_neg (by omega))))
    rw [hcmd]
    obtain ⟨hpause, hheld, hrenew⟩ := State.doPause_cases c ttl hx
    exact ⟨fun h0 hfree hflush => congrArg _ (hpause h0 hfree hflush), fun h0 hext => congrArg _ (hheld h0 hext),
      fun h2 => congrArg _ (hrenew h2)⟩
  case resume =>
    intro h n s x hstart b c hx hown
    have hcmd : exec (.resumeContext h n) s = .next (b.doResume c n) :=
      (next_cmd_started hstart _).trans (congrArg _ (State.onCtx_own _ _ hx hown))
    rw [hcmd]
    obtain ⟨hopen, hresume, hwait, hexpired⟩ := State.doResume_cases c hx
    exact ⟨fun h0 => congrArg _ (hopen h0), fun h2 => congrArg _ (hresume h2), fun hmoves => congrArg _ (hwait hmoves),
      fun h4 => congrArg _ (hexpired h4)⟩
  case close =>
    intro h n s x hstart b c hx hown
    have hcmd : exec (.closeContext h n) s = .next (b.doClose c n) :=
      (next_cmd_started hstart _).trans (congrArg _ (State.onCtx_own _ _ hx hown))
    rw [hcmd]
    obtain ⟨hwait, hclose⟩ := State.doClose_cases c hx
    refine ⟨fun hbusy => congrArg _ (hwait hbusy), fun h1 h3 hflush => ?_⟩
    rw [hclose h1 h3 hflush]
    unfold State.closeNow
    refine ⟨fun hheld => congrArg _ (if_pos (by simpa using hheld)), fun hfree hunnamed => congrArg _ (if_neg ?_)⟩
    rw [hfree, hunnamed]
    decide
  case unknown =>
    intro h n a op i s hop hstart b c
    have hcmd : ∃ k, exec i s = .next (b.onCtx h n c k) := by
      simp only [List.mem_cons, Prod.mk.injEq, List.not_mem_nil, or_false] at hop
      obtain ⟨rfl, rfl⟩ | ⟨rfl, rfl⟩ | ⟨rfl, rfl⟩ | ⟨rfl, rfl⟩ := hop <;> exact ⟨_, next_cmd_started hstart _⟩
    obtain ⟨k, hcmd⟩ := hcmd
    rw [hcmd]
    exact ⟨fun hx => congrArg _ (State.onCtx_unknown h c k hx), fun x hx hother =>
      congrArg _ (State.onCtx_foreign c k hx hother)⟩

end Sys2Proof.Machine
end

section
/-! PROOF. Context and convoy events: obligation O43. -/

namespace Sys2Proof.Machine

/-- The moves of a pause and of a resume end where the mover may work (R136, R137). -/
theorem moveDone_cases {s : State} {n : Nat} {x : Ctx} {c : CmdRef} (hx : s.ctx n = some x) (hmove : x.move = some c)
    (hmover : s.moverFenced = false) :
    (x.state = 1 → exec (.pauseMoveDone n) s = .next ((s.pauseEnds n x c).runWaiters n)) ∧
    (x.state = 3 → exec (.resumeMoveDone n) s = .next ((s.resumeEnds n x c).runWaiters n)) := by
  have hpause : exec (.pauseMoveDone n) s = execPauseMoveDone n s := rfl
  have hresume : exec (.resumeMoveDone n) s = execResumeMoveDone n s := rfl
  refine ⟨fun h1 => ?_, fun h3 => ?_⟩
  · simp [hpause, execPauseMoveDone, hx, h1, hmove, hmover]
  · simp [hresume, execResumeMoveDone, hx, h3, hmove, hmover]

/-- A frame that a paused context alone holds moves to the waystation where there is room (R136). -/
theorem pausedFrameMove_cases {s : State} {n page : Nat} {x : Ctx} {f : Frame} (hx : s.ctx n = some x)
    (hf : s.frame page = some f) (hstate : x.state = 2) (hmover : s.moverFenced = false) (hin : page ∈ x.inTier 0)
    (hrefs : f.refs = 1) (hdue : f.state ≠ 2) (hnew : page ∉ x.unmoved) :
    (∀ t, s.movePage n page 1 = some t → exec (.pausedFrameMove n page) s = .next t) ∧
    (s.movePage n page 1 = none → exec (.pausedFrameMove n page) s =
      .next (s.setCtx n { x with unmoved := x.unmoved ++ [page] })) := by
  have hexec : exec (.pausedFrameMove n page) s = execPausedFrameMove n page s := rfl
  have hmay : ¬ ((decide (x.state ≠ 2) || s.moverFenced || !(x.inTier 0).contains page || decide (f.refs ≠ 1) ||
      decide (f.state = 2) || x.unmoved.contains page) = true) := by
    simp [hstate, hmover, hin, hrefs, hdue, hnew]
  rw [hexec, execPausedFrameMove, hx, hf]
  refine ⟨fun t hroom => (if_neg hmay).trans ?_, fun hfull => (if_neg hmay).trans ?_⟩
  · rw [hroom]
  · rw [hfull]

/-- A paused context expires once its time to live has ended, and not before (R138). -/
theorem contextExpired_cases {s : State} {n t : Nat} {x : Ctx} (hx : s.ctx n = some x) (hstate : x.state = 2)
    (hends : x.ttlEnd = some t) :
    exec (.contextExpired n) s = if t ≤ s.mls.uptime then .next (s.expireCtx n x) else .next s := by
  have hexec : exec (.contextExpired n) s = execContextExpired n s := rfl
  rw [hexec, execContextExpired]
  simp only [hx, hstate, hends]
  rfl

/-- A flush that finds its frames leaves its context longer by its positions (R128). -/
theorem flushScatterDone_ends {s t u : State} {n : Nat} {x y : Ctx} {f : Flush} {left : List Nat}
    {pages : List (List Nat)} (hx : s.ctx n = some x) (hflush : x.flush = some f)
    (hscatter : (s.readFlush n x.tenant f).scatterLayers f.geometry x.tenant x.family n f.tails f.reserved x.pages
      x.length f.kinds.length 0 f.geometry.2.2.2 = some (pages, left, t)) (hy : t.ctx n = some y)
    (hgrow : ((t.setCtx n (y.flushed f pages)).freeFrames (left ++ f.tails)).growTables y.tenant 64 = some u) :
    exec (.flushScatterDone n) s = .next (u.runWaiters n) := by
  have hexec : exec (.flushScatterDone n) s = execFlushScatterDone n s := rfl
  rw [hexec, execFlushScatterDone]
  simp only [hx, hflush, hscatter, hy, Option.getD_some, hgrow]

/-- The convoy that enters stage 1 at a boundary: a planned one, or a new one where the bay may form it (R152). -/
def State.nextConvoy (s : State) (n : Nat) : State :=
  match s.enterPlanned n, s.bay n with
  | some t, _ => t
  | none, some b => if s.mayForm b then s.formConvoy n else s
  | none, none => s

/-- A boundary that finds the rails on and no stage waiting plans what follows the interval's attention (R152). -/
theorem convoyBoundary_runs {s : State} {n : Nat} (work : List AttnWork) (hrails : s.power.railsOn = true)
    (hbay : (s.bay n).isSome = true) (hwaits : s.stageWaits n = false) :
    let t := ((s.attention n work).dropSums n).advance n
    exec (.convoyBoundary n work) s = if t.droverDown then .next ((t.enterPlanned n).getD t)
      else .next (((t.boundaryChanges n).rereadBay n).nextConvoy n) := by
  have hexec : exec (.convoyBoundary n work) s = execConvoyBoundary n work s := rfl
  have hmay : ¬ ((!s.power.railsOn || (s.bay n).isNone || s.stageWaits n) = true) := by
    simpa [hrails, hwaits] using Option.isSome_iff_ne_none.mp hbay
  rw [hexec, execConvoyBoundary, if_neg hmay]
  intro t
  refine if_congr Iff.rfl rfl ?_
  extract_lets u
  change _ = Host.Outcome.next (u.nextConvoy n)
  clear_value u
  unfold State.nextConvoy
  cases u.enterPlanned n with
  | some v => rfl
  | none =>
    cases u.bay n with
    | none => rfl
    | some b => exact (apply_ite Host.Outcome.next _ _ _).symm

theorem State.nextConvoy_cases (u : State) (n : Nat) :
    (∀ v, u.enterPlanned n = some v → u.nextConvoy n = v) ∧
    (u.enterPlanned n = none → (∃ b, u.bay n = some b ∧ u.mayForm b = true) → u.nextConvoy n = u.formConvoy n) ∧
    (u.enterPlanned n = none → (∀ b, u.bay n = some b → u.mayForm b = false) → u.nextConvoy n = u) := by
  unfold State.nextConvoy
  refine ⟨fun v hplanned => ?_, fun hnone hforms => ?_, fun hnone hnot => ?_⟩
  · rw [hplanned]
  · obtain ⟨b, hb, hform⟩ := hforms
    rw [hnone, hb]
    exact if_pos hform
  · rw [hnone]
    cases hb : u.bay n with
    | none => rfl
    | some b => exact if_neg (by rw [hnot b hb]; decide)

/-- Settles O43, event by event. -/
theorem contextAndConvoyEvents : Obligations.ContextAndConvoyEvents := by
  refine ⟨fun s n x c hx hmove hmover => moveDone_cases hx hmove hmover,
    fun s n page x f hx hf hstate hmover hin hrefs hdue hnew =>
      pausedFrameMove_cases hx hf hstate hmover hin hrefs hdue hnew,
    fun s n t x hx hstate hends => ?expired,
    fun s t u n x y f left pages hx hflush hscatter hy hgrow => flushScatterDone_ends hx hflush hscatter hy hgrow,
    fun s n work hrails hbay hwaits => ?boundary,
    fun s n results b c rest hb hcommits => ?commit⟩
  case expired =>
    have hexec := contextExpired_cases hx hstate hends
    exact ⟨fun hpast => hexec.trans (if_pos hpast), fun hearly => hexec.trans (if_neg (by omega))⟩
  case boundary =>
    have hexec := convoyBoundary_runs work hrails hbay hwaits
    intro t
    refine ⟨fun hdown => hexec.trans (if_pos hdown), fun hup => ?_⟩
    have hrun := hexec.trans (if_neg (by rw [show t.droverDown = false from hup]; decide))
    obtain ⟨hplanned, hforms, hidle⟩ := State.nextConvoy_cases ((t.boundaryChanges n).rereadBay n) n
    exact ⟨fun v hv => hrun.trans (congrArg _ (hplanned v hv)),
      fun hnone hb => hrun.trans (congrArg _ (hforms hnone hb)),
      fun hnone hb => hrun.trans (congrArg _ (hidle hnone hb))⟩
  case commit =>
    have hexec : exec (.convoyCommit n results) s =
        if s.droverDown || !s.power.railsOn then .next s else .next (s.commitConvoy n b c results) := by
      have hrun : exec (.convoyCommit n results) s = execConvoyCommit n results s := rfl
      rw [hrun, execConvoyCommit]
      simp only [hb, hcommits]
    refine ⟨fun hup hrails => hexec.trans (if_neg (by simp [hup, hrails])), fun hdown => hexec.trans (if_pos ?_)⟩
    obtain h | h := hdown <;> simp [h]

end Sys2Proof.Machine
end

section
/-! PROOF. Request commands: obligation O45. -/

namespace Sys2Proof.Machine

/-- A submission that no rule refuses waits for its context, or finds no slot (R143, R149, Table 06-3). -/
theorem State.submit_waits {s : State} {q : Submission} {x : Ctx} {t : Template} (c : CmdRef)
    (href : submitRefusal q x t.body s = none) (hx : s.ctx q.p.context = some x) (hbranch : q.p.branch = true)
    (hbusy : x.state = 3 ∨ x.flush.isSome = true) :
    s.submit q c x t = s.setCtx q.p.context { x with
      waiters := x.waiters ++ [.branch c q.p q.inputs q.tenant q.priority q.spans] } := by
  unfold State.submit
  rw [href]
  refine (if_pos ?_).trans (State.waitOn_some _ hx)
  simpa [hbranch] using hbusy

theorem State.submit_noSlot {s : State} {q : Submission} {x : Ctx} {t : Template} (c : CmdRef)
    (href : submitRefusal q x t.body s = none) (hwait : q.p.branch = false ∨ (x.state ≠ 3 ∧ x.flush = none))
    (hfree : s.slotFree = false) : s.submit q c x t = s.reply c Status.noRequestSlot 0 0 := by
  unfold State.submit
  rw [href]
  refine (if_neg ?_).trans (if_pos (by simp [hfree]))
  obtain hbranch | ⟨hstate, hflush⟩ := hwait
  · simp [hbranch]
  · simp [hstate, hflush]

theorem State.submit_refused {s : State} {q : Submission} {x : Ctx} {t : Template} {st : Nat} (c : CmdRef)
    (href : submitRefusal q x t.body s = some st) : s.submit q c x t = s.reply c st 0 0 := by
  unfold State.submit
  rw [href]

/-- CANCEL_REQUEST of an ID that was given out and is not another function's (R160, R161). -/
theorem cancelRequestRun_own {b : State} {h : Hdr} {id : Nat} {c : CmdRef} (withRecall : Bool)
    (hcopied : c.copied = false) (hslot : id % 65536 < b.reqs.nextSlot)
    (hown : ∀ t, b.requestTenant id = some t → t = h.fn) :
    let t := match b.request id with | some r => b.cancelReq r Status.cancelled | none => b
    let u := if withRecall then t.recall fun st _ rq => rq = id && ((t.stream st).map (·.tenant)) = some h.fn
      else (t, 0, 0)
    cancelRequestRun h id withRecall c b =
      (u.1.sendMarker (.cancel id withRecall)).replyAfterAck c (recallResult u.2.1 u.2.2) withRecall := by
  have hmine : (b.requestTenant id).any (fun t => decide (t ≠ h.fn)) = false := by
    cases htenant : b.requestTenant id with
    | none => rfl
    | some t => simp [hown t htenant]
  intro t u
  unfold cancelRequestRun
  rw [if_neg (by unfold slotOf; omega), if_neg (by rw [hmine]; decide), hcopied]
  simp only [Bool.not_false, Bool.and_true]
  rfl

/-- A template record in range is kept (R145). -/
theorem setSamplingDefineRun_kept {b : State} {h : Hdr} {n : Nat} {r : TemplateRec} {c : CmdRef}
    (hcopied : c.copied = false) (hn : n ≤ 1023) (hown : ∀ t, Map.get? b.reqs.templates n = some t → t.tenant = h.fn)
    (hpayload : 64 ≤ payloadBytes h) (hok : templateOk r = true) (hbay : b.tokenBay r.bay h.fn = true)
    (hbale : b.namedBaleOk r h.fn = true) :
    let kept : Template := { tenant := h.fn, body := templateKept r false }
    setSamplingDefineRun h n 0 r c b = ({ b with reqs := { b.reqs with
      templates := Map.set b.reqs.templates n kept,
      rings := if r.reportBase = 0 then b.reqs.rings else Map.set b.reqs.rings (reportRing h.fn r.reportBase) 0 } } :
        State).reply c Status.done 0 0 := by
  have hmine : ((Map.get? b.reqs.templates n).map (·.tenant)).any (fun t => decide (t ≠ h.fn)) = false := by
    cases hold : Map.get? b.reqs.templates n with
    | none => rfl
    | some t => simp [hown t hold]
  unfold setSamplingDefineRun
  rw [if_neg (by decide), if_neg (by simp; omega), if_neg (by rw [hmine]; decide),
    if_neg (by simp [hok, hbay, hbale]; omega), hcopied]

/-- Settles O45, command by command. -/
theorem requestCommands : Obligations.RequestCommands := by
  refine ⟨?submit, ?cancel, ?sampling, ?policy⟩
  case submit =>
    intro h p inputs s x t hstart b c q hx htm hxt htt
    rw [exec_submit hstart hx htm hxt htt]
    refine ⟨fun st href => congrArg _ (State.submit_refused c href),
      fun href hbranch hbusy => congrArg _ (State.submit_waits c href hx hbranch hbusy),
      fun href hwait => ⟨fun hfree => congrArg _ (State.submit_created c href hwait hfree),
        fun hfull => congrArg _ (State.submit_noSlot c href hwait hfull)⟩⟩
  case cancel =>
    intro h id withRecall s hstart b c hslot hown t
    have hcmd : ∀ w, exec (.cancelRequest h id w) s = .next (cancelRequestRun h id w c b) := fun w =>
      next_cmd_started hstart _
    have hrun := fun w => cancelRequestRun_own (b := b) (h := h) (id := id) w (cmdRef_copied hstart) hslot hown
    exact ⟨fun _ => (hcmd false).trans (congrArg _ (hrun false)), fun _ => (hcmd true).trans (congrArg _ (hrun true))⟩
  case sampling =>
    intro h n r s hstart b c
    have hdefine : ∀ op, exec (.setSamplingDefine h n ⟨op, r⟩) s = .next (setSamplingDefineRun h n op r c b) :=
      fun op => next_cmd_started hstart _
    have hdelete : exec (.setSamplingDelete h n) s = .next (setSamplingDeleteRun h n c b) := next_cmd_started hstart _
    refine ⟨fun hn hown hpayload hok hbay hbale => (hdefine 0).trans (congrArg _
      (setSamplingDefineRun_kept (cmdRef_copied hstart) hn hown hpayload hok hbay hbale)),
      fun op hop => (hdefine op).trans (congrArg _ ?_), fun t hold hown hfree => hdelete.trans (congrArg _ ?_)⟩
    · exact (if_neg (by omega)).trans (if_pos (by simp; omega))
    · unfold setSamplingDeleteRun
      rw [hold]
      exact if_neg (by simpa [hown] using hfree)
  case policy =>
    intro h p s bay hstart b hbay hown hok
    refine (next_cmd_started hstart _).trans (congrArg _ ?_)
    unfold setConvoyPolicyRun
    rw [show (s.started 0x0211 h).bay p.bay = some bay from hbay]
    exact (if_neg (by simpa using fun h0 => hown.resolve_left h0)).trans (if_neg (by rw [hok]; decide))

end Sys2Proof.Machine
end

section
/-! PROOF. Video and route commands: obligation O50. -/

namespace Sys2Proof.Machine

/-- A closing stream is freed once no unit of it is in a pipe (R175). -/
theorem State.settleStream_closing {u : State} {n : Nat} {x : VStream} {c : CmdRef} (hx : u.vstream n = some x)
    (hclosing : x.closing = some c) :
    u.settleStream n = if u.inPipe n then u else (u.freeStream n).reply c Status.done 0 0 := by
  simp only [State.settleStream, hx, hclosing]

/-- Settles O50, command by command. -/
theorem videoCommands : Obligations.VideoCommands := by
  refine ⟨?opens, ?close, ?encode, ?closeEncode, ?route, ?drop, ?dropped⟩
  case opens =>
    intro h p s t frames hstart b hok hpayload hapart hnew hload hencode hroom
    refine (next_cmd_started hstart _).trans (congrArg _ ?_)
    have hroom' : (s.started 0x0301 h).allocFrames h.fn 0 1 0 (ceilDiv (streamBytes p) 65536) = some (frames, t) := hroom
    unfold openStreamRun
    rw [if_neg (by simpa [hok, Nat.not_lt.mpr hpayload] using fun a q hq => hapart (a, q) hq),
      if_neg (by rw [hnew]; decide),
      if_neg (Nat.not_lt.mpr hload), if_neg (not_lt.mpr hencode), hroom']
    rfl
  case close =>
    intro h n s x hstart b c hx hopen hown hroutes hsessions t u
    have hfree : ¬ (((b.reqs.routes.any fun r => decide (r.2.params.stream = n)) ||
        b.video.sessions.any fun e => decide (e.2.params.stream = n)) = true) := by
      simpa using ⟨fun a r hr => hroutes (a, r) hr, fun a e he => hsessions (a, e) he⟩
    have hcmd : exec (.closeStream h n) s = .next (u.settleStream n) := by
      refine (next_cmd_started hstart _).trans (congrArg _ ?_)
      unfold closeStreamRun
      rw [show (s.started 0x0302 h).vstream n = some x from hx]
      exact (if_neg (not_not_intro hown)).trans ((if_neg (by simp [hopen])).trans (if_neg hfree))
    have hnow : u.vstream n = some { x with closing := some c, units := [] } := Map.get?_set_self _ _ _
    rw [hcmd, State.settleStream_closing hnow rfl]
    exact ⟨fun hpipe => congrArg _ (if_pos hpipe), fun hpipe => congrArg _ (if_neg (by rw [hpipe]; decide))⟩
  case encode =>
    intro h p s x hstart b hx hopen hown hok hpayload hnew t hload
    have hcopied : (cmdRef 0x0303 h s).copied = false := cmdRef_copied hstart
    refine (next_cmd_started hstart _).trans (congrArg _ ?_)
    unfold openEncodeRun
    rw [show (s.started 0x0303 h).vstream p.stream = some x from hx, hcopied]
    exact (if_neg (not_not_intro hown)).trans ((if_neg (by simp [hopen])).trans
      ((if_neg (by simp [hok, Nat.not_lt.mpr hpayload])).trans ((if_neg (by rw [hnew]; decide)).trans
        (if_neg (not_lt.mpr hload)))))
  case closeEncode =>
    intro h n s x hstart b c hx hopen hown
    have hcmd : exec (.closeEncode h n) s = .next (if x.due.isEmpty then (b.freeSession n).reply c Status.done 0 0
        else b.setSession n { x with closing := some c, due := x.due.take 1 }) := by
      refine (next_cmd_started hstart _).trans (congrArg _ ?_)
      unfold closeEncodeRun
      rw [show Map.get? (s.started 0x0302 h).video.sessions n = some x from hx]
      exact (if_neg (not_not_intro hown)).trans (if_neg (by simp [hopen]))
    rw [hcmd]
    exact ⟨fun hdue => congrArg _ (if_pos (by simp [hdue])), fun hdue => congrArg _ (if_neg (by simpa using hdue))⟩
  case route =>
    intro h p s hstart b c r
    have hcmd : exec (.defineRoute h p) s = .next (defineRouteRun h p c b) := next_cmd_started hstart _
    rw [hcmd]
    unfold defineRouteRun
    refine ⟨fun hfine => ?_, fun st hrefused => ?_⟩
    · rw [hfine]
    · rw [hrefused]
  case drop =>
    intro h n s r hstart b hr hown
    refine (next_cmd_started hstart _).trans (congrArg _ ?_)
    unfold dropRouteRun
    rw [show Map.get? (s.started 0x0311 h).reqs.routes n = some r from hr]
    exact if_neg (not_not_intro hown)
  case dropped =>
    intro s n r hr hdrop hidle
    have hexec : exec (.dropRouteDone n) s = .next (s.settleRoute n) := rfl
    rw [hexec]
    unfold State.settleRoute
    rw [hr]
    exact congrArg _ (if_neg (by simp [hdrop, hidle]))

end Sys2Proof.Machine
end

section
/-! PROOF. Video events: obligation O51. -/

namespace Sys2Proof.Machine

/-- A packet of a stream of a running video engine (R172 to R174). -/
theorem rtpPacket_cases {s : State} {p : RtpPacket} {n : Nat} {x : VStream}
    (hmatch : s.matchStream p.port p.udpPort p.ssrc p.vlan = some (n, x)) (hruns : s.videoRuns = true) :
    let i := srtpIndex x.replay p.seq
    (x.params.srtp = true → s.srtpOk n x i p.body p.tag = false → exec (.rtpPacket p) s = .next (s.countStream n 40 1)) ∧
    (x.params.srtp = false ∨ s.srtpOk n x i p.body p.tag = true →
      let y := if x.params.srtp then { x with replay := replaySeen x.replay i.toNat } else x
      let q := { p with body := (s.setVstream n y).srtpPlain n y i p }
      let t := s.setVstream n y
      (formatOk x.params.codec p.nal p.donFields = false → exec (.rtpPacket p) s = .next (t.countStream n 56 1)) ∧
      (formatOk x.params.codec p.nal p.donFields = true → exec (.rtpPacket p) s = .next (t.reassemble n y q))) := by
  have hexec : exec (.rtpPacket p) s = execRtpPacket p s := rfl
  intro i
  rw [hexec, execRtpPacket, hmatch]
  dsimp -zeta only
  rw [if_neg (by rw [hruns]; decide)]
  refine ⟨fun hsrtp hbad => if_pos (by rw [hsrtp, show s.srtpOk n x _ p.body p.tag = false from hbad]; rfl),
    fun hgood => ?_⟩
  have hparams : (if x.params.srtp then { x with replay := replaySeen x.replay i.toNat } else x).params = x.params := by
    split <;> rfl
  have hholds : ¬ ((x.params.srtp && !s.srtpOk n x i p.body p.tag) = true) := by
    obtain h | h := hgood <;> simp [h]
  refine ⟨fun hformat => (if_neg hholds).trans (if_pos ?_), fun hformat => (if_neg hholds).trans (if_neg ?_)⟩
  · rw [hparams, hformat]
    rfl
  · rw [hparams, hformat]
    decide

/-- A sender report is kept, or counted and dropped (R193). -/
theorem senderReport_cases {s : State} {r : SenderRep} {n : Nat} {x : VStream}
    (hmatch : s.matchStream r.port r.udpPort r.ssrc r.vlan = some (n, x)) (hruns : s.videoRuns = true) :
    let good := replayFresh x.rtcpReplay r.index && s.tagHolds x.tenant labelSR n (2 ^ 48 + r.index) r.body r.tag
    (x.params.srtp = true → good = false → exec (.senderReport r) s = .next (s.countStream n 40 1)) ∧
    (x.params.srtp = false ∨ good = true → exec (.senderReport r) s = .next (s.setVstream n { x with
      report := some (reportTime r.seconds r.fraction s.mls.time, r.rtpTime),
      rtcpReplay := if x.params.srtp then replaySeen x.rtcpReplay r.index else x.rtcpReplay })) := by
  have hexec : exec (.senderReport r) s = execSenderReport r s := rfl
  intro good
  rw [hexec, execSenderReport, hmatch]
  dsimp -zeta only
  rw [if_neg (by rw [hruns]; decide)]
  refine ⟨fun hsrtp hbad => if_pos (by rw [hsrtp, show (_ && _) = false from hbad]; rfl), fun hgood => if_neg ?_⟩
  obtain h | h := hgood
  · simp [h]
  · rw [show (_ && _) = true from h]
    simp

/-- The timeouts of a stream: its oldest access unit, and ten frame periods without a unit (R177, R192). -/
theorem streamTimeouts {s : State} {n : Nat} {x : VStream} {u : AccessUnit} (hx : s.vstream n = some x)
    (hruns : s.videoRuns = true) :
    (x.units[0]? = some u → (∃ l, u.laterAt = some l ∧ l + 200000 ≤ s.mls.uptime) →
      exec (.auLaterTimeout n) s = .next (s.handOn n 0)) ∧
    (x.units[0]? = some u → 2000000000 ≤ (s.mls.uptime - u.firstAt) * x.params.frameRate →
      exec (.auFramePeriodTimeout n) s = .next (s.handOn n 0)) ∧
    (x.closing = none → 10000000000 ≤ (s.mls.uptime - x.lastUnitAt) * x.params.frameRate → x.state ≠ 2 →
      exec (.streamStalled n) s = .next ((s.setVstream n { x with state := 2 }).event x.tenant 0x0301 n 0)) := by
  refine ⟨fun hunit ⟨l, hlater, hpast⟩ => ?_, fun hunit hpast => ?_, fun hopen hpast hstate => ?_⟩
  · have hexec : exec (.auLaterTimeout n) s = execAuLaterTimeout n s := rfl
    have hdue : s.elapsed l 200000 = true := (s.elapsed_iff _ _).mpr hpast
    simp only [hexec, execAuLaterTimeout, hx, hunit, hruns, hlater, Option.any_some, hdue, Bool.and_self, if_true]
  · have hexec : exec (.auFramePeriodTimeout n) s = execAuFramePeriodTimeout n s := rfl
    have hdue : decide (2000000000 ≤ (s.up - u.firstAt) * x.params.frameRate) = true := decide_eq_true hpast
    simp only [hexec, execAuFramePeriodTimeout, hx, hunit, hruns, hdue, Bool.and_self, if_true]
  · have hexec : exec (.streamStalled n) s = execStreamStalled n s := rfl
    have hlong : ¬ (s.up - x.lastUnitAt) * x.params.frameRate < 10000000000 := Nat.not_lt.mpr hpast
    simp only [hexec, execStreamStalled, hx]
    rw [if_neg (by simp [hopen, hruns, hlong])]
    unfold State.stallStream
    rw [hx]
    exact congrArg _ (if_neg hstate)

/-- A free pipe takes the unit completed earliest whose stream is in no pipe (R178). -/
theorem pipeTake_takes {s : State} {k : Nat} {u : AccessUnit} {x : VStream} (hk : k ≤ 7) (hruns : s.videoRuns = true)
    (hcontrol : s.videoControlDown = false) (hfree : (s.pipe k).unit = none)
    (hready : s.video.ready.find? (fun u => !s.inPipe u.stream) = some u) (hx : s.vstream u.stream = some x) :
    let t : State := { s with video := { s.video with ready := s.video.ready.erase u } }
    exec (.pipeTake k) s = .next ((t.setPipe k { s.pipe k with
      unit := some u, takenAt := s.mls.uptime }).setVstream u.stream { x with
        waits := (s.mls.uptime, s.mls.uptime - u.completedAt) ::
          x.waits.filter fun w => !decide (w.1 + 1000000000 ≤ s.mls.uptime) }) := by
  intro t
  have hexec : exec (.pipeTake k) s = execPipeTake k s := rfl
  rw [hexec, execPipeTake, if_neg (by simp [Nat.not_lt.mpr hk, hruns, hcontrol, hfree]), hready]
  dsimp -zeta only
  extract_lets _ _ _ v
  rw [show v.vstream u.stream = some x from hx]
  rfl

/-- The unit in a pipe ends with its decode, its pipe's restart or its frame budget (R180, R189). -/
theorem pipeUnit_ends {s : State} {k : Nat} {u : AccessUnit} (hunit : (s.pipe k).unit = some u)
    (hruns : s.videoRuns = true) :
    (∀ d, exec (.decodeComplete k d) s = .next ((s.decodeUnit u d false).freePipe k u.stream)) ∧
    (∀ w ht depth, s.videoControlDown = false → exec (.pipeRestart k w ht depth) s =
      .next ((s.concealUnit u w ht depth).freePipe k u.stream)) ∧
    (∀ x d, s.vstream u.stream = some x → budgetOver x.params (s.mls.uptime - (s.pipe k).takenAt) = true →
      exec (.frameBudgetExpiry ⟨k, d⟩) s =
        .next (((s.countStream u.stream 64 1).decodeUnit u d true).freePipe k u.stream)) := by
  refine ⟨fun d => ?_, fun w ht depth hcontrol => ?_, fun x d hx hover => ?_⟩
  · have hexec : exec (.decodeComplete k d) s = execDecodeComplete k d s := rfl
    rw [hexec, execDecodeComplete, hunit]
    exact if_neg (by rw [hruns]; decide)
  · have hexec : exec (.pipeRestart k w ht depth) s = execPipeRestart k w ht depth s := rfl
    rw [hexec, execPipeRestart, hunit]
    exact if_neg (by rw [hruns, hcontrol]; decide)
  · have hexec : exec (.frameBudgetExpiry ⟨k, d⟩) s = execFrameBudgetExpiry ⟨k, d⟩ s := rfl
    simp only [hexec, execFrameBudgetExpiry, hunit, hx]
    exact if_neg (by rw [hruns, show budgetOver x.params (s.up - (s.pipe k).takenAt) = true from hover]; decide)

/-- The unit that a due picture of a session makes (R198, R199). -/
def State.encodedUnit (s : State) (n : Nat) (x : Session) (v : VStream) (e : EncodeDue) (idr : Bool) (z : Sized) :
    EncodedUnit :=
  let size := encodeSize v.params x.params.scale
  { session := n, idr := idr,
    level := ((lowestLevel size.1 size.2 v.params.frameRate (orDefault x.params.frameDiv 1) x.params.bitRate
      x.params.cpbSize).map (·.level)).getD 0,
    nals := unitNals idr (z.filler > 0), bits := z.bits, capture := e.capture, flags := e.flags,
    srtpKey := if x.params.srtp then (s.job x.tenant).map fun j => jobKey j.1 j.2 labelSE n x.tenant else none,
    picture := e.picture, boxes := e.boxes }

/-- A due picture of a session is sized, sent and removed (R198, R199). -/
theorem encodePicture_sends {s : State} {n : Nat} (qp header : Nat) {e : EncodeDue} {rest : List EncodeDue}
    {x : Session} {v : VStream} (blocks : List BlockBits) (hx : Map.get? s.video.sessions n = some x)
    (hdue : x.due = e :: rest) (hv : s.vstream x.params.stream = some v) (hruns : s.videoRuns = true) :
    let size := encodeSize v.params x.params.scale
    let z := sizePicture x.params v.params.frameRate x.fullness x.pictures qp (headerCost header) e.picture.isSome
      (pictureBlocks (encodeBlocks size.1 size.2) blocks)
    let idr := e.picture.isSome && (x.forceIdr || x.sinceIdr = 0 || x.sinceIdr ≥ x.params.idrPeriod)
    let y := { x with
      due := rest, pictures := x.pictures + 1, fullness := z.after, forceIdr := x.forceIdr && !idr,
      sinceIdr := if idr then 1 else x.sinceIdr + 1 }
    let t := (s.setSession n y).sendUnit n y (s.encodedUnit n x v e idr z)
    exec (.encodePicture n qp header blocks) s =
      .next ((if z.least then t.count 0x000A n 0 0 0 24 1 else t).settleSession n) := by
  have hexec : exec (.encodePicture n qp header blocks) s = execEncodePicture n qp header blocks s := rfl
  rw [hexec, execEncodePicture, hx]
  dsimp -zeta only
  rw [hdue, hv]
  exact if_neg (by rw [hruns]; decide)

/-- A detector run of a detector bale's bay (R189 to R192). -/
theorem detectorRunDone_runs {s : State} {n id bay : Nat} (later : Nat) (rows : List VisionRow)
    (raw : List RawCandidate) {pic : Picture} {x : VStream} {b : Bay} {bale : Bale} {d : DetHead}
    (hpic : s.video.pictures.find? (fun q => q.stream = n && q.id = id && q.detectors.contains bay) = some pic)
    (hx : s.vstream n = some x) (hruns : s.videoRuns = true) (hb : s.bay bay = some b) (hbale : b.bale = some bale)
    (hdetector : bale.detector = some d) :
    let f := boxFilter d (bit pic.concealed + 2 * bit pic.fallback) (pic.id % 2 ^ 32) raw
    let r := (s.visionAttention bay rows).tensorOf x pic
    let flushed := ((r.1.map (leadFlushed bale.convs)).getD 0) + later
    let a := match r.2.vstream n with | some y => r.2.setVstream n { y with boxes := f.1 } | none => r.2
    let t := (if flushed = 0 then a else a.count 0x0001 (a.stageCore b 0) 0 0 0 24 flushed).countStream n 112 f.2.1
    let u := if f.2.2 = 0 then t else t.count 0x0003 bay 0 0 0 120 f.2.2
    exec (.detectorRunDone n id bay later ⟨rows, raw⟩) s =
      .next ((pic.routes.foldl (fun v r => v.offerBoxes pic bay f.1 r) u).endDetector pic bay) := by
  have hexec : exec (.detectorRunDone n id bay later ⟨rows, raw⟩) s =
    execDetectorRunDone n id bay later ⟨rows, raw⟩ s := rfl
  rw [hexec, execDetectorRunDone, hpic, hx]
  dsimp -zeta only
  rw [if_neg (by rw [hruns]; decide), hb]
  dsimp -zeta only
  rw [hbale]
  dsimp -zeta only [Option.bind_some]
  rw [hdetector] <;> rfl

/-- A crop batch embeds its boxes and creates their requests in order (R208). -/
theorem cropBatchDone_runs {s : State} (hruns : s.videoRuns = true) (hcrops : s.video.crops ≠ []) :
    let batch := s.video.crops.take 4096
    let made := batch.foldl (fun (a : List BoxPatches × State) j =>
      (a.1 ++ (a.2.boxPatches j).1.toList, (a.2.boxPatches j).2)) ([], s)
    let t : State := { made.2 with
      video := { made.2.video with crops := made.2.video.crops.drop 4096, patches := made.1 } }
    exec .cropBatchDone s = .next ((batch.map fun j => j.picture.stream).eraseDups.foldl (fun v n => v.pruneTensors n)
      (batch.foldl (fun v j => v.objectCreate j.route j.picture j.box) t)) := by
  have hexec : exec .cropBatchDone s = execCropBatchDone s := rfl
  rw [hexec, execCropBatchDone]
  refine (if_neg (by simp [hruns, hcrops])).trans ?_
  rfl

/-- Settles O51, event by event. -/
theorem videoEvents : Obligations.VideoEvents := by
  refine ⟨fun s p hnone => ?_, fun s p n x hmatch hruns => rtpPacket_cases hmatch hruns,
    fun s r n x hmatch hruns => senderReport_cases hmatch hruns, fun s n x u hx hruns => streamTimeouts hx hruns,
    fun s k u x hk hruns hcontrol hfree hready hx => pipeTake_takes hk hruns hcontrol hfree hready hx,
    fun s k u hunit hruns => pipeUnit_ends hunit hruns, ?encode,
    fun s n id bay later rows raw pic x b bale d hpic hx hruns hb hbale hdetector =>
      detectorRunDone_runs later rows raw hpic hx hruns hb hbale hdetector,
    fun s hruns hcrops => cropBatchDone_runs hruns hcrops⟩
  · have hexec : exec (.rtpPacket p) s = execRtpPacket p s := rfl
    rw [hexec, execRtpPacket, hnone]
  case encode =>
    intro s n qp header e rest x v blocks hx hdue hv hruns size z idr y
    exact ⟨s.encodedUnit n x v e idr z, rfl, rfl, rfl, rfl, rfl, rfl, rfl, rfl,
      encodePicture_sends qp header blocks hx hdue hv hruns⟩

end Sys2Proof.Machine
end

section
/-! PROOF. Tenants, keys, consent and attestation: obligation O53. -/

namespace Sys2Proof.Machine

/-- ADD_TENANT of tenant 0 gives it its key (R310). -/
theorem addTenantRun_owner {b : State} {h : Hdr} {hbm way point : Nat} {x : Tenant} (c : CmdRef)
    (hpayload : 128 ≤ payloadBytes h) (hcurve : Config.onCurve point = true) (hx : b.tenant 0 = some x)
    (hkey : x.publicKey = none) :
    addTenantRun h 0 hbm way point c b =
      (b.setTenant 0 { x with publicKey := some point, hbmQuota := hbm, wayQuota := way }).checkPort.reply c
        Status.done (65536 * (b.keySlot 0).generation) 0 := by
  unfold addTenantRun
  rw [if_neg (by simp [Nat.not_lt.mpr hpayload]), if_pos rfl, hx]
  refine (if_neg (by simp [hkey])).trans ((if_neg (by simp [hcurve])).trans ?_)
  simp only [addResult, Nat.zero_add]
  rfl

/-- ADD_TENANT of an absent guest takes a key slot, where one is free (R308, R310). -/
theorem addTenantRun_guest {b : State} {h : Hdr} {t hbm way point : Nat} (c : CmdRef) (hpayload : 128 ≤ payloadBytes h)
    (hcurve : Config.onCurve point = true) (hlow : 1 ≤ t) (hhigh : t ≤ 63) (hnew : b.tenant t = none) :
    (b.freeKeySlot = none → addTenantRun h t hbm way point c b = b.reply c Status.noKeySlot 0 0) ∧
    (∀ n slot, b.freeKeySlot = some (n, slot) →
      let d : State := { b with free := b.free + 1 }
      let u := d.setKeySlot n { slot with
        state := 1, pageKey := Config.randomKey b.free, tenant := some t, lateWrites := 0 }
      addTenantRun h t hbm way point c b = (u.setTenant t
        { state := 1, slot := n, publicKey := some point, consent := 0, consentCounter := 0, hbmQuota := hbm,
          wayQuota := way, job := none, oldJob := none, removal := none }).checkPort.reply c Status.done
            (n + 65536 * slot.generation) 0) := by
  unfold addTenantRun
  rw [if_neg (by simp [Nat.not_lt.mpr hpayload, Nat.not_lt.mpr hhigh]), if_neg (by omega),
    if_neg (by simp [hnew]), if_neg (by simp [hcurve])]
  refine ⟨fun hnone => ?_, fun n slot hslot => ?_⟩
  · rw [hnone]
  · rw [hslot]
    rfl

/-- The quarantine of a removed tenant's slot ends, and what it held is freed (R329, R330). -/
theorem slotQuarantineEnd_ends {s : State} {slot late t : Nat} {x : Tenant} {r : Removal} {c : CmdRef}
    (hslot : (s.keySlot slot).tenant = some t) (hx : s.tenant t = some x) (hr : x.removal = some r)
    (hstate : (s.keySlot slot).state = 3) (hidle : s.baysIdle t = true) (hmarker : s.markerSettled r = true)
    (href : r.ref = some c) :
    let u := (((s.passBays t).freeTenant t).count 0x0060 t 0 0 0 32 late).releaseSlot slot
    let g := (u.keySlot slot).generation
    let v := (u.logAdd 0x10 255 255 t true (leBytes 1 t ++ leBytes 1 slot ++ leBytes 2 g ++ leBytes 8 late)).event 0
      0x0601 t (slot + 256 * g)
    let w := ({ v with customs := { v.customs with tenants := Map.erase v.customs.tenants t } } : State).checkPort
    let unconfirmed := r.unconfirmed || r.marker.any fun q => v.escort.acked < q
    exec (.slotQuarantineEnd slot late) s = .next (w.reply c Status.done
      (r.frames + (if unconfirmed then 2 ^ 63 else 0)) (w.stat (statKey 0x0060 t 0 0 0 32))) := by
  have hexec : exec (.slotQuarantineEnd slot late) s = execSlotQuarantineEnd slot late s := rfl
  rw [hexec, execSlotQuarantineEnd, hslot]
  dsimp -zeta only
  rw [hx]
  dsimp -zeta only
  rw [hr]
  dsimp -zeta only
  rw [if_neg (by simp [hstate, hidle, hmarker]), href]

/-- SET_JOB_KEYS of a newer generation is judged by its signature and its wrapping (R315). -/
theorem setJobKeysRun_signed {b : State} {h : Hdr} {gen : Nat} {payload : List Byte} {x : Tenant} {key : Nat}
    (c : CmdRef) (hx : b.tenant h.fn = some x) (hkey : x.publicKey = some key)
    (hnow : (b.keySlot x.slot).generation ≠ 0xFFFF) (hnewer : (b.keySlot x.slot).generation < gen)
    (hgen : gen ≤ 0xFFFF) (hpayload : 288 ≤ payloadBytes h) (hok : jobPayloadOk payload = true) :
    setJobKeysRun h gen payload c b =
      if !Config.ecdsaOk key (jobMessage h.fn gen payload) (beNat (slice 192 96 payload)) then
        (b.badSignature h.fn).reply c Status.notPermitted 0 0
      else match unwrapJob b.fuses.identitySeed h.fn gen payload with
        | none => b.reply c Status.badParam 0 0
        | some secret =>
          (b.installJob h.fn gen (leNat (slice 176 2 payload)) secret x).reply c Status.done gen 0 := by
  simp only [setJobKeysRun, hx, hkey]
  rw [if_neg hnow, if_neg (by simp [hok, Nat.not_le.mpr hnewer, Nat.not_lt.mpr hgen, Nat.not_lt.mpr hpayload])] <;> rfl

/-- SET_CONSENT in range is judged by its signature and its counter (R327). -/
theorem setConsentRun_signed {b : State} {h : Hdr} {payload : List Byte} {x : Tenant} {key : Nat} (c : CmdRef)
    (hx : b.tenant h.fn = some x) (hkey : x.publicKey = some key) (hpayload : 112 ≤ payloadBytes h)
    (hflags : leNat (slice 0 1 payload) ≤ 7) (hreserved : leNat (slice 1 7 payload) = 0) :
    setConsentRun h payload c b =
      if !Config.ecdsaOk key (consentMessage h.fn (b.keySlot x.slot).generation payload) (beNat (slice 16 96 payload))
      then (b.badSignature h.fn).reply c Status.notPermitted 0 0
      else if leNat (slice 8 8 payload) ≤ x.consentCounter then b.reply c Status.badParam 0 0
      else (b.applyConsent h.fn (leNat (slice 0 1 payload)) (leNat (slice 8 8 payload)) x).reply c Status.done 0 0 := by
  simp only [setConsentRun, hx, hkey]
  rw [if_neg (by simp [Nat.not_lt.mpr hpayload, Nat.not_lt.mpr hflags, hreserved])]

/-- Settles O53, command by command and event by event. -/
theorem customsRows : Obligations.CustomsRows := by
  refine ⟨?add, ?remove, fun s slot late t x r c hslot hx hr hstate hidle hmarker href =>
    slotQuarantineEnd_ends hslot hx hr hstate hidle hmarker href, ?job, ?overlap, ?consent, ?attest, ?bus, ?scan⟩
  case add =>
    intro h hbm way point s hstart hpayload b c hcurve
    have hcmd : ∀ t, exec (.addTenant h t hbm way point) s = .next (addTenantRun h t hbm way point c b) :=
      fun t => next_cmd_started hstart _
    refine ⟨fun x hx hkey => (hcmd 0).trans (congrArg _ (addTenantRun_owner c hpayload hcurve hx hkey)),
      fun t hlow hhigh hnew => ?_⟩
    rw [hcmd t]
    obtain ⟨hnone, hslot⟩ := addTenantRun_guest (hbm := hbm) (way := way) c hpayload hcurve hlow hhigh hnew
    exact ⟨fun hfree => congrArg _ (hnone hfree), fun n slot hfree => congrArg _ (hslot n slot hfree)⟩
  case remove =>
    intro h t keep s x hstart hlow hhigh b c hx
    have hcmd : exec (.removeTenant h t keep) s = .next (removeTenantRun t keep c b) := next_cmd_started hstart _
    rw [hcmd]
    unfold removeTenantRun
    rw [if_neg (by simp; omega), hx]
    exact ⟨fun hstate => congrArg _ (if_neg hstate), fun hstate => congrArg _ (if_pos hstate)⟩
  case job =>
    intro h gen payload s x key hstart b c now hx hkey hnow hnewer hgen hpayload hok signed
    have hcmd : exec (.setJobKeys h gen payload) s = .next (setJobKeysRun h gen payload c b) :=
      next_cmd_started hstart _
    rw [hcmd, setJobKeysRun_signed c hx hkey hnow hnewer hgen hpayload hok]
    refine ⟨fun hbad => congrArg _ (if_pos ?_), fun secret hgood hwrap => congrArg _ ((if_neg ?_).trans ?_)⟩
    · exact (Bool.not_eq_true' _).mpr hbad
    · exact fun hbad => absurd (hgood.symm.trans ((Bool.not_eq_true' _).mp hbad)) (by decide)
    · rw [hwrap]
  case overlap =>
    intro s t k g till x hx hold
    have hexec : exec (.jobKeyOverlapEnd t) s =
        .next (if till ≤ s.up then s.setTenant t { x with oldJob := none } else s) := by
      have hrun : exec (.jobKeyOverlapEnd t) s = execJobKeyOverlapEnd t s := rfl
      simp only [hrun, execJobKeyOverlapEnd, hx, hold]
    rw [hexec]
    exact ⟨fun hpast => congrArg _ (if_pos hpast), fun hearly => congrArg _ (if_neg (Nat.not_le.mpr hearly))⟩
  case consent =>
    intro h payload s x key hstart b c flags counter hx hkey hpayload hflags hreserved signed
    have hcmd : exec (.setConsent h payload) s = .next (setConsentRun h payload c b) := next_cmd_started hstart _
    rw [hcmd, setConsentRun_signed c hx hkey hpayload hflags hreserved]
    have hvalid : signed = true → ¬ ((!signed) = true) := fun h => by rw [h]; decide
    exact ⟨fun hbad => congrArg _ (if_pos ((Bool.not_eq_true' _).mpr hbad)),
      fun hgood hold => congrArg _ ((if_neg (hvalid hgood)).trans (if_pos hold)),
      fun hgood hnewer => congrArg _ ((if_neg (hvalid hgood)).trans (if_neg (Nat.not_le.mpr hnewer)))⟩
  case attest =>
    intro h payload s hstart hpayload b len hlow hhigh m r
    have hcmd : exec (.getAttestation h payload) s = .next (getAttestationRun h payload (cmdRef 0x0604 h s) b) :=
      next_cmd_started hstart _
    have hwithin : within len 4 4096 = true := by simp [within, hlow, hhigh]
    rw [hcmd]
    unfold getAttestationRun
    refine congrArg _ (if_neg ?_)
    rw [show within (leNat (slice 0 4 payload)) 4 4096 = true from hwithin]
    simpa using hpayload
  case bus =>
    intro s m hruns r
    exact if_neg (by rw [hruns]; decide)
  case scan =>
    intro one both bad ok t
    refine congrArg Host.Outcome.next (if_congr ?_ rfl rfl)
    rw [Bool.and_eq_true, Bool.not_eq_true']

end Sys2Proof.Machine
end

section
/-! PROOF. Pair commands: obligation O55. -/

namespace Sys2Proof.Machine

/-! ## Fences change no pair state -/

theorem State.writeOutcome_escort (s : State) (e : LedgerEntry) (code : Nat) :
    (s.writeOutcome e code).escort = s.escort := by
  unfold State.writeOutcome
  dsimp only
  split
  · rfl
  · split
    · rfl
    · split
      · exact State.count_escort ..
      · split
        · exact (State.count_escort ..).trans rfl
        · exact (State.escort_of_inside (State.writeRecord_inside ..)).trans rfl

/-- An entry that ends without a recall or a removal sends nothing to the partner. -/
theorem State.endEntry_escort (s : State) (e : LedgerEntry) {code : Nat} (hcode : code ≠ 2 ∧ code ≠ 8) :
    (s.endEntry e code).escort = s.escort := by
  have hsends : (decide (code = 2) || decide (code = 8)) = false := by simp [hcode]
  unfold State.endEntry
  simp only [apply_ite State.escort, State.reply_escort, hsends, Bool.false_eq_true, if_false, ite_self,
    State.writeOutcome_escort, State.count_escort]

theorem State.emitFalls_escort (s : State) (before : List Nat) (t : Nat) :
    (s.emitFalls before t).escort = s.escort :=
  foldl_keeps State.escort _ _ _ fun _ _ => rfl

theorem State.mlsRaise_escort (s : State) (bits : Nat) : (s.mlsRaise bits).escort = s.escort := by
  unfold State.mlsRaise
  dsimp only
  split_ifs
  · rfl
  · exact State.event_escort ..

theorem State.cutLines_escort (s : State) (ls : List Nat) : (s.cutLines ls).escort = s.escort := by
  unfold State.cutLines
  extract_lets before cut _ cutState fallen
  have hfallen : fallen.escort = s.escort := State.emitFalls_escort ..
  exact (foldl_keeps State.escort (fun (t : State) (p : Pulse) => t.endEntry p.entry 1) _ _
    fun t p => t.endEntry_escort p.entry (by decide)).trans hfallen

/-- The reasons of FENCED set leave the pair's state, and the egress as it was. -/
theorem State.setFences_pair (s : State) (brk self leave : Bool) :
    (s.setFences brk self leave).escort = s.escort ∧
    (s.setFences brk self leave).mls.fences = (brk, self, leave, s.mls.egressClosed) := by
  unfold State.setFences
  dsimp only
  split_ifs
  · exact ⟨rfl, rfl⟩
  · exact ⟨(State.mlsRaise_escort ..).trans (State.cutLines_escort ..),
      (State.mlsRaise_fences ..).trans (State.cutLines_fences ..)⟩
  · exact ⟨State.mlsRaise_escort .., State.mlsRaise_fences ..⟩

/-- The self-fence ended: the pair's state and the other reasons are as before. -/
theorem State.clearSelfFence_pair (s : State) :
    s.clearSelfFence.escort = s.escort ∧ s.clearSelfFence.powerView = s.powerView ∧
    s.clearSelfFence.mls.fences = (s.mls.fenceBreakout, false, s.mls.fenceLeave, s.mls.egressClosed) := by
  unfold State.clearSelfFence
  obtain ⟨hescort, hfences⟩ := s.setFences_pair s.mls.fenceBreakout false s.mls.fenceLeave
  split
  · refine ⟨(State.event_escort ..).trans hescort, (State.event_powerView ..).trans (State.setFences_powerView ..), ?_⟩
    exact (congrArg Milestone.fences (State.mls_of_inside (State.event_inside ..))).trans hfences
  · next hself => exact ⟨rfl, rfl, by rw [Milestone.fences, Bool.eq_false_iff.mpr hself]⟩

theorem State.settleBreakout_pair (s : State) :
    s.settleBreakout.escort = s.escort ∧ s.settleBreakout.powerView = s.powerView ∧
    s.settleBreakout.mls.fenceSelf = s.mls.fenceSelf ∧ s.settleBreakout.mls.fenceLeave = s.mls.fenceLeave ∧
    s.settleBreakout.mls.egressClosed = s.mls.egressClosed := by
  unfold State.settleBreakout
  have hfences := fun bad : Bool => s.setFences_pair bad s.mls.fenceSelf s.mls.fenceLeave
  exact ⟨(hfences _).1, State.setFences_powerView .., (congrArg (fun f => f.2.1) (hfences _).2 :),
    (congrArg (fun f => f.2.2.1) (hfences _).2 :), (congrArg (fun f => f.2.2.2) (hfences _).2 :)⟩

/-! ## PAIR_ESCORT -/

/-- A pair as PAIR leaves it before its role: at a new epoch, with its key and the link trained (R337, R340). -/
def State.pairedAs (s : State) (position serial epoch partnerRole key : Nat) (randoms : Nat × Nat) : State :=
  let s := s.setEpoch epoch
  { s with escort := { s.escort with
    position := position, partner := serial, partnerRole := partnerRole, pairKey := key, randoms := randoms,
    linkUp := true, halfPort := none, copying := false, leavingSeen := false, partnerLeft := false,
    copyStopped := false, lastLink := s.up, lastMgmt := s.up, txSeq := 1, rxSeq := 0, acked := 0, retention := [],
    held := [], toApply := [], uncovered := [], covered := 0, owed := [] } }

theorem State.pairedAs_spec (s : State) (position serial epoch partnerRole key : Nat) (randoms : Nat × Nat) :
    let t := s.pairedAs position serial epoch partnerRole key randoms
    t.escort.pairKey = key ∧ t.escort.partner = serial ∧ t.escort.epoch = epoch ∧ t.persist.epoch = epoch ∧
    t.escort.copying = false ∧ t.escort.linkUp = true ∧ t.escort.position = position := by
  obtain ⟨streams, hepoch⟩ := s.setEpoch_sets epoch
  unfold State.pairedAs
  rw [hepoch]
  exact ⟨rfl, rfl, rfl, rfl, rfl, rfl, rfl⟩

/-- A pair that takes its role ends its self-fence; its key, epoch and link are as before (R337). -/
theorem State.takeRole_spec (s : State) (role : Nat) :
    let t := (s.uncoverBays.setPair role 3 0).clearSelfFence.settleBreakout
    (∃ events, t.escort = { s.escort with role := role, health := 3, events := events }) ∧ t.persist = s.persist ∧
    t.mls.fenceSelf = false := by
  obtain ⟨events, hpair⟩ := s.uncoverBays.setPair_escort role 3 0
  have htrunk : (s.uncoverBays.setPair role 3 0).persist = s.persist :=
    (congrArg State.persist (s.uncoverBays.setPair_trunk role 3 0) :)
  generalize s.uncoverBays.setPair role 3 0 = u at hpair htrunk
  obtain ⟨hclearEscort, hclearView, hclearFences⟩ := u.clearSelfFence_pair
  obtain ⟨hbrkEscort, hbrkView, hbrkSelf, -, -⟩ := u.clearSelfFence.settleBreakout_pair
  refine ⟨⟨events, hbrkEscort.trans (hclearEscort.trans hpair)⟩, ?_,
    hbrkSelf.trans (congrArg (fun f => f.2.1) hclearFences)⟩
  exact ((congrArg (fun v => v.2.1) (hbrkView.trans hclearView) :)).trans htrunk

/-- The pair key is formed of both sides' numbers and randoms, those of position 0 first (R340). -/
theorem pairKey_ordered (position serial mine pr : Nat) :
    Config.pairKey (if position = 0 then (Config.serial, serial) else (serial, Config.serial)).1
      (if position = 0 then (Config.serial, serial) else (serial, Config.serial)).2
      (if position = 0 then (mine, pr) else (pr, mine)).1 (if position = 0 then (mine, pr) else (pr, mine)).2 =
    if position = 0 then Config.pairKey Config.serial serial mine pr
      else Config.pairKey serial Config.serial pr mine := by
  split_ifs <;> rfl

/-- The reply of PAIR tells the state of the pair that it makes. -/
theorem pairRun_pairs {b : State} {joiner : Bool} {slot serial floor pe pr gmax gmin format : Nat}
    {trained spdm asks : Bool} (c : CmdRef)
    (hfine : b.pairRefusal slot joiner trained spdm asks (max (max b.escort.epoch pe) floor) = none)
    (hagrees : helloAgrees gmax gmin format = true) :
    let position : Nat := if ((b.power.slot.map (·.1)).getD 0) < slot then 0 else 1
    ∃ (u : State) (mine : Nat) (randoms : Nat × Nat),
      pairRun joiner slot serial floor pe ⟨pr, gmax, gmin, format⟩ trained spdm asks c b =
        (((u.pairedAs position serial (max (max b.escort.epoch pe) floor + 1) (if joiner then 1 else 4)
          (if position = 0 then Config.pairKey Config.serial serial mine pr
            else Config.pairKey serial Config.serial pr mine) randoms).uncoverBays.setPair
              (if joiner then 4 else 1) 3 0).clearSelfFence.settleBreakout).pairReply c := by
  intro position
  unfold pairRun
  extract_lets top position' refusal
  have hnone : refusal = none := hfine
  clear_value refusal
  subst hnone
  rw [if_neg (by decide)]
  unfold State.draw
  dsimp -zeta only
  extract_lets mine _ _ dropped _ _ _
  rw [if_neg (by rw [hagrees]; decide)]
  refine ⟨dropped, mine, if position = 0 then (mine, pr) else (pr, mine), ?_⟩
  rw [← pairKey_ordered]
  rfl

/-- A refused PAIR replies its status, the pair as it was. -/
theorem pairRun_refused {b : State} {joiner : Bool} {slot serial floor pe st : Nat} {hello : PairHello}
    {trained spdm asks : Bool} (c : CmdRef)
    (hrefused : b.pairRefusal slot joiner trained spdm asks (max (max b.escort.epoch pe) floor) = some st) :
    ∃ t : State, pairRun joiner slot serial floor pe hello trained spdm asks c b = t.reply c st 0 0 ∧
      t.escort = b.escort := by
  unfold pairRun
  extract_lets top position refusal
  have hsome : refusal = some st := hrefused
  clear_value refusal
  subst hsome
  split
  · next heq =>
    cases heq
    exact ⟨b, rfl, rfl⟩
  · exact ⟨_, rfl, rfl⟩

/-- A PAIR whose LINK_HELLO records do not agree replies BAD_PARAM, the pair as it was (R340). -/
theorem pairRun_mismatch {b : State} {joiner : Bool} {slot serial floor pe : Nat} {hello : PairHello}
    {trained spdm asks : Bool} (c : CmdRef)
    (hfine : b.pairRefusal slot joiner trained spdm asks (max (max b.escort.epoch pe) floor) = none)
    (hapart : helloAgrees hello.genMax hello.genMin hello.format = false) :
    ∃ t : State, pairRun joiner slot serial floor pe hello trained spdm asks c b = t.reply c Status.badParam 0 0 ∧
      t.escort = b.escort := by
  unfold pairRun
  extract_lets top position refusal
  have hnone : refusal = none := hfine
  clear_value refusal
  subst hnone
  rw [if_neg (by decide)]
  unfold State.draw
  dsimp -zeta only
  extract_lets
  rw [if_pos (by rw [hapart]; rfl)]
  exact ⟨_, rfl, State.event_escort ..⟩

/-! ## UNPAIR -/

theorem State.dropCopied_power (s : State) : s.dropCopied.power = s.power := by
  unfold State.dropCopied
  extract_lets dropped
  have hdropped : dropped.power = s.power :=
    foldl_keeps State.power _ _ _ fun t r =>
      (congrArg (fun f : Firmware × Nat × Power => f.2.2) ((t.unmask r).releaseReq_firmware r Status.cancelled) :)
  have hclosed : ∀ (t : State) (n : Nat), (t.closeContexts n).power = t.power := fun t n =>
    (congrArg State.power (t.closeContexts_offObjects n) :)
  exact (foldl_keeps State.power _ _ _ hclosed).trans hdropped

/-- UNPAIR leaves no partner, no link and no fence of the pair (R337). -/
theorem unpairRun_spec (b : State) (c : CmdRef) : ∃ t : State, unpairRun c b = t.pairReply c ∧ t.escort.role = 0 ∧
    t.escort.partner = 0 ∧ t.escort.copying = false ∧ t.escort.linkUp = false ∧ t.mls.fenceSelf = false ∧
    (b.power.leaving = none → t.mls.egressClosed = false ∧ t.mls.fenceLeave = false) := by
  unfold unpairRun
  extract_lets dropped cleared _ _ opened unfenced
  have hdropped : dropped.power = b.power := by
    dsimp only [dropped]
    split_ifs
    · exact (congrArg State.power b.pairAlone_trunk :)
    · rfl
    · exact (State.dropCopied_power _).trans (congrArg (fun v => v.1) b.discardLedger_powerView)
  obtain ⟨events, hpair⟩ := dropped.uncoverBays.setPair_escort 0 0 0
  have hpairPower : (dropped.uncoverBays.setPair 0 0 0).power = b.power :=
    (congrArg State.power (dropped.uncoverBays.setPair_trunk 0 0 0) :).trans hdropped
  obtain ⟨hescort, hview, hfences⟩ := (dropped.uncoverBays.setPair 0 0 0).clearSelfFence_pair
  have hpower : cleared.power = b.power := (congrArg (fun v => v.1) hview :).trans hpairPower
  have hrole : cleared.escort.role = 0 := by
    rw [show cleared.escort = _ from hescort, hpair]
  have hself : cleared.mls.fenceSelf = false := (congrArg (fun f => f.2.1) hfences :)
  clear_value cleared
  have hlast : unfenced.escort = opened.escort ∧ unfenced.mls.fenceSelf = false ∧
      (b.power.leaving = none → unfenced.mls.egressClosed = false ∧ unfenced.mls.fenceLeave = false) := by
    have hopened : opened.power = b.power := hpower
    dsimp only [unfenced]
    split
    · next hleaving =>
      rw [hopened] at hleaving
      exact ⟨rfl, hself, fun hnone => absurd hleaving (by simp [hnone])⟩
    · next hleaving =>
      obtain ⟨hsame, hset⟩ := opened.setFences_pair opened.mls.fenceBreakout opened.mls.fenceSelf false
      have hegress : opened.mls.egressClosed = false := by
        dsimp only [opened]
        rw [hopened] at hleaving
        rw [hpower, if_neg hleaving]
      exact ⟨hsame, (congrArg (fun f => f.2.1) hset :).trans hself, fun _ =>
        ⟨(congrArg (fun f => f.2.2.2) hset :).trans hegress, (congrArg (fun f => f.2.2.1) hset :)⟩⟩
  obtain ⟨hesc, hnoSelf, hfree⟩ := hlast
  obtain ⟨hbrkEscort, -, hbrkSelf, hbrkLeave, hbrkEgress⟩ := unfenced.settleBreakout_pair
  have hend : unfenced.settleBreakout.escort = opened.escort := hbrkEscort.trans hesc
  refine ⟨unfenced.settleBreakout, rfl, ?_, ?_, ?_, ?_, hbrkSelf.trans hnoSelf, fun hleaving => ?_⟩
  · rw [hend]
    exact hrole
  · rw [hend]
  · rw [hend]
  · rw [hend]
  · exact ⟨hbrkEgress.trans (hfree hleaving).1, hbrkLeave.trans (hfree hleaving).2⟩

/-! ## BEGIN_SHADOW, SWAP and ADMIT -/

theorem beginShadowRun_cases (p : ShadowParams) (b : State) (c : CmdRef) (hp : shadowOk p = true) :
    let q := shadowDefaults p
    let ok := b.escort.role = 1 ∧ b.escort.partnerRole = 4 ∧ b.escort.linkUp = true ∧ b.escort.job = none ∧
      bitOf b.mem.fence 11 = false
    (¬ ok → beginShadowRun p c b = b.reply c Status.notPermitted 0 0) ∧
    (ok →
      let a := b.accept c 0 0
      let t := ({ a with escort := { a.escort with
        copying := true, owed := [], partnerLeft := false, job := some (.resync c q (!b.escort.copyStopped)) } } :
          State).settleHealth
      let named := t.liveReqs.foldl (fun u r => u.setReq { r with copied := true }) t
      beginShadowRun p c b = (t.bulkItems (if b.escort.copyStopped then none else some q)).foldl
        (fun u i => u.sendRec (.bulk i) (bulkBytes i)) named) := by
  intro q ok
  have hguard : (decide (b.escort.role ≠ 1) || decide (b.escort.partnerRole ≠ 4) || !b.escort.linkUp ||
      b.escort.job.isSome || bitOf b.mem.fence 11) = false ↔ ok := by
    simp [ok, and_assoc]
  unfold beginShadowRun
  rw [if_neg (by rw [hp]; decide)]
  refine ⟨fun hbad => if_pos (Bool.of_not_eq_false (mt hguard.mp hbad)), fun hok => ?_⟩
  rw [if_neg (by rw [hguard.mpr hok]; decide)]
  cases b.escort.copyStopped <;> rfl

theorem promoteSwapRun_begins {b : State} (c : CmdRef) (hrole : b.escort.role = 1) (hhealth : b.escort.health = 1)
    (hepoch : b.escort.epoch ≠ epochMax) (hjob : b.escort.job = none) :
    promoteSwapRun c b = { b with escort := { b.escort with job := some (.swap c false) } } :=
  if_neg (by simp [hrole, hhealth, hepoch, hjob])

/-- ADMIT on a module with no token bale seated: a shadow becomes the escort, and the active of a shadow ends its window
(R360). -/
theorem promoteAdmitRun_cases (b : State) (c : CmdRef) :
    (b.tokenBaleSeated = true → promoteAdmitRun c b = b.reply c Status.notPermitted 0 0) ∧
    (b.tokenBaleSeated = false → b.escort.role = 3 → promoteAdmitRun c b =
      ((({ b with escort := { b.escort with shadow := none } } : State).setPair 2 3 0).settleHealth).reply c
        Status.done 0 0) ∧
    (b.tokenBaleSeated = false → b.escort.role = 1 → b.escort.partnerRole = 3 →
      (b.escort.job = none → promoteAdmitRun c b = (b.sendRec (.bulk (.last none)) 64).reply c Status.done 0 0) ∧
      (∀ w p, b.escort.job = some (.window w p) → promoteAdmitRun c b =
        ((({ b with escort := { b.escort with job := none } } : State).reply w Status.done 0 0).sendRec
          (.bulk (.last none)) 64).reply c Status.done 0 0)) := by
  unfold promoteAdmitRun
  refine ⟨fun hseated => if_pos hseated, fun hfree hrole => ?_, fun hfree hrole hpartner => ?_⟩
  · rw [if_neg (by simp [hfree]), if_pos hrole]
  · rw [if_neg (by simp [hfree]), if_neg (by omega), if_pos (by simp [hrole, hpartner])]
    refine ⟨fun hnone => ?_, fun w p hwindow => ?_⟩
    · rw [hnone]
    · rw [hwindow]

/-- Settles O55, command by command. -/
theorem escortCommands : Obligations.EscortCommands := by
  refine ⟨?pair, ?unpair, ?rule, ?shadow, ?promote⟩
  case pair =>
    intro h joiner slot serial floor pe pr gmax gmin format trained spdm asks s hstart b c top run agrees position
    have hcmd : run = .next (pairRun joiner slot serial floor pe ⟨pr, gmax, gmin, format⟩ trained spdm asks c b) :=
      next_cmd_started hstart _
    have hagrees : agrees ↔ helloAgrees gmax gmin format = true := by
      simp [agrees, helloAgrees, and_assoc]
    refine ⟨fun st hrefused => ?_, fun hfine hapart => ?_, fun hfine hok => ?_⟩
    · obtain ⟨t, hrun, hescort⟩ := pairRun_refused (hello := ⟨pr, gmax, gmin, format⟩) c hrefused
      exact ⟨t, hcmd.trans (congrArg _ hrun), hescort⟩
    · obtain ⟨t, hrun, hescort⟩ := pairRun_mismatch (hello := ⟨pr, gmax, gmin, format⟩) c hfine
        (Bool.eq_false_iff.mpr fun h => hapart (hagrees.mpr h))
      exact ⟨t, hcmd.trans (congrArg _ hrun), hescort⟩
    · obtain ⟨u, mine, randoms, hrun⟩ := pairRun_pairs (pr := pr) c hfine (hagrees.mp hok)
      have hpaired := u.pairedAs_spec position serial (top + 1) (if joiner then 1 else 4)
        (if position = 0 then Config.pairKey Config.serial serial mine pr
          else Config.pairKey serial Config.serial pr mine) randoms
      have hend := hcmd.trans (congrArg Host.Outcome.next hrun)
      generalize u.pairedAs position serial (top + 1) (if joiner then 1 else 4)
        (if position = 0 then Config.pairKey Config.serial serial mine pr
          else Config.pairKey serial Config.serial pr mine) randoms = v at hpaired hend
      obtain ⟨hkey, hpartner, hepoch, hpersist, hcopying, hlink, hposition⟩ := hpaired
      obtain ⟨⟨events, hescort⟩, hstored, hself⟩ := v.takeRole_spec (if joiner then 4 else 1)
      refine ⟨_, mine, hend, ?_, ?_, ?_, ?_, (congrArg Persist.epoch hstored).trans hpersist, ?_, ?_, hself, ?_⟩ <;>
        rw [hescort] <;> assumption
  case unpair =>
    intro h s hstart
    have hcmd : exec (.pairEscortUnpair h) s = .next (unpairRun (cmdRef 0x0701 h s) (s.started 0x0701 h)) :=
      next_cmd_started hstart _
    obtain ⟨t, hrun, hrole, hpartner, hcopying, hlink, hself, hleft⟩ :=
      unpairRun_spec (s.started 0x0701 h) (cmdRef 0x0701 h s)
    have hpower : (s.started 0x0701 h).power = s.power := (congrArg State.power (s.started_trunk 0x0701 h) :)
    exact ⟨t, hcmd.trans (congrArg _ hrun), hrole, hpartner, hcopying, hlink, hself,
      fun hleaving => hleft (by rw [hpower]; exact hleaving)⟩
  case rule =>
    intro h rule nLink nMgmt s hstart hrule hlink hmgmt b
    exact (next_cmd_started hstart _).trans (congrArg _ (if_neg (by simp; omega)))
  case shadow =>
    intro h p s hstart hp b c q ok
    have hcmd : exec (.beginShadow h p) s = .next (beginShadowRun p c b) := next_cmd_started hstart _
    rw [hcmd]
    obtain ⟨hbad, hgood⟩ := beginShadowRun_cases p b c hp
    exact ⟨fun hnot => congrArg _ (hbad hnot), fun hok => congrArg _ (hgood hok)⟩
  case promote =>
    intro h s hstart b c
    have hswap : exec (.promoteEscortSwap h) s = .next (promoteSwapRun c b) := next_cmd_started hstart _
    have hadmit : exec (.promoteEscortAdmit h) s = .next (promoteAdmitRun c b) := next_cmd_started hstart _
    obtain ⟨hseated, hshadow, hactive⟩ := promoteAdmitRun_cases b c
    rw [hswap, hadmit]
    exact ⟨fun hrole hhealth hepoch hjob => congrArg _ (promoteSwapRun_begins c hrole hhealth hepoch hjob),
      fun h => congrArg _ (hseated h), fun hfree hrole => congrArg _ (hshadow hfree hrole),
      fun hfree hrole hpartner => ⟨fun hnone => congrArg _ ((hactive hfree hrole hpartner).1 hnone),
        fun w p hwindow => congrArg _ ((hactive hfree hrole hpartner).2 w p hwindow)⟩⟩

end Sys2Proof.Machine
end

section
/-! PROOF. Pair events: obligation O56. -/

namespace Sys2Proof.Machine

/-! ## Heartbeats and the management path -/

theorem heartbeatSend_sends {s : State} (hruns : s.heartbeatsRun = true) (hlink : s.escort.linkUp = true)
    (hstay : ∀ l, s.power.leaving = some l → l.fenced = false) (hdue : s.escort.sentLink + 50000 ≤ s.mls.uptime) :
    exec .heartbeatSend s = .next (({ s with escort := { s.escort with sentLink := s.mls.uptime } } : State).emit
      (.escort (.heartbeat s.escort.epoch s.escort.role s.escort.health s.escort.newestEnd s.mls.time
        s.escort.leaving))) := by
  have hquiet : (s.power.leaving.any fun l => l.fenced) = false := by
    cases hleaving : s.power.leaving with
    | none => rfl
    | some l => exact hstay l hleaving
  exact if_pos (by rw [hruns, hlink, hquiet, (s.elapsed_iff _ _).mpr hdue]; rfl)

theorem mgmtHeartbeatSend_sends {s : State} (hruns : s.heartbeatsRun = true)
    (hdue : s.escort.sentMgmt + 1000000 ≤ s.mls.uptime) :
    exec .mgmtHeartbeatSend s = .next (({ s with escort := { s.escort with sentMgmt := s.mls.uptime } } : State).emit
      (.mgmtHeartbeat Config.serial s.escort.epoch s.escort.role s.mls.time s.escort.leaving)) :=
  if_pos (by rw [hruns, (s.elapsed_iff _ _).mpr hdue]; rfl)

/-- A heartbeat on the management path counts from the partner alone (R349). -/
theorem mgmtHeartbeatReceive_cases {s : State} (serial epoch role time : Nat) (leaving : Bool)
    (hpaired : s.escort.role ≠ 0) :
    (serial = s.escort.partner → exec (.mgmtHeartbeatReceive (.heartbeat serial epoch role time leaving)) s =
      .next ((({ s with escort := { s.escort with lastMgmt := s.mls.uptime } } : State).seeEpoch epoch 1).seePartner role
        leaving)) ∧
    (serial ≠ s.escort.partner →
      exec (.mgmtHeartbeatReceive (.heartbeat serial epoch role time leaving)) s = .next s) := by
  refine ⟨fun hpartner => (if_neg (by simp [hpaired, hpartner])).trans (congrArg _ (if_neg hpaired)), fun hother => ?_⟩
  exact if_pos (by simp [hother])

/-! ## Cells -/

/-- A cell is NACKed, acknowledged again or applied by its code, its tag and its place in the order (R339 to R341, R346). -/
theorem escortCellReceive_cases {s : State} (c : Cell) (hlink : s.escort.linkUp = true) (hpaired : s.escort.role ≠ 0) :
    let next := s.escort.rxSeq + 1
    (c.fecOk = false ∨ s.cellTagHolds c = false →
      exec (.escortCellReceive c) s = .next (s.emit (.escort (.nack next 1)))) ∧
    (c.fecOk = true → s.cellTagHolds c = true → c.format = 1 → c.ctype ≤ 1 →
      (c.seq < next → exec (.escortCellReceive c) s = .next s.sendAck) ∧
      (next < c.seq → exec (.escortCellReceive c) s = .next (s.emit (.escort (.nack next (c.seq - s.escort.rxSeq))))) ∧
      (c.seq = next → s.mem.poison.any (inStaging next) = true →
        exec (.escortCellReceive c) s = .next (s.refuseStaged next)) ∧
      (c.seq = next → s.mem.poison.any (inStaging next) = false →
        exec (.escortCellReceive c) s = .next (s.applyCell c))) := by
  intro next
  have hexec : exec (.escortCellReceive c) s =
      if !c.fecOk || !s.cellTagHolds c then .next (s.emit (.escort (.nack next 1)))
      else if c.format ≠ 1 || c.ctype > 1 || c.seq < next then .next s.sendAck
      else if c.seq > next then .next (s.emit (.escort (.nack next (c.seq - s.escort.rxSeq))))
      else if s.mem.poison.any (inStaging c.seq) then .next (s.refuseStaged c.seq)
      else .next (s.applyCell c) := if_neg (by simp [hlink, hpaired])
  rw [hexec]
  refine ⟨fun hbad => if_pos ?_, fun hfec htag hformat htype => ?_⟩
  · obtain h | h := hbad <;> simp [h]
  · rw [if_neg (by simp [hfec, htag])]
    refine ⟨fun hold => if_pos (by simp [hold]), fun hgap => ?_, fun hnext hpoison => ?_, fun hnext hwhole => ?_⟩
    · rw [if_neg (by simp [hformat]; omega), if_pos hgap]
    · rw [if_neg (by simp [hformat]; omega), if_neg (by omega), hnext, if_pos hpoison]
    · rw [if_neg (by simp [hformat]; omega), if_neg (by omega), hnext, if_neg (by rw [hwhole]; decide)]

/-! ## The dead rule and the self-fence -/

theorem deadDeclaration_cases {s : State} (hrole : s.escort.role = 2) :
    (s.deadRuleHolds = true → s.escort.epoch ≠ epochMax → exec .deadDeclaration s = .next s.takeOver) ∧
    (s.deadRuleHolds = true → s.escort.epoch = epochMax → s.escort.stuckRaised = false → exec .deadDeclaration s =
      .next (({ s with escort := { s.escort with stuckRaised := true } } : State).event 0 0x0705 epochMax 0)) ∧
    (s.deadRuleHolds = false → s.escort.mgmtLost = false → s.escort.lastLink + s.tDead ≤ s.mls.uptime →
      s.missedMgmt < s.escort.nMgmt → exec .deadDeclaration s = .next (s.detach 0)) := by
  have hexec : exec .deadDeclaration s = execDeadDeclaration s := rfl
  rw [hexec, execDeadDeclaration, if_neg (not_not_intro hrole)]
  refine ⟨fun hdead hepoch => ?_, fun hdead hstuck hfirst => ?_, fun halive hmgmt hlink hmissed => ?_⟩
  · rw [if_pos hdead, if_neg hepoch]
  · rw [if_pos hdead, if_pos hstuck, if_neg (by rw [hfirst]; decide)]
  · rw [if_neg (by rw [halive]; decide), if_pos ?_]
    rw [hmgmt, (s.elapsed_iff _ _).mpr hlink, decide_eq_true hmissed]
    rfl

theorem selfFence_cases {s : State} (hrole : s.escort.role = 1) (hleft : s.escort.partnerLeft = false) :
    (s.escort.mgmtLost = true → s.escort.nLink ≤ s.missedLink → s.mls.fenceSelf = false → s.escort.copying = true →
      let f := ((s.setFences s.mls.fenceBreakout true s.mls.fenceLeave).escRaise 16).event 0 0x0706 0 1
      (s.escort.partnerRole = 2 → s.escort.job = none → exec .selfFence s = .next f.settleHealth) ∧
      (s.escort.partnerRole ≠ 2 ∨ s.escort.job ≠ none → exec .selfFence s = .next f.pairAlone)) ∧
    (s.escort.mgmtLost = false → s.escort.lastLink + s.tDead ≤ s.mls.uptime → s.escort.copying = true →
      exec .selfFence s = .next s.pairAlone) := by
  have hexec : exec .selfFence s = execSelfFence s := rfl
  rw [hexec, execSelfFence]
  rw [if_neg (by simp [hrole, hleft])]
  refine ⟨?fences, fun hmgmt hdue hcopying => ?alone⟩
  case fences =>
    intro hmgmt hlink hself hcopying f
    rw [if_pos (by simp [hmgmt, hlink]), if_neg (by rw [hself]; decide)]
    refine ⟨fun hpartner hjob => congrArg _ (if_pos (by simp [hcopying, hpartner, hjob])), fun hother => ?_⟩
    refine congrArg _ ((if_neg fun hboth => ?_).trans (if_pos (by simp [hcopying])))
    simp only [hcopying, Bool.true_and, Bool.and_eq_true, decide_eq_true_eq, Option.isNone_iff_eq_none] at hboth
    exact hother.elim (fun h => h hboth.1) fun h => h hboth.2
  case alone => rw [if_neg (by simp [hmgmt]), if_pos (by simp [hmgmt, hcopying, (s.elapsed_iff _ _).mpr hdue])]

/-! ## The link -/

theorem linkDown_cases {s : State} {port : Nat} (hlink : s.escort.linkUp = true) (hport : port ≤ 1) :
    (s.escort.halfPort = none → exec (.linkHalf port) s = .next ((({ s with escort := { s.escort with
      halfPort := some (1 - port) } } : State).escRaise 32).event 0 0x0708 port 0)) ∧
    (s.escort.halfPort = some port → exec (.linkHalf port) s = .next s.linkLost) ∧
    exec .escortLinkDown s = .next s.linkLost := by
  have hexec : exec (.linkHalf port) s = execLinkHalf port s := rfl
  rw [hexec, execLinkHalf, if_neg (by simp [hlink, Nat.not_lt.mpr hport])]
  refine ⟨fun hnone => ?_, fun hhalf => ?_, congrArg _ (if_pos hlink)⟩
  · rw [hnone]
  · rw [hhalf]
    exact congrArg _ (if_pos rfl)

theorem escortLinkUp_cases {s : State} (gmax gmin format random : Nat) (hpaired : s.escort.role ≠ 0)
    (hdown : s.escort.linkUp = false) (hcables : s.escort.cables ≠ []) :
    (gmin ≤ 1 → 1 ≤ gmax → format = 1 → exec (.escortLinkUp s.escort.partner gmax gmin format random) s =
      .next (s.linkTrained random)) ∧
    ((1 < gmin ∨ gmax < 1 ∨ format ≠ 1) →
      let d : State := { s with free := s.free + 1 }
      exec (.escortLinkUp s.escort.partner gmax gmin format random) s =
        .next ((d.sendHello s.escort.position (Config.randomKey s.free)).event 0 0x0707 0 (gmax + 256 * format))) := by
  have hexec : exec (.escortLinkUp s.escort.partner gmax gmin format random) s =
    execEscortLinkUp s.escort.partner gmax gmin format random s := rfl
  rw [hexec, execEscortLinkUp, if_neg (by simp [hpaired, hdown, hcables])]
  refine ⟨fun hmin hmax hformat => if_neg ?_, fun hapart => if_pos ?_⟩
  · simp [helloAgrees, hmin, hmax, hformat]
  · simp only [helloAgrees, Bool.not_eq_true', Bool.and_eq_false_iff, decide_eq_false_iff_not]
    omega

/-! ## The bulk transfer, the window and the planned swap -/

theorem bulkTransferEnd_cases {s : State} (c : CmdRef) (p : ShadowParams) (hrole : s.escort.role = 1)
    (hsent : ∀ r ∈ s.escort.retention, ∀ i, r.2.2.2 ≠ .bulk i) :
    (s.escort.job = some (.resync c p true) → s.escort.partnerRole = 3 → exec .bulkTransferEnd s =
      .next (({ s with escort := { s.escort with job := some (.window c p) } } : State).settleHealth)) ∧
    (s.escort.job = some (.resync c p false) → s.escort.partnerRole = 2 → exec .bulkTransferEnd s =
      .next ((({ s with escort := { s.escort with job := none, copyStopped := false } } : State).settleHealth).reply c
        Status.done 0 0)) := by
  have hexec : exec .bulkTransferEnd s = execBulkTransferEnd s := rfl
  have hnone : (s.escort.retention.any fun r => match r.2.2.2 with | .bulk _ => true | _ => false) = false := by
    refine List.any_eq_false.mpr fun r hr => ?_
    have hno := hsent r hr
    split
    · next i heq => exact absurd heq (hno i)
    · decide
  rw [hexec, execBulkTransferEnd]
  have hgo : ¬ ((s.escort.retention.any (fun r => match r.2.2.2 with | .bulk _ => true | _ => false) ||
      decide (s.escort.role ≠ 1)) = true) := by
    rw [hnone, hrole]
    decide
  refine ⟨fun hjob hpartner => ?_, fun hjob hpartner => ?_⟩
  · rw [hjob]
    exact (if_neg hgo).trans ((if_pos rfl).trans (if_pos hpartner))
  · rw [hjob]
    exact (if_neg hgo).trans ((if_neg (by decide)).trans (if_pos hpartner))

theorem shadowWindowEnd_active {s : State} {c : CmdRef} {p : ShadowParams} (agree compared : Nat) {convoys : Nat}
    (distance : F32) (hrole : s.escort.role = 1) (hjob : s.escort.job = some (.window c p))
    (hwindow : p.window ≤ convoys) (hconvoys : convoys < 2 ^ 32) :
    let result := (if windowPasses p agree compared distance then 1 else 0)
    exec (.shadowWindowEnd agree compared convoys distance) s = .next ((({ s with escort := { s.escort with job := none } } :
      State).event 0 0x0704 0 (result + 256 * agreement agree compared)).reply c Status.done
        (result + 65536 * agreement agree compared + 2 ^ 32 * convoys) distance.toNat) := by
  intro result
  have hexec : exec (.shadowWindowEnd agree compared convoys distance) s =
    execShadowWindowEnd agree compared convoys distance s := rfl
  rw [hexec, execShadowWindowEnd]
  simp only [hrole, hjob, Nat.mod_eq_of_lt hconvoys]
  exact if_neg (Nat.not_lt.mpr hwindow)

/-- A pair that is ALONE, or whose health is brought up to date, keeps its role and epoch. -/
theorem State.settled_escort (u : State) (alone : Bool) :
    (if alone then u.pairAlone else u.settleHealth).escort.role = u.escort.role ∧
    (if alone then u.pairAlone else u.settleHealth).escort.epoch = u.escort.epoch := by
  split
  · exact ⟨u.pairAlone_escort.2.2, u.pairAlone_escort.2.1⟩
  · obtain ⟨events, h⟩ := u.setPair_escort u.escort.role u.pairHealth 0
    exact ⟨(congrArg Escort.role h :), (congrArg Escort.epoch h :)⟩

/-- The escort of a drained swap becomes ACTIVE at the next epoch (R361). -/
theorem plannedSwapHandover_escort {s : State} (hrole : s.escort.role = 2) (hhealth : s.escort.health = 1)
    (hheld : s.escort.held = []) (hepoch : s.escort.epoch ≠ epochMax) :
    ∃ t, exec .plannedSwapHandover s = .next t ∧ t.escort.role = 1 ∧ t.escort.epoch = s.escort.epoch + 1 := by
  have hexec : exec .plannedSwapHandover s = execPlannedSwapHandover s := rfl
  obtain ⟨streams, hset⟩ := s.setEpoch_sets (s.escort.epoch + 1)
  have hepochSet : (s.setEpoch (s.escort.epoch + 1)).escort.epoch = s.escort.epoch + 1 := by rw [hset]
  rw [hexec, execPlannedSwapHandover]
  simp only [hrole]
  generalize s.setEpoch (s.escort.epoch + 1) = raised at hepochSet
  refine ⟨_, if_neg (by simp [hhealth, hheld, hepoch]), ?_⟩
  obtain ⟨events, hpair⟩ := State.setPair_escort { raised with escort := { raised.escort with
    partnerRole := 2, retention := [], uncovered := [], copying := true, job := none } } 1 1 0
  exact ⟨(State.settled_escort _ _).1.trans (congrArg Escort.role hpair),
    (State.settled_escort _ _).2.trans ((congrArg Escort.epoch hpair).trans hepochSet)⟩

/-- Settles O56, event by event. -/
theorem escortEvents : Obligations.EscortEvents := by
  refine ⟨fun s hruns hlink hstay hdue => heartbeatSend_sends hruns hlink hstay hdue,
    fun s hruns hdue => mgmtHeartbeatSend_sends hruns hdue,
    fun s c hlink hpaired => escortCellReceive_cases c hlink hpaired,
    fun s hpaired => congrArg _ (if_neg hpaired),
    fun s serial epoch role time leaving hpaired => mgmtHeartbeatReceive_cases serial epoch role time leaving hpaired,
    fun s hdue hkept hpaired => ?path, fun s hrole => deadDeclaration_cases hrole,
    fun s hrole hleft => selfFence_cases hrole hleft, fun s port hlink hport => linkDown_cases hlink hport,
    fun s gmax gmin format random hpaired hdown hcables =>
      escortLinkUp_cases gmax gmin format random hpaired hdown hcables,
    fun s port lanes mbps present hport => ?cable, fun s c p hrole hsent => bulkTransferEnd_cases c p hrole hsent,
    fun s c p agree compared convoys distance hrole hjob hwindow hconvoys =>
      shadowWindowEnd_active agree compared distance hrole hjob hwindow hconvoys,
    fun s c removal hrole hjob => ?swap,
    fun s hrole hhealth hheld hepoch => plannedSwapHandover_escort hrole hhealth hheld hepoch⟩
  case path =>
    have hgo : (s.elapsed s.escort.lastKeep 3000000 && !s.escort.mgmtLost) = true := by
      rw [hkept, (s.elapsed_iff _ _).mpr hdue]
      rfl
    exact (if_pos hgo).trans (congrArg _ (if_neg hpaired))
  case cable =>
    refine (if_neg (by omega)).trans ?_
    cases present <;> simp
  case swap =>
    have hexec : exec .plannedSwapHandover s = .next (if s.swapDrained then s.swapDone c removal else s) := by
      have hrun : exec .plannedSwapHandover s = execPlannedSwapHandover s := rfl
      simp only [hrun, execPlannedSwapHandover, hrole, hjob]
    rw [hexec]
    exact ⟨fun hdrained => congrArg _ (if_pos hdrained), fun hbusy => congrArg _ (if_neg (by rw [hbusy]; decide))⟩

end Sys2Proof.Machine
end
